-- ==== Sys2Proof/Word.lean ====
section
/-! DEFINITION. The word types of the model and the sparse table type. Clemal is a block of registers, counters and
buffers: register values and addresses are kept as naturals below a stated width (the object table gives the width of every
dictionary object), bytes are 8-bit vectors, and every addressed thing (dictionary objects, per-tile and per-port units,
rings, policers, buffers) is held in one kind of sparse table. -/

namespace Sys2Proof

/-- A byte of a value, a frame or a record. -/
abbrev Byte := BitVec 8

/-- Bytes in order; multi-byte fields of dictionary values are little-endian (R6, R11). -/
abbrev Bytes := List Byte

/-- A sparse table: key and value pairs, keys strictly rising. What an unlisted key reads as is given at each use. -/
abbrev Tbl (α : Type) := List (Nat × α)

end Sys2Proof
end

