-- ==== Sys2Proof/Syntax.lean ====
section
/-! DEFINITION. The commands Clemal takes: one constructor of `Instr` for each row of the operation and event table.

Every command carries `now`, the instant at which it happens, in units of 2^-16 ns on the scale of `State.now`
(DESIGN CHOICE, assumption 1). Operand names: `t` tile, `p` global port, `l` global lane, `k` col link, key slot, version
slot or page, `ch` AFI channel, `d` domain (0 A, 1 B, 2 L), `r` the requester of R125 that makes a write or an operation,
`data` the bytes the command carries, `fid` the number the sender gives a frame, `h` the index of a frame's copy (0 is the
original), `rep` a replica (the tile number for a tile replica, 8 plus the global port for a port-slot replica). -/

namespace Sys2Proof

/-- A requester of the dictionary (R125): a tile's mailbox; a Zwiwa session or an unauthenticated Zwiwa client identity; an
in-band session or a client outside one (R143); or the stack master relaying a request (R631). -/
inductive Requester where
  | mailbox (t : Nat)
  | zwSession (client : Nat)
  | zwClient (client : Nat)
  | ibSession (client : Nat)
  | ibClient (client : Nat)
  | relay (client : Nat)
deriving DecidableEq, Repr

/-- One AFI flit on a transmit channel (R54 to R56): the fields of its sideband word, and its valid bytes. -/
structure Flit where
  sof   : Bool
  eof   : Bool
  /-- BYTES of R56: 1 to 63, or 0 for 64, on an EOF flit. -/
  bytes : Nat
  err   : Bool
  ctx   : Nat
  data  : Bytes
deriving DecidableEq, Repr

/-- What one lane saw of a codeword (R168): the lane of the port, and how many corrected symbols arrived on it. -/
structure LaneSym where
  lane : Nat
  corr : Nat
deriving DecidableEq, Repr

/-- What an Ethernet, SGMII or span partner shows when it is detected (R188, R189, R215, R248): the port mode of the highest
common denominator, whether it advertised EEE, and the OUI and the code field of a pair of OUI-tagged next pages. -/
structure Partner where
  hcd  : Nat
  eee  : Bool
  page : Option (Nat × Nat)
deriving DecidableEq, Repr

/-- What the clock recovery measured in a window of 1 µs (R164): the offset in 0.01 ppm and the cycle slips. -/
structure CdrWindow where
  ppm   : Int
  slips : Nat
deriving DecidableEq, Repr

/-- What the partner's training status says of a lane (R160, R191): receiver ready, and whether it asks for precoding. -/
structure PartnerTrain where
  ready   : Bool
  precode : Bool
deriving DecidableEq, Repr

/-- A partner's request in link training (R153, R190): a preset, or one step of one tap (0 pre, 1 main, 2 post). -/
inductive CoeffReq where
  | preset (k : Nat)
  | inc (tap : Nat)
  | dec (tap : Nat)
deriving DecidableEq, Repr

/-- The payload of a CAP control block (R204, R616). -/
structure Cap where
  version  : Nat
  mode     : Nat
  width    : Nat
  sparing  : Bool
  shed     : Bool
  minWidth : Nat
  seen     : Bool
  en       : Bool
  member   : Nat
  priority : Nat
  stackId  : Nat
deriving DecidableEq, Repr

/-- The commands. -/
inductive Instr where
  /-- PKG_PWR_OK_CHANGE (R101). -/
  | pkgPwrOkChange (now : Nat) (level : Bool)
  /-- PKG_PORST_N_CHANGE (R634). -/
  | pkgPorstNChange (now : Nat) (level : Bool)
  /-- TILE_RST_N_PULSE (R101). -/
  | tileRstNPulse (now : Nat) (t : Nat) (width : Nat)
  /-- TILE_RESET_RELEASE (R634). -/
  | tileResetRelease (now : Nat) (t : Nat)
  /-- TILE_VREG_RDY_RISE (R565). -/
  | tileVregRdyRise (now : Nat) (t : Nat)
  /-- TILE_VREG_TIMEOUT (R565). -/
  | tileVregTimeout (now : Nat) (t : Nat)
  /-- TILE_OSC_RDY_RISE (R565). -/
  | tileOscRdyRise (now : Nat) (t : Nat)
  /-- TILE_OSC_TIMEOUT (R565). -/
  | tileOscTimeout (now : Nat) (t : Nat)
  /-- RETRY_WAIT_END (R565). -/
  | retryWaitEnd (now : Nat) (t : Nat)
  /-- WAKE_RDY_DROP (R565). -/
  | wakeRdyDrop (now : Nat) (t : Nat) (osc : Bool)
  /-- TILE_SUPPLY_FAULT (R104). -/
  | tileSupplyFault (now : Nat) (t : Nat) (osc : Bool)
  /-- DOMAIN_POWER_ON_DONE (R558). -/
  | domainPowerOnDone (now : Nat) (t : Nat) (dom : Nat)
  /-- POWER_UP_DONE (R637). -/
  | powerUpDone (now : Nat) (t : Nat)
  /-- FW_LOAD_DONE (R637). -/
  | fwLoadDone (now : Nat) (t : Nat) (runOk : Bool) (stagedOk : Bool)
  /-- BIST_DONE (R637). -/
  | bistDone (now : Nat) (t : Nat) (failed : Bool) (block : Nat) (addr : Nat)
  /-- WIPE_DONE (R637). -/
  | wipeDone (now : Nat) (t : Nat)
  /-- JOIN_DONE (R637). -/
  | joinDone (now : Nat) (t : Nat)
  /-- AFI_RDY_RISE (R65). -/
  | afiRdyRise (now : Nat) (t : Nat) (ch : Nat)
  /-- AFI_RDY_FALL (R63). -/
  | afiRdyFall (now : Nat) (t : Nat) (ch : Nat) (hd : Bool)
  /-- AFI_CREDIT_RETURN (R64). -/
  | afiCreditReturn (now : Nat) (t : Nat) (ch : Nat) (n : Nat)
  /-- AFI_TX_FRAME (R61). -/
  | afiTxFrame (now : Nat) (t : Nat) (ch : Nat) (fid : Nat) (metaw : Nat) (flits : List Flit)
  /-- AFI_STALL (R104). -/
  | afiStall (now : Nat) (t : Nat) (ch : Nat)
  /-- AFI_RX_SEND (R57). -/
  | afiRxSend (now : Nat) (t : Nat) (ch : Nat) (crcBad : Nat)
  /-- MEM_READ_RESPONSE (R68). -/
  | memReadResponse (now : Nat) (t : Nat) (tag : Nat) (status : Nat) (data : Bytes)
  /-- DMA_TIMEOUT (R104). -/
  | dmaTimeout (now : Nat) (t : Nat) (tag : Nat)
  /-- MEM_WRITE_ERROR (R71). -/
  | memWriteError (now : Nat) (t : Nat) (rid : Nat) (addr : Nat) (status : Nat)
  /-- HD_MEM_RDY_CHANGE (R72). -/
  | hdMemRdyChange (now : Nat) (t : Nat) (level : Bool)
  /-- MEM_RDY_LOSS (R104). -/
  | memRdyLoss (now : Nat) (t : Nat)
  /-- WINDOW_WRITE (R74). -/
  | windowWrite (now : Nat) (t : Nat) (off : Nat) (size : Nat) (val : Nat)
  /-- DOORBELL_POST (R494). -/
  | doorbellPost (now : Nat) (t : Nat) (rx : Bool) (ring : Nat) (tail : Nat)
  /-- DOORBELL_RETRACT (R506). -/
  | doorbellRetract (now : Nat) (t : Nat) (rx : Bool) (ring : Nat) (tail : Nat)
  /-- TIME_SNAP (R80). -/
  | timeSnap (now : Nat) (t : Nat)
  /-- TIME_SNAP_DONE (R80). -/
  | timeSnapDone (now : Nat) (t : Nat)
  /-- TIME_SNAP_DONE_CLEAR (R79). -/
  | timeSnapDoneClear (now : Nat) (t : Nat)
  /-- CNT_SNAP (R532). -/
  | cntSnap (now : Nat) (t : Nat) (src : Nat)
  /-- CNT_SNAP_DONE (R84). -/
  | cntSnapDone (now : Nat) (t : Nat)
  /-- CNT_SNAP_DONE_CLEAR (R83). -/
  | cntSnapDoneClear (now : Nat) (t : Nat)
  /-- TSQ_POP (R85). -/
  | tsqPop (now : Nat) (t : Nat) (k : Nat) (size : Nat)
  /-- MBOX_DONE_CLEAR (R88). -/
  | mboxDoneClear (now : Nat) (t : Nat)
  /-- MBOX_COMPLETE (R115). -/
  | mboxComplete (now : Nat) (t : Nat)
  /-- NOP (R110). -/
  | nop (now : Nat) (r : Requester) (data : Bytes)
  /-- READ (R110). -/
  | read (now : Nat) (r : Requester) (idx : Nat) (sub : Nat) (data : Bytes)
  /-- WRITE (R109). -/
  | write (now : Nat) (r : Requester) (idx : Nat) (sub : Nat) (data : Bytes)
  /-- READ_RANGE (R111). -/
  | readRange (now : Nat) (r : Requester) (idx : Nat) (sub : Nat) (data : Bytes)
  /-- DESCRIBE (R112). -/
  | describe (now : Nat) (r : Requester) (idx : Nat) (sub : Nat) (data : Bytes)
  /-- GROUP_OPEN (R125). -/
  | groupOpen (now : Nat) (r : Requester) (data : Bytes)
  /-- GROUP_COMMIT (R128). -/
  | groupCommit (now : Nat) (r : Requester) (data : Bytes)
  /-- GROUP_ABORT (R126). -/
  | groupAbort (now : Nat) (r : Requester) (data : Bytes)
  /-- GROUP_APPLY (R129). -/
  | groupApply (now : Nat) (t : Nat)
  /-- GROUP_IDLE (R126). -/
  | groupIdle (now : Nat) (r : Requester)
  /-- KEY_CHALLENGE (R118). -/
  | keyChallenge (now : Nat) (t : Nat) (data : Bytes)
  /-- KEY_UNLOCK (R118). -/
  | keyUnlock (now : Nat) (t : Nat) (data : Bytes)
  /-- KEY_LOCK (R119). -/
  | keyLock (now : Nat) (t : Nat) (data : Bytes)
  /-- WK_IDLE_EXPIRY (R119). -/
  | wkIdleExpiry (now : Nat) (t : Nat)
  /-- KEY_LOCKOUT_END (R120). -/
  | keyLockoutEnd (now : Nat) (t : Nat)
  /-- KEY_WRAPPED_WRITE (R121). -/
  | keyWrappedWrite (now : Nat) (r : Requester) (k : Nat) (data : Bytes)
  /-- SESSION_OPEN (R138). -/
  | sessionOpen (now : Nat) (r : Requester) (data : Bytes)
  /-- SESSION_PROVE (R138). -/
  | sessionProve (now : Nat) (r : Requester) (auth : Bool) (fresh : Nat) (data : Bytes)
  /-- SESSION_CLOSE (R140). -/
  | sessionClose (now : Nat) (r : Requester) (data : Bytes)
  /-- ZW_SESSION_IDLE (R140). -/
  | zwSessionIdle (now : Nat) (r : Requester)
  /-- ZW_FRAGMENT (R135). -/
  | zwFragment (now : Nat) (ident : Nat) (msg : Bytes)
  /-- ZW_FRAG_TIMEOUT (R135). -/
  | zwFragTimeout (now : Nat) (client : Nat)
  /-- ZW_RESPONSE_SEND (R136). -/
  | zwResponseSend (now : Nat) (client : Nat)
  /-- HEARTBEAT (R133). -/
  | heartbeat (now : Nat)
  /-- BUS_OFF_RECOVERY (R131). -/
  | busOffRecovery (now : Nat)
  /-- INBAND_FRAME (R141). -/
  | inbandFrame (now : Nat) (p : Nat) (data : Bytes)
  /-- INBAND_RESPONSE (R144). -/
  | inbandResponse (now : Nat) (client : Nat)
  /-- ZW_WAKE_FRAME (R579). -/
  | zwWakeFrame (now : Nat) (ident : Nat) (data : Bytes)
  /-- EVT_ENABLE_WRITE (R96). -/
  | evtEnableWrite (now : Nat) (r : Requester) (t : Nat) (data : Bytes)
  /-- EVENT_REPORT (R600). -/
  | eventReport (now : Nat) (t : Nat)
  /-- AGG_ENTRY_CLOSE (R600). -/
  | aggEntryClose (now : Nat) (t : Nat) (kind : Nat) (cls : Nat) (src : Nat)
  /-- ROOT_DISTRIBUTE (R603). -/
  | rootDistribute (now : Nat) (t : Nat) (src : Nat) (kind : Nat) (cls : Nat) (sid : Nat) (start : Bool)
  /-- EVT_RECORD_WRITE (R93). -/
  | evtRecordWrite (now : Nat) (t : Nat)
  /-- EVT_HOLDOFF_END (R94). -/
  | evtHoldoffEnd (now : Nat) (t : Nat)
  /-- TIME_BUS_WORD (R98). -/
  | timeBusWord (now : Nat) (t : Nat)
  /-- LANE_LOS_ASSERT (R162): the largest amplitude of the last `ns` ns, in mVppd. -/
  | laneLosAssert (now : Nat) (l : Nat) (mv : Nat) (ns : Nat)
  /-- LANE_LOS_DEASSERT (R162). -/
  | laneLosDeassert (now : Nat) (l : Nat) (mv : Nat) (ns : Nat)
  /-- LANE_LOL_ASSERT (R164): the last windows, oldest first. -/
  | laneLolAssert (now : Nat) (l : Nat) (windows : List CdrWindow)
  /-- LANE_LOL_DEASSERT (R164). -/
  | laneLolDeassert (now : Nat) (l : Nat) (windows : List CdrWindow)
  /-- SNR_WINDOW_END (R167). -/
  | snrWindowEnd (now : Nat) (l : Nat) (snr : Nat) (start : Nat)
  /-- ADAPT_UPDATE (R158). -/
  | adaptUpdate (now : Nat) (l : Nat) (ctle : Nat) (ffe : List Int) (dfe : Int)
  /-- FEC_CODEWORD (R168). -/
  | fecCodeword (now : Nat) (p : Nat) (corr : List LaneSym) (uncorr : Bool)
  /-- HIST_CLEAR (R170). -/
  | histClear (now : Nat) (r : Requester) (l : Nat) (data : Bytes)
  /-- TX_FIR_FIXED_WRITE (R154). -/
  | txFirFixedWrite (now : Nat) (r : Requester) (l : Nat) (data : Bytes)
  /-- LOOP_WRITE (R173). -/
  | loopWrite (now : Nat) (r : Requester) (l : Nat) (data : Bytes)
  /-- TX_PATTERN_WRITE (R174). -/
  | txPatternWrite (now : Nat) (r : Requester) (l : Nat) (data : Bytes)
  /-- RX_CHECKER_WRITE (R175). -/
  | rxCheckerWrite (now : Nat) (r : Requester) (l : Nat) (data : Bytes)
  /-- CHK_LOCK_GAIN (R175): the last levels the receiver decided, oldest first, with precoding undone. -/
  | chkLockGain (now : Nat) (l : Nat) (levels : List Nat)
  /-- CHK_LOCK_LOSS (R175): the bits compared and found erroneous since the last report, and the number of bits that the last 1,024 errors lie within (0: fewer
  errors since the lock). -/
  | chkLockLoss (now : Nat) (l : Nat) (bits : Nat) (errs : Nat) (within : Nat)
  /-- LANE_REST_ENTER (R178). -/
  | laneRestEnter (now : Nat) (r : Requester) (l : Nat)
  /-- LANE_REST_ENTRY_DONE (R181). -/
  | laneRestEntryDone (now : Nat) (l : Nat)
  /-- LANE_REST_EXIT (R179). -/
  | laneRestExit (now : Nat) (r : Requester) (l : Nat)
  /-- LANE_PLL_LOCK (R179). -/
  | lanePllLock (now : Nat) (l : Nat)
  /-- LANE_PLL_TIMEOUT (R180). -/
  | lanePllTimeout (now : Nat) (l : Nat)
  /-- LANE_CAL_DONE (R179). -/
  | laneCalDone (now : Nat) (l : Nat)
  /-- LANE_SUPPLY_DIP (R657). -/
  | laneSupplyDip (now : Nat) (hv : Bool) (mv : Nat) (ns : Nat)
  /-- MAC_ENABLE_WRITE (R184). -/
  | macEnableWrite (now : Nat) (r : Requester) (p : Nat) (data : Bytes)
  /-- PARTNER_DETECTED (R188). -/
  | partnerDetected (now : Nat) (p : Nat) (partner : Partner)
  /-- RXDET_TIMEOUT (R184). -/
  | rxdetTimeout (now : Nat) (p : Nat)
  /-- TRAIN_COEFF_REQUEST (R190). -/
  | trainCoeffRequest (now : Nat) (l : Nat) (req : CoeffReq)
  /-- TRAINING_COMPLETE (R191): the partner's status by lane. -/
  | trainingComplete (now : Nat) (p : Nat) (status : List PartnerTrain)
  /-- TRAIN_TIMEOUT (R184). -/
  | trainTimeout (now : Nat) (p : Nat)
  /-- BITLOCK_TIMEOUT (R184). -/
  | bitlockTimeout (now : Nat) (p : Nat)
  /-- SYMBOL_LOCK_DONE (R198). -/
  | symbolLockDone (now : Nat) (p : Nat) (deskewPs : Nat) (skewBlocks : Nat)
  /-- SYMLOCK_TIMEOUT (R184). -/
  | symlockTimeout (now : Nat) (p : Nat)
  /-- CAP_EXCHANGE_DONE (R184): the partner PHY's speed, duplex and link bits, and for how many µs the condition has held. -/
  | capExchangeDone (now : Nat) (p : Nat) (speed : Nat) (half : Bool) (us : Nat) (linkBit : Bool)
  /-- CAPX_TIMEOUT (R184). -/
  | capxTimeout (now : Nat) (p : Nat)
  /-- PARTNER_RESTART (R193). -/
  | partnerRestart (now : Nat) (p : Nat)
  /-- BACKOFF_EXPIRY (R195). -/
  | backoffExpiry (now : Nat) (p : Nat)
  /-- LINK_STABLE_EXPIRY (R196). -/
  | linkStableExpiry (now : Nat) (p : Nat)
  /-- COMMA_RECEIVED (R201): the block found where a comma is expected or was found, and its place in the lane's count of blocks. -/
  | commaReceived (now : Nat) (l : Nat) (block : Nat) (bits : Nat)
  /-- CAP_BLOCK (R204). -/
  | capBlock (now : Nat) (l : Nat) (cap : Cap)
  /-- UNIT_RECEIVED (R207): a unit and the set of lanes it was striped over. -/
  | unitReceived (now : Nat) (p : Nat) (seq : Nat) (data : Bytes) (ucrc : Nat) (lanes : Nat)
  /-- UNIT_TRANSMIT (R207). -/
  | unitTransmit (now : Nat) (p : Nat)
  /-- ACK_RECEIVED (R207). -/
  | ackReceived (now : Nat) (p : Nat) (seq : Nat)
  /-- NAK_RECEIVED (R207). -/
  | nakReceived (now : Nat) (p : Nat) (seq : Nat)
  /-- LANE_DROP (R210). -/
  | laneDrop (now : Nat) (p : Nat) (lane : Nat) (restripe : Nat) (replay : Nat)
  /-- LANE_ADD (R212). -/
  | laneAdd (now : Nat) (p : Nat) (lane : Nat) (restripe : Nat)
  /-- LANE_ACK (R210). -/
  | laneAck (now : Nat) (p : Nat) (acked : Nat) (lane : Nat) (restripe : Nat)
  /-- SPAN_LANE_REJOIN (R212). -/
  | spanLaneRejoin (now : Nat) (l : Nat)
  /-- SHED_SUBWINDOW (R216). -/
  | shedSubwindow (now : Nat) (p : Nat) (sent : Nat) (rcvd : Nat)
  /-- SHED_WINDOW (R216). -/
  | shedWindow (now : Nat) (p : Nat) (sent : Nat) (rcvd : Nat)
  /-- SHED_REQ (R217). -/
  | shedReq (now : Nat) (p : Nat) (widen : Bool) (width : Nat) (token : Nat) (restripe : Nat)
  /-- SHED_RSP (R219). -/
  | shedRsp (now : Nat) (p : Nat) (widen : Bool) (width : Nat) (token : Nat) (result : Nat) (restripe : Nat)
  /-- SHED_SWITCH (R219). -/
  | shedSwitch (now : Nat) (p : Nat)
  /-- SHED_RELOCK_TIMEOUT (R219). -/
  | shedRelockTimeout (now : Nat) (p : Nat)
  /-- SHED_MODE_OFF (R223). -/
  | shedModeOff (now : Nat) (r : Requester) (p : Nat) (data : Bytes)
  /-- PORT_MODE_WRITE (R230). -/
  | portModeWrite (now : Nat) (r : Requester) (p : Nat) (data : Bytes)
  /-- RX_FRAME_START (R453). -/
  | rxFrameStart (now : Nat) (p : Nat) (fid : Nat) (data : Bytes) (overrun : Bool) (lpiUs : Nat)
  /-- RX_OVERSIZE_CUT (R235). -/
  | rxOversizeCut (now : Nat) (fid : Nat)
  /-- RX_JABBER_CUT (R235). -/
  | rxJabberCut (now : Nat) (fid : Nat)
  /-- RX_FRAME_END (R235). -/
  | rxFrameEnd (now : Nat) (fid : Nat) (fcs : Nat) (codeErr : Bool)
  /-- WAKE_CLEAR (R255). -/
  | wakeClear (now : Nat) (r : Requester) (p : Nat) (data : Bytes)
  /-- PAUSE_RECEIVED (R244). -/
  | pauseReceived (now : Nat) (p : Nat) (data : Bytes) (fcs : Nat)
  /-- PAUSE_TIMER_EXPIRY (R244). -/
  | pauseTimerExpiry (now : Nat) (p : Nat) (prio : Nat)
  /-- INGRESS_OCCUPANCY_REPORT (R350). -/
  | ingressOccupancyReport (now : Nat) (p : Nat) (prio : Nat) (written : List (Nat × Nat × Nat))
  /-- PAUSE_REFRESH (R246). -/
  | pauseRefresh (now : Nat) (p : Nat) (prio : Nat)
  /-- PAUSE_FRAME_SEND (R247). -/
  | pauseFrameSend (now : Nat) (p : Nat)
  /-- LPI_ENTRY (R249). -/
  | lpiEntry (now : Nat) (p : Nat)
  /-- LPI_WAKE_DONE (R249). -/
  | lpiWakeDone (now : Nat) (p : Nat)
  /-- COLLISION (R240). -/
  | collision (now : Nat) (p : Nat) (bits : Nat)
  /-- HD_BACKOFF_EXPIRY (R239). -/
  | hdBackoffExpiry (now : Nat) (p : Nat)
  /-- FRAME_LANE_ASSIGN (R312). -/
  | frameLaneAssign (now : Nat) (fid : Nat) (lane : Nat) (middle : Nat)
  /-- LOOKUP_RESOLVE (R290). -/
  | lookupResolve (now : Nat) (fid : Nat)
  /-- PIPE_LAST_SEGMENT (R272). -/
  | pipeLastSegment (now : Nat) (fid : Nat) (middle : Nat)
  /-- RECIRC_REENTRY (R314). -/
  | recircReentry (now : Nat) (fid : Nat)
  /-- LIMITER_REFILL (R292). -/
  | limiterRefill (now : Nat) (t : Nat)
  /-- COL_LINK_FRAME_IN (R42). -/
  | colLinkFrameIn (now : Nat) (t : Nat) (fid : Nat) (h : Nat) (whole : Bool) (crcBad : Bool)
  /-- COL_LINK_DOWN (R40). -/
  | colLinkDown (now : Nat) (t : Nat) (k : Nat)
  /-- ROUTE_RECOMPUTE (R38). -/
  | routeRecompute (now : Nat) (t : Nat)
  /-- COL_LINK_UP (R641). -/
  | colLinkUp (now : Nat) (t : Nat) (k : Nat)
  /-- COL_TRAIN_TIMEOUT (R641). -/
  | colTrainTimeout (now : Nat) (t : Nat) (k : Nat)
  /-- COL_RETRAIN (R641). -/
  | colRetrain (now : Nat) (t : Nat) (k : Nat)
  /-- EM_OP_WRITE (R283). -/
  | emOpWrite (now : Nat) (r : Requester) (t : Nat) (data : Bytes)
  /-- TC_OP_WRITE (R287). -/
  | tcOpWrite (now : Nat) (r : Requester) (t : Nat) (data : Bytes)
  /-- EM_PROBE_WRITE (R285). -/
  | emProbeWrite (now : Nat) (r : Requester) (t : Nat) (data : Bytes)
  /-- TC_PROBE_WRITE (R288). -/
  | tcProbeWrite (now : Nat) (r : Requester) (t : Nat) (data : Bytes)
  /-- ETCH_OBJECT_WRITE (R303). -/
  | etchObjectWrite (now : Nat) (r : Requester) (idx : Nat) (sub : Nat) (data : Bytes)
  /-- ETCH_OPEN (R299). -/
  | etchOpen (now : Nat) (r : Requester)
  /-- ETCH_COMMIT (R306). -/
  | etchCommit (now : Nat) (r : Requester)
  /-- ETCH_ABORT (R304). -/
  | etchAbort (now : Nat) (r : Requester)
  /-- ETCH_IDLE_EXPIRY (R304). -/
  | etchIdleExpiry (now : Nat)
  /-- ETCH_LOAD_DONE (R308). -/
  | etchLoadDone (now : Nat) (t : Nat)
  /-- ETCH_SWITCH (R309). -/
  | etchSwitch (now : Nat)
  /-- SLOT_RETIRE (R316). -/
  | slotRetire (now : Nat) (k : Nat)
  /-- ETCH_STUCK (R318). -/
  | etchStuck (now : Nat) (k : Nat)
  /-- POL_WRITE (R334). -/
  | polWrite (now : Nat) (r : Requester) (t : Nat) (data : Bytes)
  /-- POLICER_REFILL (R324). -/
  | policerRefill (now : Nat) (t : Nat)
  /-- BASIN_ADMIT (R346). -/
  | basinAdmit (now : Nat) (fid : Nat) (h : Nat) (written : List (Nat × Nat × Nat))
  /-- BASIN_FRAME_COMPLETE (R367). -/
  | basinFrameComplete (now : Nat) (fid : Nat) (h : Nat)
  /-- GROUPS_EN_WRITE (R340). -/
  | groupsEnWrite (now : Nat) (r : Requester) (t : Nat) (data : Bytes)
  /-- BASIN_GROUP_EMPTY (R340). -/
  | basinGroupEmpty (now : Nat) (t : Nat) (g : Nat)
  /-- QUEUE_SAMPLE (R351). -/
  | queueSample (now : Nat) (t : Nat) (written : List (Nat × Nat × Nat))
  /-- QSTAT_CLEAR (R354). -/
  | qstatClear (now : Nat) (r : Requester) (t : Nat) (data : Bytes)
  /-- BURIN_SELECT (R405). -/
  | burinSelect (now : Nat) (p : Nat)
  /-- TX_START_CHECK (R245). -/
  | txStartCheck (now : Nat) (p : Nat) (crcBad : Bool) (remoteFault : Bool)
  /-- TX_FRAME_END (R339). -/
  | txFrameEnd (now : Nat) (p : Nat)
  /-- SHAPER_REFILL (R370). -/
  | shaperRefill (now : Nat) (p : Nat)
  /-- HATCH_ENABLE_WRITE (R396). -/
  | hatchEnableWrite (now : Nat) (r : Requester) (p : Nat) (data : Bytes)
  /-- HATCH_COMMIT (R392). -/
  | hatchCommit (now : Nat) (r : Requester) (p : Nat) (data : Bytes)
  /-- HATCH_LIST_START (R394). -/
  | hatchListStart (now : Nat) (p : Nat)
  /-- GATE_ENTRY_CHANGE (R386). -/
  | gateEntryChange (now : Nat) (p : Nat)
  /-- MASTER_TICK (R419). -/
  | masterTick (now : Nat) (d : Nat)
  /-- PHASE_ADJ_WRITE (R420). -/
  | phaseAdjWrite (now : Nat) (r : Requester) (d : Nat) (data : Bytes)
  /-- DOM_SRC_OK (R423). -/
  | domSrcOk (now : Nat) (r : Requester) (d : Nat)
  /-- DOM_SRC_FAILED (R424). -/
  | domSrcFailed (now : Nat) (r : Requester) (d : Nat)
  /-- DOM_WATCHDOG_EXPIRY (R424). -/
  | domWatchdogExpiry (now : Nat) (d : Nat)
  /-- PPS_LOSS (R424). -/
  | ppsLoss (now : Nat) (d : Nat)
  /-- DOMAIN_STATE_EFFECT (R425). -/
  | domainStateEffect (now : Nat) (d : Nat)
  /-- SADDLE_DECISION (R432). -/
  | saddleDecision (now : Nat)
  /-- SADDLE_REQ_WRITE (R433). -/
  | saddleReqWrite (now : Nat) (r : Requester) (data : Bytes)
  /-- DIFF_CLEAR (R431). -/
  | diffClear (now : Nat) (r : Requester) (data : Bytes)
  /-- TIME_MARKER (R426). -/
  | timeMarker (now : Nat) (t : Nat)
  /-- REPLICA_MARKER (R428). -/
  | replicaMarker (now : Nat) (rep : Nat) (d : Nat) (arrival : Nat)
  /-- PATH_DELAY_MEASURE (R427). -/
  | pathDelayMeasure (now : Nat) (rep : Nat) (delay : Nat)
  /-- REEPOCH_CMD (R436). -/
  | reepochCmd (now : Nat) (r : Requester) (data : Bytes)
  /-- REEPOCH_CANCEL (R436). -/
  | reepochCancel (now : Nat) (r : Requester)
  /-- REEPOCH (R437). -/
  | reepoch (now : Nat)
  /-- PPS_OUT_PULSE (R439). -/
  | ppsOutPulse (now : Nat)
  /-- PPS_OUT_PULSE_END (R440). -/
  | ppsOutPulseEnd (now : Nat)
  /-- PPS_IN_EDGE (R441). -/
  | ppsInEdge (now : Nat)
  /-- REF10M_WINDOW (R443). -/
  | ref10mWindow (now : Nat) (edges : Bool) (offset : Int)
  /-- STACK_TIME_SEND (R445). -/
  | stackTimeSend (now : Nat) (p : Nat)
  /-- STACK_TIME_MESSAGE (R446). -/
  | stackTimeMessage (now : Nat) (p : Nat) (msg : Bytes)
  /-- UPSTREAM_TIMEOUT (R447). -/
  | upstreamTimeout (now : Nat)
  /-- TSQ_FLUSH (R465). -/
  | tsqFlush (now : Nat) (r : Requester) (p : Nat) (data : Bytes)
  /-- PATH_SAMPLE (R470). -/
  | pathSample (now : Nat) (r : Requester) (p : Nat) (data : Bytes)
  /-- PATH_HOLD_END (R473). -/
  | pathHoldEnd (now : Nat) (d : Nat)
  /-- RING_START (R484). -/
  | ringStart (now : Nat) (r : Requester) (t : Nat)
  /-- RING_ABORT (R508). -/
  | ringAbort (now : Nat) (r : Requester) (t : Nat)
  /-- RING_RESET (R485). -/
  | ringReset (now : Nat) (r : Requester) (t : Nat)
  /-- RING_ABORT_DONE (R508). -/
  | ringAbortDone (now : Nat) (t : Nat) (rx : Bool) (ring : Nat)
  /-- DESC_FETCH (R496). -/
  | descFetch (now : Nat) (t : Nat) (rx : Bool) (ring : Nat) (tag : Nat)
  /-- ENGINE_SCHEDULE (R486). -/
  | engineSchedule (now : Nat) (t : Nat) (e : Nat) (tag : Nat)
  /-- BURST_END (R497). -/
  | burstEnd (now : Nat) (t : Nat) (rx : Bool) (ring : Nat) (tag : Nat) (crcBad : Bool)
  /-- READBACK_DONE (R503). -/
  | readbackDone (now : Nat) (t : Nat) (rx : Bool) (ring : Nat) (status : Nat)
  /-- ENGINE_FRAME_OFFER (R489). -/
  | engineFrameOffer (now : Nat) (t : Nat) (ring : Nat) (fid : Nat)
  /-- RX_DELIVERY_START (R493). -/
  | rxDeliveryStart (now : Nat) (t : Nat) (ring : Nat)
  /-- CQ_HOLDOFF_END (R505). -/
  | cqHoldoffEnd (now : Nat) (t : Nat) (q : Nat)
  /-- RING_ARM (R509). -/
  | ringArm (now : Nat) (r : Requester) (t : Nat) (data : Bytes)
  /-- CQ_ON (R519). -/
  | cqOn (now : Nat) (r : Requester) (t : Nat)
  /-- CQ_OFF (R518). -/
  | cqOff (now : Nat) (r : Requester) (t : Nat)
  /-- EVC_CFG_WRITE (R530). -/
  | evcCfgWrite (now : Nat) (r : Requester) (t : Nat) (n : Nat) (data : Bytes)
  /-- EVC_SAMPLE (R529). -/
  | evcSample (now : Nat) (t : Nat)
  /-- CNT_PRESET (R534). -/
  | cntPreset (now : Nat) (r : Requester) (t : Nat) (data : Bytes)
  /-- WINDOW_PUBLISH (R538). -/
  | windowPublish (now : Nat) (p : Nat)
  /-- WIN_LEN_WRITE (R539). -/
  | winLenWrite (now : Nat) (r : Requester) (p : Nat) (data : Bytes)
  /-- PAGE_GRANT_WRITE (R543). -/
  | pageGrantWrite (now : Nat) (r : Requester) (t : Nat) (k : Nat) (data : Bytes)
  /-- PAGE_WRITE (R541). -/
  | pageWrite (now : Nat) (t : Nat) (off : Nat) (size : Nat)
  /-- PS_SECOND_SAMPLE (R546). -/
  | psSecondSample (now : Nat)
  /-- PS_PERIODIC (R547). -/
  | psPeriodic (now : Nat)
  /-- PS_CHECKPOINT (R547). -/
  | psCheckpoint (now : Nat) (r : Requester) (data : Bytes)
  /-- PS_HOLD_EXPIRY (R547). -/
  | psHoldExpiry (now : Nat)
  /-- PS_CHECKPOINT_DONE (R548). -/
  | psCheckpointDone (now : Nat) (bad : List Bool)
  /-- PS_SEL_WRITE (R550). -/
  | psSelWrite (now : Nat) (r : Requester) (data : Bytes)
  /-- CORE_PWR_WRITE (R557). -/
  | corePwrWrite (now : Nat) (r : Requester) (t : Nat) (data : Bytes)
  /-- BASIN_PWR_WRITE (R557). -/
  | basinPwrWrite (now : Nat) (r : Requester) (t : Nat) (data : Bytes)
  /-- TILE_POWER_DORMANT (R560). -/
  | tilePowerDormant (now : Nat) (r : Requester) (t : Nat)
  /-- DORMANT_SAVE (R562). -/
  | dormantSave (now : Nat) (t : Nat)
  /-- DORMANT_SIGN (R569). -/
  | dormantSign (now : Nat) (t : Nat)
  /-- DORMANT_POWER_DOWN (R561). -/
  | dormantPowerDown (now : Nat) (t : Nat)
  /-- TILE_POWER_RUN (R564). -/
  | tilePowerRun (now : Nat) (r : Requester) (t : Nat)
  /-- RETENTION_CHECK_DONE (R569). -/
  | retentionCheckDone (now : Nat) (t : Nat) (bad : List Nat) (corrected : Nat)
  /-- RESTORE_DONE (R571). -/
  | restoreDone (now : Nat) (t : Nat)
  /-- SLEEP_REQ (R572). -/
  | sleepReq (now : Nat) (r : Requester) (data : Bytes)
  /-- SLEEP_ENTRY_DONE (R572). -/
  | sleepEntryDone (now : Nat)
  /-- WAKE_DETECTOR_MATCH (R576). -/
  | wakeDetectorMatch (now : Nat) (runs : List Nat)
  /-- BUDGET_PERIOD (R594). -/
  | budgetPeriod (now : Nat) (t : Nat)
  /-- SCRUB_READ (R588). -/
  | scrubRead (now : Nat) (t : Nat) (mem : Nat) (loc : Nat) (outcome : Nat)
  /-- TILE_RECOVER (R591). -/
  | tileRecover (now : Nat) (r : Requester) (t : Nat) (data : Bytes)
  /-- LC_REQUEST (R604). -/
  | lcRequest (now : Nat) (r : Requester) (data : Bytes)
  /-- SERVICE_EN_N_HIGH (R605). -/
  | serviceEnNHigh (now : Nat) (level : Bool)
  /-- LIFECYCLE_CHANGE (R607). -/
  | lifecycleChange (now : Nat)
  /-- LIFECYCLE_WIPE (R607). -/
  | lifecycleWipe (now : Nat)
  /-- FW_DATA_WRITE (R609). -/
  | fwDataWrite (now : Nat) (r : Requester) (data : Bytes)
  /-- FW_OFFSET_WRITE (R609). -/
  | fwOffsetWrite (now : Nat) (r : Requester) (data : Bytes)
  /-- FW_VERIFY (R609). -/
  | fwVerify (now : Nat) (r : Requester) (data : Bytes)
  /-- FW_VERIFY_DONE (R609). -/
  | fwVerifyDone (now : Nat) (good : Bool) (version : Nat)
  /-- FW_ACTIVATE (R610). -/
  | fwActivate (now : Nat) (r : Requester) (data : Bytes)
  /-- FW_TILE_UPDATE (R610). -/
  | fwTileUpdate (now : Nat) (t : Nat)
  /-- FW_SELF_CHECK_DONE (R611). -/
  | fwSelfCheckDone (now : Nat) (t : Nat) (good : Bool)
  /-- HELLO_SEND (R620). -/
  | helloSend (now : Nat)
  /-- HELLO_RECEIVED (R621). -/
  | helloReceived (now : Nat) (p : Nat) (msg : Bytes)
  /-- MEMBER_TIMEOUT (R621). -/
  | memberTimeout (now : Nat) (m : Nat)
  /-- FORMING_TIMEOUT (R622). -/
  | formingTimeout (now : Nat)
  /-- STACK_HANDOVER (R624). -/
  | stackHandover (now : Nat) (r : Requester) (data : Bytes)
  /-- STACK_JOIN (R626). -/
  | stackJoin (now : Nat) (r : Requester) (data : Bytes)
  /-- STACK_FRAME_RECEIVED (R628). -/
  | stackFrameReceived (now : Nat) (p : Nat) (fid : Nat) (hdr : Bytes) (data : Bytes)
  /-- STACK_DICT_RECORD (R631). -/
  | stackDictRecord (now : Nat) (p : Nat) (msg : Bytes)
  /-- TILE_TEMP_UPDATE (R671). -/
  | tileTempUpdate (now : Nat) (t : Nat) (temp : Int)
  /-- PCS_LOCK_LOSS (R185). -/
  | pcsLockLoss (now : Nat) (p : Nat) (lane : Nat)
  /-- REPLICA_TICK (R429). -/
  | replicaTick (now : Nat) (rep : Nat) (d : Nat)
  /-- IDLE_HAND_OVER_POINT (R510). -/
  | idleHandOverPoint (now : Nat) (t : Nat) (rx : Bool) (ring : Nat)
  /-- WINDOW_READ_VIOLATION (R104). -/
  | windowReadViolation (now : Nat) (t : Nat) (off : Nat) (size : Nat)
deriving DecidableEq, Repr

end Sys2Proof
end

