-- ==== Sys2Proof/Decode.lean ====
section
/-! DEFINITION. Commands have no bits: no row of the operation and event table gives an encoding, so no word spells a command
(assumption 16). -/

namespace Sys2Proof

/-- The command that a word spells by the table's bits: the table gives no row any bits. -/
def decodeTableWord (_nbits _w : Nat) : Option Instr := none

end Sys2Proof
end

