-- ==== Sys2Proof/Config.lean ====
section
/-! DEFINITION. What an implementation fixes and what the spec leaves open. Neither constant has a body: nothing can evaluate
them, so a statement holds whatever they are. -/

namespace Sys2Proof

/-- The value a part carries from manufacture for an object whose default the tables call "Per part" (R146, R224), by the
object's key (assumption 2). -/
opaque Config.perPart : Nat → Nat

/-- The free values: the `n`th value that the device draws and no rule states (nonces, back-off jitter, tokens, unstated results;
assumption 3). `State.free` counts the draws. -/
opaque Config.freeValue : Nat → Nat

/-- Tw_sys_tx of IEEE 802.3 Clause 78 for the PHY type of a port mode, in ns, which the spec names without its value (R249;
assumption 8). -/
opaque Config.twSysTx : Nat → Nat

/-- The symbols of the short stress pattern that IEEE 802.3 defines for PAM4, by their place, which the spec names without giving them (R174; assumption 83). -/
opaque Config.ssprbs : Nat → Nat

end Sys2Proof
end

