-- ==== Sys2Proof/Machine/Bits.lean ====
section
/-! DEFINITION. Bits, bytes and sparse tables: the fields of R5, the little-endian values of R6 and R11, the network order of
frames (R6), two's complement (R11), and the read and write of a sparse table in its one canonical form. -/

namespace Sys2Proof.Machine

/-- Bit `i` of `n` (R5). -/
def bit (n i : Nat) : Bool := n / 2 ^ i % 2 == 1

/-- A flag as a bit. -/
def b2n (b : Bool) : Nat := if b then 1 else 0

/-- The field of bits [hi:lo] of `n` (R5). -/
def field (n hi lo : Nat) : Nat := n / 2 ^ lo % 2 ^ (hi + 1 - lo)

/-- `n` with the field [hi:lo] set to `v`. -/
def setField (n hi lo v : Nat) : Nat := n - field n hi lo * 2 ^ lo + v % 2 ^ (hi + 1 - lo) * 2 ^ lo

/-- `n` with bit `i` set to `b`. -/
def setBit (n i : Nat) (b : Bool) : Nat := setField n i i (b2n b)

/-- The number of bits set among the lowest `w`. -/
def popcount (w n : Nat) : Nat := ((List.range w).filter (bit n)).length

/-- The numbers of the bits set among the lowest `w`, rising. -/
def bitList (w n : Nat) : List Nat := (List.range w).filter (bit n)

/-- The bitset that holds exactly the numbers of a list. -/
def ofBits (l : List Nat) : Nat := l.foldl (fun a i => setBit a i true) 0

/-- Whether `a` sets any bit of `b`. -/
def anyCommon (a b : Nat) : Bool := Nat.land a b != 0

/-- The quotient rounded up. -/
def ceilDiv (a b : Nat) : Nat := (a + b - 1) / b

/-- Whether `n` is a power of two. -/
def isPow2 (n : Nat) : Bool := n != 0 && 2 ^ Nat.log2 n == n

/-- The value of bytes in little-endian order (R6, R11). -/
def leNat : Bytes → Nat
  | [] => 0
  | b :: bs => b.toNat + 256 * leNat bs

/-- `k` bytes of a value in little-endian order (R6, R11). -/
def natLe : Nat → Nat → Bytes
  | _, 0 => []
  | n, k + 1 => BitVec.ofNat 8 n :: natLe (n / 256) k

/-- The value of bytes in network order (R6). -/
def beNat (bs : Bytes) : Nat := bs.foldl (fun a b => a * 256 + b.toNat) 0

/-- `k` bytes of a value in network order (R6). -/
def natBe (n k : Nat) : Bytes := (natLe n k).reverse

/-- `len` bytes from `off`; bytes past the end are absent. -/
def slice (bs : Bytes) (off len : Nat) : Bytes := (bs.drop off).take len

/-- The little-endian field of `len` bytes at `off`. -/
def leAt (bs : Bytes) (off len : Nat) : Nat := leNat (slice bs off len)

/-- The network-order field of `len` bytes at `off`. -/
def beAt (bs : Bytes) (off len : Nat) : Nat := beNat (slice bs off len)

/-- Byte `off` as a number; 0 past the end. -/
def byteAt (bs : Bytes) (off : Nat) : Nat := (bs.getD off 0).toNat

/-- `bs` with the bytes at `off` replaced by `new`. -/
def patch (bs : Bytes) (off : Nat) (new : Bytes) : Bytes := bs.take off ++ new ++ bs.drop (off + new.length)

/-- Bytes written as numbers. -/
def bytesOf (l : List Nat) : Bytes := l.map (BitVec.ofNat 8)

/-- The bytes of an ASCII name. -/
def asciiBytes (s : String) : Bytes := s.toList.map (fun c => BitVec.ofNat 8 c.toNat)

/-- `bs` cut or padded with zero bytes to `k`. -/
def padTo (bs : Bytes) (k : Nat) : Bytes := bs.take k ++ List.replicate (k - bs.length) 0

/-- Byte `i` of a value held as a little-endian number: the bytes of an OCTETS object. -/
def octet (n i : Nat) : Nat := n / 256 ^ i % 256

/-- The field of `len` bytes at byte `off` of a value held as a little-endian number. -/
def octets (n off len : Nat) : Nat := n / 256 ^ off % 256 ^ len

/-- A value with the `len` bytes at byte `off` set to `v`. -/
def setOctets (n off len v : Nat) : Nat :=
  n - octets n off len * 256 ^ off + v % 256 ^ len * 256 ^ off

/-- The two's complement value of the lowest `w` bits (R11). -/
def toS (w n : Nat) : Int := if n % 2 ^ w < 2 ^ (w - 1) then Int.ofNat (n % 2 ^ w) else Int.ofNat (n % 2 ^ w) - 2 ^ w

/-- A signed value in `w` bits of two's complement (R11). -/
def ofS (w : Nat) (i : Int) : Nat := (i % (2 ^ w : Int)).toNat

/-- Division of a signed value that truncates toward zero (R17). -/
def tdiv (a b : Int) : Int := Int.tdiv a b

/-- The magnitude of a signed value. -/
def absI (x : Int) : Int := x.natAbs

/-- A signed value held between two bounds. -/
def clampI (lo hi x : Int) : Int := if x < lo then lo else if hi < x then hi else x

/-! Sparse tables. -/

/-- What key `k` of a table reads as; `d` where the table lists nothing for it. -/
def tget {α : Type} (d : α) : Tbl α → Nat → α
  | [], _ => d
  | (j, x) :: t, k => if j = k then x else tget d t k

/-- A table without key `k`. -/
def tdel {α : Type} (t : Tbl α) (k : Nat) : Tbl α := t.filter (fun e => e.1 ≠ k)

/-- A table with `x` listed at `k`, keys kept rising. -/
def tins {α : Type} : Tbl α → Nat → α → Tbl α
  | [], k, x => [(k, x)]
  | (j, y) :: t, k, x => if k < j then (k, x) :: (j, y) :: t else if k = j then (k, x) :: t else (j, y) :: tins t k x

/-- A table after key `k` is written with `x`; writing what an unlisted key reads as removes the entry. -/
def tput {α : Type} [DecidableEq α] (d : α) (t : Tbl α) (k : Nat) (x : α) : Tbl α :=
  if x = d then tdel t k else tins t k x

/-- A table after the value at `k` is changed by `f`. -/
def tmod {α : Type} [DecidableEq α] (d : α) (t : Tbl α) (k : Nat) (f : α → α) : Tbl α := tput d t k (f (tget d t k))

/-- A table after every listed value is changed by `f`, which keeps what an unlisted key reads as. -/
def tmap {α : Type} [DecidableEq α] (d : α) (t : Tbl α) (f : α → α) : Tbl α := (t.map (fun e => (e.1, f e.2))).filter (fun e => e.2 ≠ d)

/-- A table without the keys that `p` names. -/
def tdrop {α : Type} (p : Nat → Bool) (t : Tbl α) : Tbl α := t.filter (fun e => !p e.1)

/-- The canonical form: keys strictly rising, and no entry equal to what an unlisted key reads as (`d`, given per key). -/
def tableWf {α : Type} [DecidableEq α] (d : Nat → α) : Tbl α → Bool
  | [] => true
  | [(k, x)] => x ≠ d k
  | (k, x) :: (j, y) :: t => x ≠ d k && k < j && tableWf d ((j, y) :: t)

end Sys2Proof.Machine
end

