-- ==== Sys2Proof/Machine/ObjectNames.lean ====
section
/-! DEFINITION. The objects of the dictionary by the names the tables give them (R9, R10, R106): each name is the object's key,
256 times its index plus its subindex. `i` is the number of a member of a numbered range, from 0. -/

namespace Sys2Proof.Machine

/-- R146 -/ abbrev O.VENDOR_ID : Nat := (0x1000) * 256 + 0x01
/-- R146 -/ abbrev O.FAMILY : Nat := (0x1000) * 256 + 0x02
/-- R146 -/ abbrev O.VARIANT : Nat := (0x1000) * 256 + 0x03
/-- R146 -/ abbrev O.REVISION : Nat := (0x1000) * 256 + 0x04
/-- R146 -/ abbrev O.SERIAL : Nat := (0x1000) * 256 + 0x05
/-- R146 -/ abbrev O.TILE_MAP : Nat := (0x1000) * 256 + 0x06
/-- R146 -/ abbrev O.TILE_READY : Nat := (0x1000) * 256 + 0x07
/-- R146 -/ abbrev O.DICT_LAYOUT : Nat := (0x1000) * 256 + 0x08
/-- R146 -/ abbrev O.LC_STATE : Nat := (0x1010) * 256 + 0x01
/-- R146 -/ abbrev O.LC_REQUEST : Nat := (0x1010) * 256 + 0x02
/-- R146 -/ abbrev O.LC_CHANGES : Nat := (0x1010) * 256 + 0x03
/-- R146 -/ abbrev O.LC_LAST : Nat := (0x1010) * 256 + 0x04
/-- R146 -/ abbrev O.SERVICE_PIN : Nat := (0x1010) * 256 + 0x05
/-- R649 -/ abbrev O.PROV_SITE : Nat := (0x1010) * 256 + 0x06
/-- R649 -/ abbrev O.PROV_CHECK : Nat := (0x1010) * 256 + 0x07
/-- R146 -/ abbrev O.TILE_STATE (t : Nat) : Nat := (0x1020 + t) * 256 + 0x01
/-- R146 -/ abbrev O.TILE_REV (t : Nat) : Nat := (0x1020 + t) * 256 + 0x02
/-- R146 -/ abbrev O.CB_FW_VERSION (t : Nat) : Nat := (0x1020 + t) * 256 + 0x03
/-- R146 -/ abbrev O.TILE_SERIAL (t : Nat) : Nat := (0x1020 + t) * 256 + 0x04
/-- R671 -/ abbrev O.TILE_TEMP (t : Nat) : Nat := (0x1020 + t) * 256 + 0x05
/-- R614 -/ abbrev O.FW_OFFSET : Nat := (0x1030) * 256 + 0x01
/-- R614 -/ abbrev O.FW_DATA : Nat := (0x1030) * 256 + 0x02
/-- R614 -/ abbrev O.FW_VERIFY : Nat := (0x1030) * 256 + 0x03
/-- R614 -/ abbrev O.FW_STATE : Nat := (0x1030) * 256 + 0x04
/-- R614 -/ abbrev O.FW_STAGED_VERSION : Nat := (0x1030) * 256 + 0x05
/-- R614 -/ abbrev O.FW_ACTIVATE : Nat := (0x1030) * 256 + 0x06
/-- R614 -/ abbrev O.FW_GAP_MAX : Nat := (0x1030) * 256 + 0x07
/-- R614 -/ abbrev O.FW_REVERTS : Nat := (0x1030) * 256 + 0x08
/-- R45 -/ abbrev O.COL_C0_STATE (t : Nat) : Nat := (0x1040 + t) * 256 + 0x01
/-- R45 -/ abbrev O.COL_C1_STATE (t : Nat) : Nat := (0x1040 + t) * 256 + 0x02
/-- R45 -/ abbrev O.COL_C2_STATE (t : Nat) : Nat := (0x1040 + t) * 256 + 0x03
/-- R45 -/ abbrev O.ROUTE_MODE (t : Nat) : Nat := (0x1040 + t) * 256 + 0x04
/-- R45 -/ abbrev O.ROUTE (t : Nat) : Nat := (0x1040 + t) * 256 + 0x05
/-- R45 -/ abbrev O.STAGE_DROP_C0 (t : Nat) : Nat := (0x1040 + t) * 256 + 0x06
/-- R45 -/ abbrev O.STAGE_DROP_C1 (t : Nat) : Nat := (0x1040 + t) * 256 + 0x07
/-- R45 -/ abbrev O.STAGE_DROP_C2 (t : Nat) : Nat := (0x1040 + t) * 256 + 0x08
/-- R45 -/ abbrev O.HOP_DROP (t : Nat) : Nat := (0x1040 + t) * 256 + 0x09
/-- R45 -/ abbrev O.UNREACH_DROP (t : Nat) : Nat := (0x1040 + t) * 256 + 0x0A
/-- R45 -/ abbrev O.PIPE_CAP_P0 (t : Nat) : Nat := (0x1040 + t) * 256 + 0x0B
/-- R45 -/ abbrev O.PIPE_CAP_P1 (t : Nat) : Nat := (0x1040 + t) * 256 + 0x0C
/-- R45 -/ abbrev O.HOST_FEED_WAIT (t : Nat) : Nat := (0x1040 + t) * 256 + 0x0D
/-- R649 -/ abbrev O.RESET_CAUSE : Nat := (0x1050) * 256 + 0x01
/-- R649 -/ abbrev O.STARTUP_US : Nat := (0x1050) * 256 + 0x02
/-- R649 -/ abbrev O.FW_BOOT : Nat := (0x1050) * 256 + 0x03
/-- R649 -/ abbrev O.STARTUP_STEP (i : Nat) : Nat := (0x1051) * 256 + 0x01 + i
/-- R649 -/ abbrev O.STARTUP_RESULT (i : Nat) : Nat := (0x1052) * 256 + 0x01 + i
/-- R649 -/ abbrev O.BIST_FAIL (i : Nat) : Nat := (0x1053) * 256 + 0x01 + i
/-- R649 -/ abbrev O.TILE_START_US (i : Nat) : Nat := (0x1054) * 256 + 0x01 + i
/-- R649 -/ abbrev O.COL_TRAIN_FAILS (i : Nat) : Nat := (0x1055) * 256 + 0x01 + i
/-- R122 -/ abbrev O.ZW_ENABLE : Nat := (0x1100) * 256 + 0x01
/-- R122 -/ abbrev O.ZW_NODE_ID : Nat := (0x1100) * 256 + 0x02
/-- R122 -/ abbrev O.ZW_DATA_RATE : Nat := (0x1100) * 256 + 0x03
/-- R122 -/ abbrev O.ZW_OPEN_ACCESS : Nat := (0x1100) * 256 + 0x04
/-- R122 -/ abbrev O.ZW_SESSION_IDLE : Nat := (0x1100) * 256 + 0x05
/-- R122 -/ abbrev O.ZW_HEARTBEAT : Nat := (0x1100) * 256 + 0x06
/-- R122 -/ abbrev O.ZW_EVENT_MIN : Nat := (0x1100) * 256 + 0x07
/-- R122 -/ abbrev O.ZW_TAG_FAIL : Nat := (0x1100) * 256 + 0x08
/-- R122 -/ abbrev O.ZW_FRAG_FAIL : Nat := (0x1100) * 256 + 0x09
/-- R122 -/ abbrev O.ZW_SESSIONS : Nat := (0x1100) * 256 + 0x0A
/-- R122 -/ abbrev O.ZW_BUS_OFF : Nat := (0x1100) * 256 + 0x0B
/-- R122 -/ abbrev O.INBAND_PORT : Nat := (0x1101) * 256 + 0x01
/-- R122 -/ abbrev O.INBAND_MAC : Nat := (0x1101) * 256 + 0x02
/-- R122 -/ abbrev O.INBAND_QUEUE : Nat := (0x1101) * 256 + 0x03
/-- R122 -/ abbrev O.INBAND_RATE : Nat := (0x1101) * 256 + 0x04
/-- R122 -/ abbrev O.INBAND_DROP : Nat := (0x1101) * 256 + 0x05
/-- R122 -/ abbrev O.INBAND_TAG_FAIL : Nat := (0x1101) * 256 + 0x06
/-- R122 -/ abbrev O.WK_IDLE : Nat := (0x1102) * 256 + 0x01
/-- R122 -/ abbrev O.WK_FAIL : Nat := (0x1102) * 256 + 0x02
/-- R122 -/ abbrev O.WK_LOCKOUTS : Nat := (0x1102) * 256 + 0x03
/-- R122 -/ abbrev O.GROUP_IDLE : Nat := (0x1103) * 256 + 0x01
/-- R122 -/ abbrev O.GROUP_ABORTS : Nat := (0x1103) * 256 + 0x02
/-- R122 -/ abbrev O.GROUP_CONFLICTS : Nat := (0x1103) * 256 + 0x03
/-- R122 -/ abbrev O.KEY_WRAPPED (k : Nat) : Nat := (0x1108 + k) * 256 + 0x01
/-- R122 -/ abbrev O.KEY_ROLE (k : Nat) : Nat := (0x1108 + k) * 256 + 0x02
/-- R122 -/ abbrev O.KEY_SET (k : Nat) : Nat := (0x1108 + k) * 256 + 0x03
/-- R122 -/ abbrev O.KEY_USES (k : Nat) : Nat := (0x1108 + k) * 256 + 0x04
/-- R96 -/ abbrev O.EVT_RING_BASE (t : Nat) : Nat := (0x1200 + t) * 256 + 0x01
/-- R96 -/ abbrev O.EVT_RING_SIZE (t : Nat) : Nat := (0x1200 + t) * 256 + 0x02
/-- R96 -/ abbrev O.EVT_ENABLE (t : Nat) : Nat := (0x1200 + t) * 256 + 0x03
/-- R96 -/ abbrev O.EVT_CONSUMER (t : Nat) : Nat := (0x1200 + t) * 256 + 0x04
/-- R96 -/ abbrev O.EVT_PRODUCER (t : Nat) : Nat := (0x1200 + t) * 256 + 0x05
/-- R96 -/ abbrev O.EVT_RID (t : Nat) : Nat := (0x1200 + t) * 256 + 0x06
/-- R96 -/ abbrev O.EVT_MSI_ADDR (t : Nat) : Nat := (0x1200 + t) * 256 + 0x07
/-- R96 -/ abbrev O.EVT_MSI_DATA (t : Nat) : Nat := (0x1200 + t) * 256 + 0x08
/-- R96 -/ abbrev O.EVT_HOLDOFF (t : Nat) : Nat := (0x1200 + t) * 256 + 0x09
/-- R96 -/ abbrev O.EVT_RING_DROP (t : Nat) : Nat := (0x1200 + t) * 256 + 0x0A
/-- R105 -/ abbrev O.AFI_CREDIT_VIOL (t : Nat) : Nat := (0x1208 + t) * 256 + 0x01
/-- R105 -/ abbrev O.AFI_FORMAT_VIOL (t : Nat) : Nat := (0x1208 + t) * 256 + 0x02
/-- R105 -/ abbrev O.AFI_RDY_LOSS (t : Nat) : Nat := (0x1208 + t) * 256 + 0x03
/-- R105 -/ abbrev O.AFI_STALL (t : Nat) : Nat := (0x1208 + t) * 256 + 0x04
/-- R105 -/ abbrev O.AFI_HOST_ABORT (t : Nat) : Nat := (0x1208 + t) * 256 + 0x05
/-- R105 -/ abbrev O.DMA_TIMEOUT (t : Nat) : Nat := (0x1208 + t) * 256 + 0x06
/-- R105 -/ abbrev O.DMA_UNEXP_RSP (t : Nat) : Nat := (0x1208 + t) * 256 + 0x07
/-- R105 -/ abbrev O.DMA_ERR_RSP (t : Nat) : Nat := (0x1208 + t) * 256 + 0x08
/-- R105 -/ abbrev O.MEM_RDY_LOSS (t : Nat) : Nat := (0x1208 + t) * 256 + 0x09
/-- R105 -/ abbrev O.CW_VIOL (t : Nat) : Nat := (0x1208 + t) * 256 + 0x0A
/-- R105 -/ abbrev O.TILE_SUPPLY_FAULT (t : Nat) : Nat := (0x1208 + t) * 256 + 0x0B
/-- R105 -/ abbrev O.MEM_TIMEOUT (t : Nat) : Nat := (0x1208 + t) * 256 + 0x0C
/-- R105 -/ abbrev O.AFI_STALL_LIMIT (t : Nat) : Nat := (0x1208 + t) * 256 + 0x0D
/-- R105 -/ abbrev O.AFI_TX_CREDITS (t : Nat) : Nat := (0x1208 + t) * 256 + 0x0E
/-- R612 -/ abbrev O.AGG_WINDOW (t : Nat) : Nat := (0x1210 + t) * 256 + 0x01
/-- R612 -/ abbrev O.AGG_OPEN (t : Nat) : Nat := (0x1210 + t) * 256 + 0x02
/-- R612 -/ abbrev O.AGG_MERGED (t : Nat) : Nat := (0x1210 + t) * 256 + 0x03
/-- R612 -/ abbrev O.AGG_SUPPRESSED (t : Nat) : Nat := (0x1210 + t) * 256 + 0x04
/-- R612 -/ abbrev O.ROOTS_ACTIVE (t : Nat) : Nat := (0x1210 + t) * 256 + 0x05
/-- R612 -/ abbrev O.ECC_CORR (t : Nat) : Nat := (0x1218 + t) * 256 + 0x01
/-- R612 -/ abbrev O.ECC_UNCORR (t : Nat) : Nat := (0x1218 + t) * 256 + 0x02
/-- R612 -/ abbrev O.CELL_CRC_FAIL (t : Nat) : Nat := (0x1218 + t) * 256 + 0x03
/-- R612 -/ abbrev O.COMPLEMENT_MISMATCH (t : Nat) : Nat := (0x1218 + t) * 256 + 0x04
/-- R612 -/ abbrev O.INTEGRITY_DROP (t : Nat) : Nat := (0x1218 + t) * 256 + 0x05
/-- R612 -/ abbrev O.INTEGRITY_FAULTS (t : Nat) : Nat := (0x1218 + t) * 256 + 0x06
/-- R612 -/ abbrev O.ISOLATE_THRESHOLD (t : Nat) : Nat := (0x1218 + t) * 256 + 0x07
/-- R612 -/ abbrev O.ISOLATE_WINDOW (t : Nat) : Nat := (0x1218 + t) * 256 + 0x08
/-- R612 -/ abbrev O.TILE_RECOVER (t : Nat) : Nat := (0x1218 + t) * 256 + 0x09
/-- R612 -/ abbrev O.BAD_ENTRY (t : Nat) : Nat := (0x1218 + t) * 256 + 0x0A
/-- R612 -/ abbrev O.SCRUB_PASSES (t : Nat) : Nat := (0x1218 + t) * 256 + 0x0B
/-- R613 -/ abbrev O.BUDGET (t : Nat) (i : Nat) : Nat := (0x1300 + t) * 256 + 0x01 + i
/-- R613 -/ abbrev O.MAINT_SHARE (t : Nat) : Nat := (0x1300 + t) * 256 + 0x08
/-- R613 -/ abbrev O.BUDGET_WAIT (t : Nat) (i : Nat) : Nat := (0x1300 + t) * 256 + 0x10 + i
/-- R613 -/ abbrev O.INTERLOCK_REFUSED : Nat := (0x1310) * 256 + 0x01
/-- R613 -/ abbrev O.INTERLOCK_LAST : Nat := (0x1310) * 256 + 0x02
/-- R581 -/ abbrev O.PKG_DOMAINS : Nat := (0x1400) * 256 + 0x01
/-- R581 -/ abbrev O.SLEEP_REQ : Nat := (0x1400) * 256 + 0x02
/-- R581 -/ abbrev O.FB_WAKE_TILES : Nat := (0x1400) * 256 + 0x03
/-- R581 -/ abbrev O.PKG_SUPPLY_TIMEOUT : Nat := (0x1400) * 256 + 0x04
/-- R581 -/ abbrev O.LAST_PKG_WAKE : Nat := (0x1400) * 256 + 0x05
/-- R581 -/ abbrev O.PKG_WAKES : Nat := (0x1400) * 256 + 0x06
/-- R581 -/ abbrev O.PKG_WAKE_FAIL : Nat := (0x1400) * 256 + 0x07
/-- R582 -/ abbrev O.TILE_POWER (i : Nat) : Nat := (0x1401) * 256 + 0x01 + i
/-- R582 -/ abbrev O.TILE_PSTEP (i : Nat) : Nat := (0x1402) * 256 + 0x01 + i
/-- R582 -/ abbrev O.CORE_PWR (i : Nat) : Nat := (0x1403) * 256 + 0x01 + i
/-- R582 -/ abbrev O.BASIN_PWR (i : Nat) : Nat := (0x1404) * 256 + 0x01 + i
/-- R582 -/ abbrev O.DORMANT_RETAIN (i : Nat) : Nat := (0x1405) * 256 + 0x01 + i
/-- R582 -/ abbrev O.SAVE_BANKS (i : Nat) : Nat := (0x1406) * 256 + 0x01 + i
/-- R582 -/ abbrev O.PD_ON (i : Nat) : Nat := (0x1407) * 256 + 0x01 + i
/-- R582 -/ abbrev O.BANKS_LOST (i : Nat) : Nat := (0x1408) * 256 + 0x01 + i
/-- R582 -/ abbrev O.RESTORE_LOST (i : Nat) : Nat := (0x1409) * 256 + 0x01 + i
/-- R582 -/ abbrev O.WAKE_TRIES (i : Nat) : Nat := (0x140A) * 256 + 0x01 + i
/-- R582 -/ abbrev O.WAKE_FAULT_CAUSE (i : Nat) : Nat := (0x140B) * 256 + 0x01 + i
/-- R582 -/ abbrev O.PIPE_OFF_DROP (i : Nat) : Nat := (0x140C) * 256 + 0x01 + i
/-- R582 -/ abbrev O.DORMANT_DISCARD (i : Nat) : Nat := (0x140D) * 256 + 0x01 + i
/-- R633 -/ abbrev O.STACK_ENABLE : Nat := (0x1500) * 256 + 0x01
/-- R633 -/ abbrev O.STACK_ID : Nat := (0x1500) * 256 + 0x02
/-- R633 -/ abbrev O.STACK_PRIORITY : Nat := (0x1500) * 256 + 0x03
/-- R633 -/ abbrev O.STACK_MEMBER : Nat := (0x1500) * 256 + 0x04
/-- R633 -/ abbrev O.STACK_STATE : Nat := (0x1500) * 256 + 0x05
/-- R633 -/ abbrev O.STACK_MASTER : Nat := (0x1500) * 256 + 0x06
/-- R633 -/ abbrev O.STACK_VIEW : Nat := (0x1500) * 256 + 0x07
/-- R633 -/ abbrev O.VIEW_EPOCH : Nat := (0x1500) * 256 + 0x08
/-- R633 -/ abbrev O.STACK_JOIN : Nat := (0x1500) * 256 + 0x09
/-- R633 -/ abbrev O.STACK_HANDOVER : Nat := (0x1500) * 256 + 0x0A
/-- R633 -/ abbrev O.STACK_TRUST : Nat := (0x1500) * 256 + 0x0B
/-- R633 -/ abbrev O.STACK_DEAD : Nat := (0x1500) * 256 + 0x0C
/-- R633 -/ abbrev O.REJECT_CAUSE : Nat := (0x1500) * 256 + 0x0D
/-- R633 -/ abbrev O.ELECTIONS : Nat := (0x1500) * 256 + 0x0E
/-- R633 -/ abbrev O.VIEW_MEMBER : Nat := (0x1500) * 256 + 0x0F
/-- R633 -/ abbrev O.STACK_ROUTE : Nat := (0x1500) * 256 + 0x10
/-- R633 -/ abbrev O.STACK_UNREACH_DROP : Nat := (0x1500) * 256 + 0x11
/-- R633 -/ abbrev O.STACK_HOP_DROP : Nat := (0x1500) * 256 + 0x12
/-- R633 -/ abbrev O.STACK_TC_SKIP : Nat := (0x1500) * 256 + 0x13
/-- R633 -/ abbrev O.STACK_UNITS_LOST : Nat := (0x1500) * 256 + 0x14
/-- R633 -/ abbrev O.MEMBER_SERIAL (i : Nat) : Nat := (0x1501) * 256 + 0x01 + i
/-- R633 -/ abbrev O.MEMBER_PRIORITY (i : Nat) : Nat := (0x1502) * 256 + 0x01 + i
/-- R258 -/ abbrev O.PORT_MODE (p : Nat) : Nat := (0x2000 + p) * 256 + 0x01
/-- R258 -/ abbrev O.FEC_MODE (p : Nat) : Nat := (0x2000 + p) * 256 + 0x02
/-- R258 -/ abbrev O.MAC_ENABLE (p : Nat) : Nat := (0x2000 + p) * 256 + 0x03
/-- R258 -/ abbrev O.PORT_OWNER (p : Nat) : Nat := (0x2000 + p) * 256 + 0x04
/-- R258 -/ abbrev O.NOMINAL_RATE (p : Nat) : Nat := (0x2000 + p) * 256 + 0x05
/-- R258 -/ abbrev O.FEC_NOW (p : Nat) : Nat := (0x2000 + p) * 256 + 0x06
/-- R258 -/ abbrev O.MAX_FRAME (p : Nat) : Nat := (0x2000 + p) * 256 + 0x08
/-- R258 -/ abbrev O.PORT_MAC (p : Nat) : Nat := (0x2000 + p) * 256 + 0x09
/-- R258 -/ abbrev O.CUT_THROUGH (p : Nat) : Nat := (0x2000 + p) * 256 + 0x0A
/-- R258 -/ abbrev O.DUPLEX_CFG (p : Nat) : Nat := (0x2000 + p) * 256 + 0x10
/-- R258 -/ abbrev O.SGMII_SPEED (p : Nat) : Nat := (0x2000 + p) * 256 + 0x11
/-- R258 -/ abbrev O.SPEED_NOW (p : Nat) : Nat := (0x2000 + p) * 256 + 0x12
/-- R258 -/ abbrev O.DUPLEX_NOW (p : Nat) : Nat := (0x2000 + p) * 256 + 0x13
/-- R258 -/ abbrev O.EEE_ENABLE (p : Nat) : Nat := (0x2000 + p) * 256 + 0x18
/-- R258 -/ abbrev O.EEE_IDLE (p : Nat) : Nat := (0x2000 + p) * 256 + 0x19
/-- R258 -/ abbrev O.EEE_NOW (p : Nat) : Nat := (0x2000 + p) * 256 + 0x1A
/-- R258 -/ abbrev O.EEE_TW_TX (p : Nat) : Nat := (0x2000 + p) * 256 + 0x1B
/-- R258 -/ abbrev O.TS_RX_CORR (p : Nat) : Nat := (0x2000 + p) * 256 + 0x20
/-- R258 -/ abbrev O.TS_TX_CORR (p : Nat) : Nat := (0x2000 + p) * 256 + 0x21
/-- R258 -/ abbrev O.DESKEW_PS (p : Nat) : Nat := (0x2000 + p) * 256 + 0x22
/-- R258 -/ abbrev O.CSUM_RX (p : Nat) : Nat := (0x2000 + p) * 256 + 0x28
/-- R224 -/ abbrev O.LINK_STATE (p : Nat) : Nat := (0x2000 + p) * 256 + 0x40
/-- R224 -/ abbrev O.LINK_KIND (p : Nat) : Nat := (0x2000 + p) * 256 + 0x41
/-- R224 -/ abbrev O.AN_ENABLE (p : Nat) : Nat := (0x2000 + p) * 256 + 0x42
/-- R224 -/ abbrev O.RXDET_TIMEOUT (p : Nat) : Nat := (0x2000 + p) * 256 + 0x43
/-- R224 -/ abbrev O.TRAIN_TIMEOUT (p : Nat) : Nat := (0x2000 + p) * 256 + 0x44
/-- R224 -/ abbrev O.BITLOCK_TIMEOUT (p : Nat) : Nat := (0x2000 + p) * 256 + 0x45
/-- R224 -/ abbrev O.SYMLOCK_TIMEOUT (p : Nat) : Nat := (0x2000 + p) * 256 + 0x46
/-- R224 -/ abbrev O.CAPX_TIMEOUT (p : Nat) : Nat := (0x2000 + p) * 256 + 0x47
/-- R224 -/ abbrev O.BACKOFF_MIN (p : Nat) : Nat := (0x2000 + p) * 256 + 0x48
/-- R224 -/ abbrev O.BACKOFF_MAX (p : Nat) : Nat := (0x2000 + p) * 256 + 0x49
/-- R224 -/ abbrev O.LINK_STABLE (p : Nat) : Nat := (0x2000 + p) * 256 + 0x4A
/-- R224 -/ abbrev O.SNR_ACCEPT (p : Nat) : Nat := (0x2000 + p) * 256 + 0x4B
/-- R224 -/ abbrev O.ATTEMPTS (p : Nat) : Nat := (0x2000 + p) * 256 + 0x4C
/-- R224 -/ abbrev O.LAST_FAIL (p : Nat) : Nat := (0x2000 + p) * 256 + 0x4D
/-- R224 -/ abbrev O.LINK_UPS (p : Nat) : Nat := (0x2000 + p) * 256 + 0x4E
/-- R224 -/ abbrev O.LINK_DOWNS (p : Nat) : Nat := (0x2000 + p) * 256 + 0x4F
/-- R224 -/ abbrev O.ABORT_LOS (p : Nat) : Nat := (0x2000 + p) * 256 + 0x50
/-- R224 -/ abbrev O.BACKOFF_LEFT (p : Nat) : Nat := (0x2000 + p) * 256 + 0x51
/-- R224 -/ abbrev O.SHED_MODE (p : Nat) : Nat := (0x2000 + p) * 256 + 0x58
/-- R224 -/ abbrev O.SHED_WINDOW (p : Nat) : Nat := (0x2000 + p) * 256 + 0x59
/-- R224 -/ abbrev O.SHED_FILL (p : Nat) : Nat := (0x2000 + p) * 256 + 0x5A
/-- R224 -/ abbrev O.WIDEN_HIGH (p : Nat) : Nat := (0x2000 + p) * 256 + 0x5B
/-- R224 -/ abbrev O.SHED_HOLD (p : Nat) : Nat := (0x2000 + p) * 256 + 0x5C
/-- R224 -/ abbrev O.WIDTH_NOW (p : Nat) : Nat := (0x2000 + p) * 256 + 0x5D
/-- R224 -/ abbrev O.SHED_PARTNER (p : Nat) : Nat := (0x2000 + p) * 256 + 0x5E
/-- R224 -/ abbrev O.SHED_OUI (p : Nat) : Nat := (0x2000 + p) * 256 + 0x5F
/-- R224 -/ abbrev O.WIDTH_CHANGES (p : Nat) : Nat := (0x2000 + p) * 256 + 0x60
/-- R224 -/ abbrev O.SHED_DECLINED (p : Nat) : Nat := (0x2000 + p) * 256 + 0x61
/-- R224 -/ abbrev O.SPARING (p : Nat) : Nat := (0x2000 + p) * 256 + 0x68
/-- R224 -/ abbrev O.MIN_WIDTH (p : Nat) : Nat := (0x2000 + p) * 256 + 0x69
/-- R224 -/ abbrev O.REJOIN (p : Nat) : Nat := (0x2000 + p) * 256 + 0x6A
/-- R224 -/ abbrev O.LANES_UP (p : Nat) : Nat := (0x2000 + p) * 256 + 0x6B
/-- R224 -/ abbrev O.RETRY_COUNT (p : Nat) : Nat := (0x2000 + p) * 256 + 0x6C
/-- R224 -/ abbrev O.SPARE_EVENTS (p : Nat) : Nat := (0x2000 + p) * 256 + 0x6D
/-- R224 -/ abbrev O.RETRY_BUF (p : Nat) : Nat := (0x2000 + p) * 256 + 0x6E
/-- R182 -/ abbrev O.LANE_STATE (l : Nat) : Nat := (0x2100 + l) * 256 + 0x01
/-- R182 -/ abbrev O.LANE_MODE (l : Nat) : Nat := (0x2100 + l) * 256 + 0x02
/-- R182 -/ abbrev O.TX_INVERT (l : Nat) : Nat := (0x2100 + l) * 256 + 0x03
/-- R182 -/ abbrev O.RX_INVERT (l : Nat) : Nat := (0x2100 + l) * 256 + 0x04
/-- R182 -/ abbrev O.RX_PRECODE_REQ (l : Nat) : Nat := (0x2100 + l) * 256 + 0x05
/-- R182 -/ abbrev O.TX_PRECODE_NOW (l : Nat) : Nat := (0x2100 + l) * 256 + 0x06
/-- R182 -/ abbrev O.TX_FIR_MODE (l : Nat) : Nat := (0x2100 + l) * 256 + 0x08
/-- R182 -/ abbrev O.TX_FIR_INIT (l : Nat) : Nat := (0x2100 + l) * 256 + 0x09
/-- R182 -/ abbrev O.TX_FIR_FIXED (l : Nat) : Nat := (0x2100 + l) * 256 + 0x0A
/-- R182 -/ abbrev O.TX_FIR_NOW (l : Nat) : Nat := (0x2100 + l) * 256 + 0x0B
/-- R182 -/ abbrev O.RX_ADAPT (l : Nat) : Nat := (0x2100 + l) * 256 + 0x10
/-- R182 -/ abbrev O.RX_CTLE (l : Nat) : Nat := (0x2100 + l) * 256 + 0x11
/-- R182 -/ abbrev O.RX_FFE (l : Nat) : Nat := (0x2100 + l) * 256 + 0x12
/-- R182 -/ abbrev O.RX_DFE (l : Nat) : Nat := (0x2100 + l) * 256 + 0x13
/-- R182 -/ abbrev O.RX_SEQ_DET (l : Nat) : Nat := (0x2100 + l) * 256 + 0x14
/-- R182 -/ abbrev O.SNR_NOW (l : Nat) : Nat := (0x2100 + l) * 256 + 0x15
/-- R182 -/ abbrev O.SNR_MIN (l : Nat) : Nat := (0x2100 + l) * 256 + 0x16
/-- R182 -/ abbrev O.CDR_PPM (l : Nat) : Nat := (0x2100 + l) * 256 + 0x17
/-- R182 -/ abbrev O.LOS_STATE (l : Nat) : Nat := (0x2100 + l) * 256 + 0x20
/-- R182 -/ abbrev O.LOS_ASSERT_MV (l : Nat) : Nat := (0x2100 + l) * 256 + 0x21
/-- R182 -/ abbrev O.LOS_DEASSERT_MV (l : Nat) : Nat := (0x2100 + l) * 256 + 0x22
/-- R182 -/ abbrev O.LOS_ASSERT_TIME (l : Nat) : Nat := (0x2100 + l) * 256 + 0x23
/-- R182 -/ abbrev O.LOS_DEASSERT_TIME (l : Nat) : Nat := (0x2100 + l) * 256 + 0x24
/-- R182 -/ abbrev O.LOL_STATE (l : Nat) : Nat := (0x2100 + l) * 256 + 0x25
/-- R182 -/ abbrev O.LOL_PPM (l : Nat) : Nat := (0x2100 + l) * 256 + 0x26
/-- R182 -/ abbrev O.LOS_COUNT (l : Nat) : Nat := (0x2100 + l) * 256 + 0x27
/-- R182 -/ abbrev O.LOL_COUNT (l : Nat) : Nat := (0x2100 + l) * 256 + 0x28
/-- R182 -/ abbrev O.HIST_CLEAR (l : Nat) : Nat := (0x2100 + l) * 256 + 0x30
/-- R182 -/ abbrev O.FEC_HIST (l : Nat) (i : Nat) : Nat := (0x2100 + l) * 256 + 0x31 + i
/-- R182 -/ abbrev O.FEC_HIST_UNCORR (l : Nat) : Nat := (0x2100 + l) * 256 + 0x41
/-- R182 -/ abbrev O.FEC_SYM_CORR (l : Nat) : Nat := (0x2100 + l) * 256 + 0x42
/-- R182 -/ abbrev O.LOOP (l : Nat) : Nat := (0x2100 + l) * 256 + 0x48
/-- R182 -/ abbrev O.TX_PATTERN (l : Nat) : Nat := (0x2100 + l) * 256 + 0x49
/-- R182 -/ abbrev O.RX_CHECKER (l : Nat) : Nat := (0x2100 + l) * 256 + 0x4A
/-- R182 -/ abbrev O.CHK_LOCK (l : Nat) : Nat := (0x2100 + l) * 256 + 0x4B
/-- R182 -/ abbrev O.CHK_ERRORS (l : Nat) : Nat := (0x2100 + l) * 256 + 0x4C
/-- R182 -/ abbrev O.CHK_BITS (l : Nat) : Nat := (0x2100 + l) * 256 + 0x4D
/-- R182 -/ abbrev O.LANE_REST (l : Nat) : Nat := (0x2100 + l) * 256 + 0x50
/-- R182 -/ abbrev O.REST_ENTRIES (l : Nat) : Nat := (0x2100 + l) * 256 + 0x51
/-- R182 -/ abbrev O.REST_EXIT_FAIL (l : Nat) : Nat := (0x2100 + l) * 256 + 0x52
/-- R182 -/ abbrev O.LANE_FAULT_CAUSE (l : Nat) : Nat := (0x2100 + l) * 256 + 0x53
/-- R225 -/ abbrev O.SPAN_DROP_CAUSE (l : Nat) : Nat := (0x2100 + l) * 256 + 0x58
/-- R225 -/ abbrev O.SPAN_DROPS (l : Nat) : Nat := (0x2100 + l) * 256 + 0x59
/-- R259 -/ abbrev O.FC_MODE (p : Nat) : Nat := (0x2200 + p) * 256 + 0x01
/-- R259 -/ abbrev O.FC_DIR (p : Nat) : Nat := (0x2200 + p) * 256 + 0x02
/-- R259 -/ abbrev O.PFC_PRIOS (p : Nat) : Nat := (0x2200 + p) * 256 + 0x03
/-- R259 -/ abbrev O.QUEUE_PRIO (p : Nat) : Nat := (0x2200 + p) * 256 + 0x04
/-- R259 -/ abbrev O.PAUSE_TX_TIME (p : Nat) : Nat := (0x2200 + p) * 256 + 0x05
/-- R259 -/ abbrev O.PAUSE_REFRESH (p : Nat) : Nat := (0x2200 + p) * 256 + 0x06
/-- R259 -/ abbrev O.PAUSED_NOW (p : Nat) : Nat := (0x2200 + p) * 256 + 0x07
/-- R259 -/ abbrev O.XOFF_SENT (p : Nat) : Nat := (0x2200 + p) * 256 + 0x08
/-- R259 -/ abbrev O.XOFF_CELLS (p : Nat) (i : Nat) : Nat := (0x2200 + p) * 256 + 0x10 + i
/-- R259 -/ abbrev O.XON_CELLS (p : Nat) (i : Nat) : Nat := (0x2200 + p) * 256 + 0x18 + i
/-- R260 -/ abbrev O.WAKE_ENABLE (p : Nat) : Nat := (0x2300 + p) * 256 + 0x01
/-- R260 -/ abbrev O.WAKE_MAC (p : Nat) : Nat := (0x2300 + p) * 256 + 0x02
/-- R260 -/ abbrev O.WAKE_CAUSE (p : Nat) : Nat := (0x2300 + p) * 256 + 0x03
/-- R260 -/ abbrev O.WAKE_CLEAR (p : Nat) : Nat := (0x2300 + p) * 256 + 0x04
/-- R260 -/ abbrev O.WAKE_FRAME (p : Nat) : Nat := (0x2300 + p) * 256 + 0x05
/-- R260 -/ abbrev O.WAKE_MATCHES (p : Nat) : Nat := (0x2300 + p) * 256 + 0x06
/-- R260 -/ abbrev O.PATTERN (p : Nat) (i : Nat) : Nat := (0x2300 + p) * 256 + 0x10 + i
/-- R260 -/ abbrev O.MASK (p : Nat) (i : Nat) : Nat := (0x2300 + p) * 256 + 0x20 + i
/-- R295 -/ abbrev O.TPID_EXTRA : Nat := (0x3000) * 256 + 0x01
/-- R295 -/ abbrev O.VXLAN_PORT : Nat := (0x3000) * 256 + 0x02
/-- R295 -/ abbrev O.GENEVE_PORT : Nat := (0x3000) * 256 + 0x03
/-- R295 -/ abbrev O.DEFAULT_PRIO : Nat := (0x3000) * 256 + 0x04
/-- R295 -/ abbrev O.ACT_DEPTH : Nat := (0x3000) * 256 + 0x10
/-- R295 -/ abbrev O.ACT_LENGTH : Nat := (0x3000) * 256 + 0x11
/-- R295 -/ abbrev O.ACT_BADHDR : Nat := (0x3000) * 256 + 0x12
/-- R295 -/ abbrev O.KEY_SEL : Nat := (0x3000) * 256 + 0x18
/-- R295 -/ abbrev O.KEY_PROFILE (i : Nat) : Nat := (0x3000) * 256 + 0x20 + i
/-- R295 -/ abbrev O.USER_TRANS (i : Nat) : Nat := (0x3000) * 256 + 0x30 + i
/-- R295 -/ abbrev O.USER_NODE (i : Nat) : Nat := (0x3000) * 256 + 0x50 + i
/-- R296 -/ abbrev O.EM_ENTRIES (t : Nat) : Nat := (0x3100 + t) * 256 + 0x01
/-- R296 -/ abbrev O.EM_CAPACITY (t : Nat) : Nat := (0x3100 + t) * 256 + 0x02
/-- R296 -/ abbrev O.EM_OP (t : Nat) : Nat := (0x3100 + t) * 256 + 0x03
/-- R296 -/ abbrev O.EM_PROBE (t : Nat) : Nat := (0x3100 + t) * 256 + 0x04
/-- R296 -/ abbrev O.EM_REFUSAL (t : Nat) : Nat := (0x3100 + t) * 256 + 0x05
/-- R296 -/ abbrev O.TC_OP (t : Nat) : Nat := (0x3100 + t) * 256 + 0x08
/-- R296 -/ abbrev O.TC_PROBE (t : Nat) : Nat := (0x3100 + t) * 256 + 0x09
/-- R296 -/ abbrev O.TC_USED_P0 (t : Nat) : Nat := (0x3100 + t) * 256 + 0x0A
/-- R296 -/ abbrev O.TC_USED_P1 (t : Nat) : Nat := (0x3100 + t) * 256 + 0x0B
/-- R296 -/ abbrev O.PROC_COPY_DST (t : Nat) : Nat := (0x3100 + t) * 256 + 0x10
/-- R296 -/ abbrev O.PROC_UNMATCHED_DST (t : Nat) : Nat := (0x3100 + t) * 256 + 0x11
/-- R296 -/ abbrev O.PROC_MALFORMED_DST (t : Nat) : Nat := (0x3100 + t) * 256 + 0x12
/-- R296 -/ abbrev O.UNMATCHED_MODE (t : Nat) : Nat := (0x3100 + t) * 256 + 0x13
/-- R296 -/ abbrev O.LIM_COPY_RATE (t : Nat) : Nat := (0x3100 + t) * 256 + 0x18
/-- R296 -/ abbrev O.LIM_COPY_BURST (t : Nat) : Nat := (0x3100 + t) * 256 + 0x19
/-- R296 -/ abbrev O.LIM_UNMATCHED_RATE (t : Nat) : Nat := (0x3100 + t) * 256 + 0x1A
/-- R296 -/ abbrev O.LIM_UNMATCHED_BURST (t : Nat) : Nat := (0x3100 + t) * 256 + 0x1B
/-- R296 -/ abbrev O.LIM_MALFORMED_RATE (t : Nat) : Nat := (0x3100 + t) * 256 + 0x1C
/-- R296 -/ abbrev O.LIM_MALFORMED_BURST (t : Nat) : Nat := (0x3100 + t) * 256 + 0x1D
/-- R296 -/ abbrev O.PARSE_OK (t : Nat) : Nat := (0x3100 + t) * 256 + 0x20
/-- R296 -/ abbrev O.PARSE_DEPTH (t : Nat) : Nat := (0x3100 + t) * 256 + 0x21
/-- R296 -/ abbrev O.PARSE_LENGTH (t : Nat) : Nat := (0x3100 + t) * 256 + 0x22
/-- R296 -/ abbrev O.PARSE_BADHDR (t : Nat) : Nat := (0x3100 + t) * 256 + 0x23
/-- R296 -/ abbrev O.LENGTH_LATE (t : Nat) : Nat := (0x3100 + t) * 256 + 0x24
/-- R296 -/ abbrev O.LIM_COPY_DROP (t : Nat) : Nat := (0x3100 + t) * 256 + 0x28
/-- R296 -/ abbrev O.LIM_UNMATCHED_DROP (t : Nat) : Nat := (0x3100 + t) * 256 + 0x29
/-- R296 -/ abbrev O.LIM_MALFORMED_DROP (t : Nat) : Nat := (0x3100 + t) * 256 + 0x2A
/-- R296 -/ abbrev O.UNMATCHED_FRAMES (t : Nat) : Nat := (0x3100 + t) * 256 + 0x2B
/-- R296 -/ abbrev O.MIRROR_DROP (t : Nat) : Nat := (0x3100 + t) * 256 + 0x2C
/-- R297 -/ abbrev O.MIR_DST_KIND (s : Nat) : Nat := (0x3180 + s) * 256 + 0x01
/-- R297 -/ abbrev O.MIR_DST (s : Nat) : Nat := (0x3180 + s) * 256 + 0x02
/-- R297 -/ abbrev O.MIR_QUEUE (s : Nat) : Nat := (0x3180 + s) * 256 + 0x03
/-- R297 -/ abbrev O.MIR_TRUNC (s : Nat) : Nat := (0x3180 + s) * 256 + 0x04
/-- R297 -/ abbrev O.MIR_COPIES (s : Nat) : Nat := (0x3180 + s) * 256 + 0x05
/-- R320 -/ abbrev O.ETCH_CTL : Nat := (0x3200) * 256 + 0x01
/-- R320 -/ abbrev O.ETCH_STATE : Nat := (0x3200) * 256 + 0x02
/-- R320 -/ abbrev O.ETCH_OWNER : Nat := (0x3200) * 256 + 0x03
/-- R320 -/ abbrev O.ETCH_STAGED_EM : Nat := (0x3200) * 256 + 0x04
/-- R320 -/ abbrev O.ETCH_STAGED_TC : Nat := (0x3200) * 256 + 0x05
/-- R320 -/ abbrev O.ETCH_STAGED_OBJ : Nat := (0x3200) * 256 + 0x06
/-- R320 -/ abbrev O.ETCH_IDLE : Nat := (0x3200) * 256 + 0x07
/-- R320 -/ abbrev O.ETCH_STUCK_LIMIT : Nat := (0x3200) * 256 + 0x08
/-- R320 -/ abbrev O.ETCH_GEN : Nat := (0x3200) * 256 + 0x09
/-- R320 -/ abbrev O.CURRENT_SLOT : Nat := (0x3200) * 256 + 0x0A
/-- R320 -/ abbrev O.LAST_SWITCH : Nat := (0x3200) * 256 + 0x0B
/-- R320 -/ abbrev O.ETCH_TILE_MISS : Nat := (0x3200) * 256 + 0x0C
/-- R320 -/ abbrev O.ETCH_NOSLOT : Nat := (0x3200) * 256 + 0x0D
/-- R320 -/ abbrev O.ETCH_ABORTS : Nat := (0x3200) * 256 + 0x0E
/-- R320 -/ abbrev O.SLOT_STATE (i : Nat) : Nat := (0x3200) * 256 + 0x10 + i
/-- R320 -/ abbrev O.SLOT_GEN (i : Nat) : Nat := (0x3200) * 256 + 0x14 + i
/-- R320 -/ abbrev O.SLOT_INFLIGHT (i : Nat) : Nat := (0x3200) * 256 + 0x18 + i
/-- R320 -/ abbrev O.RECIRC_LIMIT_DROP (i : Nat) : Nat := (0x3200) * 256 + 0x20 + i
/-- R356 -/ abbrev O.BASIN_CELLS (t : Nat) : Nat := (0x4000 + t) * 256 + 0x01
/-- R356 -/ abbrev O.GROUPS_EN (t : Nat) : Nat := (0x4000 + t) * 256 + 0x02
/-- R356 -/ abbrev O.GROUPS_EMPTY (t : Nat) : Nat := (0x4000 + t) * 256 + 0x03
/-- R356 -/ abbrev O.CELLS_FREE (t : Nat) : Nat := (0x4000 + t) * 256 + 0x04
/-- R356 -/ abbrev O.SKID_CELLS (t : Nat) : Nat := (0x4000 + t) * 256 + 0x05
/-- R356 -/ abbrev O.MIN_POOL (t : Nat) : Nat := (0x4000 + t) * 256 + 0x06
/-- R356 -/ abbrev O.HEADROOM_POOL (t : Nat) : Nat := (0x4000 + t) * 256 + 0x07
/-- R356 -/ abbrev O.SHARED_USED (t : Nat) : Nat := (0x4000 + t) * 256 + 0x08
/-- R356 -/ abbrev O.MIN_USED (t : Nat) : Nat := (0x4000 + t) * 256 + 0x09
/-- R356 -/ abbrev O.HEADROOM_USED (t : Nat) : Nat := (0x4000 + t) * 256 + 0x0A
/-- R356 -/ abbrev O.SKID_TRUNC (t : Nat) : Nat := (0x4000 + t) * 256 + 0x0B
/-- R356 -/ abbrev O.AFI_PROFILE (t : Nat) : Nat := (0x4000 + t) * 256 + 0x0C
/-- R356 -/ abbrev O.RING_PROFILE (t : Nat) : Nat := (0x4000 + t) * 256 + 0x0D
/-- R356 -/ abbrev O.SAMPLE_INTERVAL (t : Nat) : Nat := (0x4000 + t) * 256 + 0x0E
/-- R356 -/ abbrev O.QSEL (t : Nat) : Nat := (0x4000 + t) * 256 + 0x0F
/-- R356 -/ abbrev O.QSTAT (t : Nat) : Nat := (0x4000 + t) * 256 + 0x10
/-- R356 -/ abbrev O.QSTAT_CLEAR (t : Nat) : Nat := (0x4000 + t) * 256 + 0x11
/-- R356 -/ abbrev O.ADMIT_PROFILE_REC (t : Nat) (i : Nat) : Nat := (0x4010 + t) * 256 + 0x01 + i
/-- R356 -/ abbrev O.ADMIT_PROFILE (p : Nat) : Nat := (0x4020 + p) * 256 + 0x01
/-- R356 -/ abbrev O.INGRESS_CELLS (p : Nat) : Nat := (0x4020 + p) * 256 + 0x02
/-- R357 -/ abbrev O.POL_WRITE (t : Nat) : Nat := (0x4100 + t) * 256 + 0x01
/-- R357 -/ abbrev O.POL_SEL (t : Nat) : Nat := (0x4100 + t) * 256 + 0x02
/-- R357 -/ abbrev O.POL_READ (t : Nat) : Nat := (0x4100 + t) * 256 + 0x03
/-- R357 -/ abbrev O.FENCE_DROP (t : Nat) : Nat := (0x4100 + t) * 256 + 0x04
/-- R357 -/ abbrev O.FENCE_INVALID (t : Nat) : Nat := (0x4100 + t) * 256 + 0x05
/-- R357 -/ abbrev O.METER_KIND_MISS (t : Nat) : Nat := (0x4100 + t) * 256 + 0x06
/-- R378 -/ abbrev O.PORT_SHAPE (p : Nat) : Nat := (0x4200 + p) * 256 + 0x01
/-- R378 -/ abbrev O.PORT_SHAPE_STATE (p : Nat) : Nat := (0x4200 + p) * 256 + 0x02
/-- R378 -/ abbrev O.VTIME (p : Nat) : Nat := (0x4200 + p) * 256 + 0x03
/-- R378 -/ abbrev O.QCFG (p : Nat) (i : Nat) : Nat := (0x4200 + p) * 256 + 0x10 + i
/-- R378 -/ abbrev O.QSTATE (p : Nat) (i : Nat) : Nat := (0x4200 + p) * 256 + 0x20 + i
/-- R407 -/ abbrev O.HATCH_ENABLE (p : Nat) : Nat := (0x4300 + p) * 256 + 0x01
/-- R407 -/ abbrev O.IDLE_GATES (p : Nat) : Nat := (0x4300 + p) * 256 + 0x02
/-- R407 -/ abbrev O.ADMIN_BASE (p : Nat) : Nat := (0x4300 + p) * 256 + 0x03
/-- R407 -/ abbrev O.ADMIN_CYCLE (p : Nat) : Nat := (0x4300 + p) * 256 + 0x04
/-- R407 -/ abbrev O.ADMIN_LENGTH (p : Nat) : Nat := (0x4300 + p) * 256 + 0x05
/-- R407 -/ abbrev O.ADMIN_LIST (p : Nat) (i : Nat) : Nat := (0x4300 + p) * 256 + 0x06 + i
/-- R407 -/ abbrev O.HATCH_COMMIT (p : Nat) : Nat := (0x4300 + p) * 256 + 0x0A
/-- R407 -/ abbrev O.HATCH_STATE (p : Nat) : Nat := (0x4300 + p) * 256 + 0x10
/-- R407 -/ abbrev O.OPER_BASE (p : Nat) : Nat := (0x4300 + p) * 256 + 0x11
/-- R407 -/ abbrev O.OPER_CYCLE (p : Nat) : Nat := (0x4300 + p) * 256 + 0x12
/-- R407 -/ abbrev O.OPER_LENGTH (p : Nat) : Nat := (0x4300 + p) * 256 + 0x13
/-- R407 -/ abbrev O.OPER_LIST (p : Nat) (i : Nat) : Nat := (0x4300 + p) * 256 + 0x14 + i
/-- R407 -/ abbrev O.OPER_START (p : Nat) : Nat := (0x4300 + p) * 256 + 0x18
/-- R407 -/ abbrev O.PEND_START (p : Nat) : Nat := (0x4300 + p) * 256 + 0x19
/-- R407 -/ abbrev O.LATE_BASE (p : Nat) : Nat := (0x4300 + p) * 256 + 0x1A
/-- R407 -/ abbrev O.GATE_NOW (p : Nat) : Nat := (0x4300 + p) * 256 + 0x1B
/-- R407 -/ abbrev O.HATCH_STARTS (p : Nat) : Nat := (0x4300 + p) * 256 + 0x1C
/-- R407 -/ abbrev O.HATCH_OVERSIZE (p : Nat) : Nat := (0x4300 + p) * 256 + 0x1D
/-- R407 -/ abbrev O.LAUNCH_CFG (p : Nat) (i : Nat) : Nat := (0x4300 + p) * 256 + 0x20 + i
/-- R407 -/ abbrev O.LAUNCH_LEAD (p : Nat) : Nat := (0x4300 + p) * 256 + 0x30
/-- R407 -/ abbrev O.LAUNCH_HORIZON (p : Nat) : Nat := (0x4300 + p) * 256 + 0x31
/-- R407 -/ abbrev O.LAUNCH_IGNORED (p : Nat) : Nat := (0x4300 + p) * 256 + 0x32
/-- R407 -/ abbrev O.PAUSE_DEFERRED (p : Nat) : Nat := (0x4300 + p) * 256 + 0x33
/-- R407 -/ abbrev O.LAUNCH_STATS (p : Nat) (i : Nat) : Nat := (0x4300 + p) * 256 + 0x40 + i
/-- R450 -/ abbrev O.ACTIVE_DOMAIN : Nat := (0x5000) * 256 + 0x01
/-- R450 -/ abbrev O.PRES_STATE : Nat := (0x5000) * 256 + 0x02
/-- R450 -/ abbrev O.PRES_OFFSET : Nat := (0x5000) * 256 + 0x03
/-- R450 -/ abbrev O.SADDLE_MODE : Nat := (0x5000) * 256 + 0x04
/-- R450 -/ abbrev O.REVERT_HOLD : Nat := (0x5000) * 256 + 0x05
/-- R450 -/ abbrev O.SADDLE_REQ : Nat := (0x5000) * 256 + 0x06
/-- R450 -/ abbrev O.SWITCHOVERS : Nat := (0x5000) * 256 + 0x07
/-- R450 -/ abbrev O.LAST_SWITCH_L : Nat := (0x5000) * 256 + 0x08
/-- R450 -/ abbrev O.DIFF_BA : Nat := (0x5000) * 256 + 0x09
/-- R450 -/ abbrev O.DIFF_BA_MIN : Nat := (0x5000) * 256 + 0x0A
/-- R450 -/ abbrev O.DIFF_BA_MAX : Nat := (0x5000) * 256 + 0x0B
/-- R450 -/ abbrev O.DIFF_CLEAR : Nat := (0x5000) * 256 + 0x0C
/-- R450 -/ abbrev O.HOLDOVER_ENTRIES : Nat := (0x5000) * 256 + 0x0D
/-- R450 -/ abbrev O.REEPOCH_CMD : Nat := (0x5000) * 256 + 0x10
/-- R450 -/ abbrev O.REEPOCH_AT : Nat := (0x5000) * 256 + 0x11
/-- R450 -/ abbrev O.REEPOCH_TIME : Nat := (0x5000) * 256 + 0x12
/-- R450 -/ abbrev O.REEPOCH_STATE : Nat := (0x5000) * 256 + 0x13
/-- R450 -/ abbrev O.REF_STATE : Nat := (0x5000) * 256 + 0x18
/-- R450 -/ abbrev O.REF_LOSSES : Nat := (0x5000) * 256 + 0x19
/-- R450 -/ abbrev O.REF_OFFSET : Nat := (0x5000) * 256 + 0x1A
/-- R450 -/ abbrev O.PPS_OUT_ENABLE : Nat := (0x5000) * 256 + 0x20
/-- R450 -/ abbrev O.PPS_OUT_WIDTH : Nat := (0x5000) * 256 + 0x21
/-- R450 -/ abbrev O.PPS_OUT_CORR : Nat := (0x5000) * 256 + 0x22
/-- R450 -/ abbrev O.PPS_OUT_SKIPPED : Nat := (0x5000) * 256 + 0x23
/-- R450 -/ abbrev O.PPS_IN_ENABLE : Nat := (0x5000) * 256 + 0x28
/-- R450 -/ abbrev O.PPS_IN_CORR : Nat := (0x5000) * 256 + 0x29
/-- R450 -/ abbrev O.PPS_IN_SEQ : Nat := (0x5000) * 256 + 0x2A
/-- R450 -/ abbrev O.PPS_IN_A : Nat := (0x5000) * 256 + 0x2B
/-- R450 -/ abbrev O.PPS_IN_B : Nat := (0x5000) * 256 + 0x2C
/-- R450 -/ abbrev O.PPS_IN_L : Nat := (0x5000) * 256 + 0x2D
/-- R450 -/ abbrev O.PPS_IN_GLITCH : Nat := (0x5000) * 256 + 0x2E
/-- R450 -/ abbrev O.STACK_TIME_ROLE : Nat := (0x5000) * 256 + 0x30
/-- R450 -/ abbrev O.UPSTREAM_PORT : Nat := (0x5000) * 256 + 0x31
/-- R450 -/ abbrev O.SPAN_RTT : Nat := (0x5000) * 256 + 0x32
/-- R450 -/ abbrev O.SPAN_OFFSET : Nat := (0x5000) * 256 + 0x33
/-- R451 -/ abbrev O.DOM_STATE (d : Nat) : Nat := (0x5001 + d) * 256 + 0x01
/-- R451 -/ abbrev O.DOM_SRC (d : Nat) : Nat := (0x5001 + d) * 256 + 0x02
/-- R451 -/ abbrev O.SLEW_MAX (d : Nat) : Nat := (0x5001 + d) * 256 + 0x03
/-- R451 -/ abbrev O.FREQ_ADJ (d : Nat) : Nat := (0x5001 + d) * 256 + 0x04
/-- R451 -/ abbrev O.PHASE_ADJ (d : Nat) : Nat := (0x5001 + d) * 256 + 0x05
/-- R451 -/ abbrev O.PHASE_LEFT (d : Nat) : Nat := (0x5001 + d) * 256 + 0x06
/-- R451 -/ abbrev O.DOM_BASE (d : Nat) : Nat := (0x5001 + d) * 256 + 0x07
/-- R451 -/ abbrev O.DOM_WATCHDOG (d : Nat) : Nat := (0x5001 + d) * 256 + 0x08
/-- R451 -/ abbrev O.DOM_PPS_WATCH (d : Nat) : Nat := (0x5001 + d) * 256 + 0x09
/-- R451 -/ abbrev O.DOM_GEN (d : Nat) : Nat := (0x5001 + d) * 256 + 0x0A
/-- R451 -/ abbrev O.LOST_CAUSE (d : Nat) : Nat := (0x5001 + d) * 256 + 0x0B
/-- R451 -/ abbrev O.LOSSES (d : Nat) : Nat := (0x5001 + d) * 256 + 0x0C
/-- R451 -/ abbrev O.RATE_NOW (d : Nat) : Nat := (0x5001 + d) * 256 + 0x0D
/-- R452 -/ abbrev O.REPLICA_STATE_A (t : Nat) : Nat := (0x5008 + t) * 256 + 0x01
/-- R452 -/ abbrev O.REPLICA_STATE_B (t : Nat) : Nat := (0x5008 + t) * 256 + 0x02
/-- R452 -/ abbrev O.REPLICA_STATE_L (t : Nat) : Nat := (0x5008 + t) * 256 + 0x03
/-- R452 -/ abbrev O.DIST_DELAY (t : Nat) : Nat := (0x5008 + t) * 256 + 0x04
/-- R452 -/ abbrev O.SERVO_ERR_A (t : Nat) : Nat := (0x5008 + t) * 256 + 0x05
/-- R452 -/ abbrev O.SERVO_ERR_B (t : Nat) : Nat := (0x5008 + t) * 256 + 0x06
/-- R452 -/ abbrev O.SERVO_ERR_L (t : Nat) : Nat := (0x5008 + t) * 256 + 0x07
/-- R452 -/ abbrev O.PORT_REPLICA_FAULT (t : Nat) : Nat := (0x5008 + t) * 256 + 0x08
/-- R452 -/ abbrev O.REPLICA_FAULTS (t : Nat) : Nat := (0x5008 + t) * 256 + 0x09
/-- R480 -/ abbrev O.BOARD_RX_PS (p : Nat) : Nat := (0x5100 + p) * 256 + 0x01
/-- R480 -/ abbrev O.BOARD_TX_PS (p : Nat) : Nat := (0x5100 + p) * 256 + 0x02
/-- R480 -/ abbrev O.SPAN_ASYM (p : Nat) : Nat := (0x5100 + p) * 256 + 0x03
/-- R480 -/ abbrev O.TX_TS_SEL (p : Nat) : Nat := (0x5100 + p) * 256 + 0x04
/-- R480 -/ abbrev O.TSQ_DEPTH (p : Nat) : Nat := (0x5100 + p) * 256 + 0x05
/-- R480 -/ abbrev O.TSQ_OVF_COUNT (p : Nat) : Nat := (0x5100 + p) * 256 + 0x06
/-- R480 -/ abbrev O.TSQ_NOSTART (p : Nat) : Nat := (0x5100 + p) * 256 + 0x07
/-- R480 -/ abbrev O.TSQ_LAST_NOSTART (p : Nat) : Nat := (0x5100 + p) * 256 + 0x08
/-- R480 -/ abbrev O.TSQ_FLUSH (p : Nat) : Nat := (0x5100 + p) * 256 + 0x09
/-- R480 -/ abbrev O.TC_ENABLE (p : Nat) : Nat := (0x5100 + p) * 256 + 0x10
/-- R480 -/ abbrev O.PEER_DELAY (p : Nat) : Nat := (0x5100 + p) * 256 + 0x11
/-- R480 -/ abbrev O.TC_UPDATES (p : Nat) : Nat := (0x5100 + p) * 256 + 0x12
/-- R480 -/ abbrev O.TC_GEN_FALLBACK (p : Nat) : Nat := (0x5100 + p) * 256 + 0x13
/-- R480 -/ abbrev O.ONE_STEP_SENT (p : Nat) : Nat := (0x5100 + p) * 256 + 0x14
/-- R480 -/ abbrev O.PTP_CF_SKIPPED (p : Nat) : Nat := (0x5100 + p) * 256 + 0x15
/-- R480 -/ abbrev O.PATH_DOMAIN (p : Nat) : Nat := (0x5100 + p) * 256 + 0x18
/-- R480 -/ abbrev O.PATH_SAMPLE (p : Nat) : Nat := (0x5100 + p) * 256 + 0x19
/-- R480 -/ abbrev O.PATH_BASE (p : Nat) : Nat := (0x5100 + p) * 256 + 0x1A
/-- R480 -/ abbrev O.PATH_STATE (p : Nat) : Nat := (0x5100 + p) * 256 + 0x1B
/-- R480 -/ abbrev O.PATH_STEPS (p : Nat) : Nat := (0x5100 + p) * 256 + 0x1C
/-- R480 -/ abbrev O.PATH_LAST_STEP (p : Nat) : Nat := (0x5100 + p) * 256 + 0x1D
/-- R480 -/ abbrev O.PATH_LEARN (p : Nat) : Nat := (0x5100 + p) * 256 + 0x1E
/-- R480 -/ abbrev O.PATH_STEP_NS (p : Nat) : Nat := (0x5100 + p) * 256 + 0x1F
/-- R480 -/ abbrev O.PATH_STEP_COUNT (p : Nat) : Nat := (0x5100 + p) * 256 + 0x20
/-- R481 -/ abbrev O.TC_MODE : Nat := (0x5200) * 256 + 0x01
/-- R481 -/ abbrev O.TC_DOMAINS : Nat := (0x5200) * 256 + 0x02
/-- R481 -/ abbrev O.PATH_HOLD : Nat := (0x5200) * 256 + 0x03
/-- R481 -/ abbrev O.DIFF_STEP_NS : Nat := (0x5200) * 256 + 0x04
/-- R481 -/ abbrev O.JUMP_LIMIT_A : Nat := (0x5200) * 256 + 0x05
/-- R481 -/ abbrev O.JUMP_LIMIT_B : Nat := (0x5200) * 256 + 0x06
/-- R481 -/ abbrev O.HOLD_STATE : Nat := (0x5200) * 256 + 0x07
/-- R481 -/ abbrev O.HOLD_DEV_A : Nat := (0x5200) * 256 + 0x08
/-- R481 -/ abbrev O.HOLD_DEV_B : Nat := (0x5200) * 256 + 0x09
/-- R481 -/ abbrev O.HOLD_D0 : Nat := (0x5200) * 256 + 0x0A
/-- R481 -/ abbrev O.PATH_VERDICT : Nat := (0x5200) * 256 + 0x0B
/-- R481 -/ abbrev O.PATH_VERDICT_DOM : Nat := (0x5200) * 256 + 0x0C
/-- R481 -/ abbrev O.JUMPS : Nat := (0x5200) * 256 + 0x0D
/-- R481 -/ abbrev O.STACK_JUMP_DROP : Nat := (0x5200) * 256 + 0x0E
/-- R519 -/ abbrev O.ENGINES (t : Nat) : Nat := (0x6000 + t) * 256 + 0x01
/-- R519 -/ abbrev O.COPY_BYTES (t : Nat) : Nat := (0x6000 + t) * 256 + 0x02
/-- R519 -/ abbrev O.PROG (t : Nat) (i : Nat) : Nat := (0x6000 + t) * 256 + 0x10 + i
/-- R519 -/ abbrev O.RING_SEL (t : Nat) : Nat := (0x6100 + t) * 256 + 0x01
/-- R519 -/ abbrev O.RING_CFG (t : Nat) : Nat := (0x6100 + t) * 256 + 0x02
/-- R519 -/ abbrev O.RING_SHADOW (t : Nat) : Nat := (0x6100 + t) * 256 + 0x03
/-- R519 -/ abbrev O.RING_ARM (t : Nat) : Nat := (0x6100 + t) * 256 + 0x04
/-- R519 -/ abbrev O.RING_CTL (t : Nat) : Nat := (0x6100 + t) * 256 + 0x05
/-- R519 -/ abbrev O.RING_STATUS (t : Nat) : Nat := (0x6100 + t) * 256 + 0x06
/-- R519 -/ abbrev O.CQ_SEL (t : Nat) : Nat := (0x6100 + t) * 256 + 0x08
/-- R519 -/ abbrev O.CQ_CFG (t : Nat) : Nat := (0x6100 + t) * 256 + 0x09
/-- R519 -/ abbrev O.CQ_CTL (t : Nat) : Nat := (0x6100 + t) * 256 + 0x0A
/-- R519 -/ abbrev O.CQ_STATUS (t : Nat) : Nat := (0x6100 + t) * 256 + 0x0B
/-- R519 -/ abbrev O.DB_INVALID (t : Nat) : Nat := (0x6100 + t) * 256 + 0x10
/-- R519 -/ abbrev O.DB_IDLE (t : Nat) : Nat := (0x6100 + t) * 256 + 0x11
/-- R519 -/ abbrev O.DESC_ERRS (t : Nat) : Nat := (0x6100 + t) * 256 + 0x12
/-- R519 -/ abbrev O.RING_FAILS (t : Nat) : Nat := (0x6100 + t) * 256 + 0x13
/-- R519 -/ abbrev O.RX_FLUSH (t : Nat) : Nat := (0x6100 + t) * 256 + 0x14
/-- R551 -/ abbrev O.CNT_PRESET (t : Nat) : Nat := (0x7000 + t) * 256 + 0x01
/-- R551 -/ abbrev O.PAGE_WRITES (t : Nat) : Nat := (0x7000 + t) * 256 + 0x02
/-- R551 -/ abbrev O.EVC_CFG (t : Nat) (i : Nat) : Nat := (0x7008 + t) * 256 + 0x01 + i
/-- R551 -/ abbrev O.EVC_VALUE (t : Nat) (i : Nat) : Nat := (0x7010 + t) * 256 + 0x01 + i
/-- R551 -/ abbrev O.PAGE_GRANT (t : Nat) (i : Nat) : Nat := (0x7018 + t) * 256 + 0x01 + i
/-- R551 -/ abbrev O.PAGE_MAP (t : Nat) (i : Nat) : Nat := (0x7018 + t) * 256 + 0x10 + i
/-- R551 -/ abbrev O.PCNT (p : Nat) (i : Nat) : Nat := (0x7100 + p) * 256 + 0x01 + i
/-- R551 -/ abbrev O.WIN_LEN (p : Nat) : Nat := (0x7200 + p) * 256 + 0x01
/-- R551 -/ abbrev O.WIN_LAST (p : Nat) : Nat := (0x7200 + p) * 256 + 0x02
/-- R551 -/ abbrev O.WIN_HIST (p : Nat) : Nat := (0x7200 + p) * 256 + 0x03
/-- R552 -/ abbrev O.PS_SIZE : Nat := (0x7800) * 256 + 0x01
/-- R552 -/ abbrev O.PS_SLOTS : Nat := (0x7800) * 256 + 0x02
/-- R552 -/ abbrev O.PS_LATEST : Nat := (0x7800) * 256 + 0x03
/-- R552 -/ abbrev O.PS_SEQ : Nat := (0x7800) * 256 + 0x04
/-- R552 -/ abbrev O.PS_CHECKPOINT : Nat := (0x7800) * 256 + 0x05
/-- R552 -/ abbrev O.PS_BAD_SLOTS : Nat := (0x7800) * 256 + 0x06
/-- R552 -/ abbrev O.PS_SEL : Nat := (0x7800) * 256 + 0x07
/-- R552 -/ abbrev O.PS_DATA (i : Nat) : Nat := (0x7801) * 256 + 0x01 + i

end Sys2Proof.Machine
end

