-- ==== Sys2Proof/Machine/ObjectTypes.lean ====
section
/-! DEFINITION. The types of the dictionary's object tables (R11 to R14): access classes, effect codes, checks of a written
value, object rows and index families. -/

namespace Sys2Proof.Machine

/-- Access classes (R12). -/
inductive Access where
  | const | ro | rw | wo | rt | priv | vend
deriving DecidableEq, Repr

/-- Effect codes (R13); `none` where a row gives a dash. -/
inductive Effect where
  | imm | evt | etch | retrain | rst | none
deriving DecidableEq, Repr

/-- What a row states about the values it takes (R8, R113). A code outside `codes`, and a bit outside `mask`, is a reserved
encoding; a value outside the other forms is out of range; `special` values are checked by the rule of their own object. -/
inductive Check where
  | any
  | codes (l : List Nat)
  | mask (m : Nat)
  | range (lo hi : Int)
  | zeroOr (lo hi : Nat)
  | pow2 (lo hi : Nat)
  | stepped (lo hi step : Nat)
  | time
  | special
deriving DecidableEq, Repr

/-- One row of an object table (R14). `ty` is the TYPE code of R112. -/
structure Row where
  name   : String
  numbered : Nat
  start  : Nat
  first  : Nat
  last   : Nat
  ty     : Nat
  size   : Nat
  access : Access
  effect : Effect
  dflt   : Nat
  hasDflt : Bool
  check  : Check
deriving DecidableEq, Repr

/-- What the number of an index family counts (R10): nothing, tiles, ports or lanes, key slots, mirror sessions, domains A and
B; `tileSub` is a single index whose subindices count tiles (R582, R649). -/
inductive Family where
  | one | tile | port | four | sixteen | two | tileSub
deriving DecidableEq, Repr

/-- One index family: its first index, what it is indexed by, and its rows. -/
structure Page where
  base   : Nat
  family : Family
  rows   : List Row
deriving DecidableEq, Repr

end Sys2Proof.Machine
end

