-- ==== Sys2Proof/Machine/ObjectTable.lean ====
section
/-! DEFINITION. The object tables of the dictionary (R106, R14): one list of rows for each index or index family, as the
tables of the chapters give them, and the list of those pages. Row fields in order: name, name suffix (0 none, 1 one number, 2 two
numbers) and its first number, first and last subindex, type code, size in bytes, access class, effect code, default, whether a
default is given, and the check of the value written. -/

namespace Sys2Proof.Machine

/-- Objects at 0x1000 (R146). -/
def rows1000 : List Row :=
  [⟨"VENDOR_ID", 0, 0, 0x01, 0x01, 2, 4, .const, .none, 0x53560000, true, .any⟩,
   ⟨"FAMILY", 0, 0, 0x02, 0x02, 1, 2, .const, .none, 1, true, .any⟩,
   ⟨"VARIANT", 0, 0, 0x03, 0x03, 7, 1, .const, .none, 0, true, .any⟩,
   ⟨"REVISION", 0, 0, 0x04, 0x04, 1, 2, .const, .none, 0, true, .any⟩,
   ⟨"SERIAL", 0, 0, 0x05, 0x05, 11, 16, .const, .none, 0, true, .any⟩,
   ⟨"TILE_MAP", 0, 0, 0x06, 0x06, 8, 1, .const, .none, 0, true, .any⟩,
   ⟨"TILE_READY", 0, 0, 0x07, 0x07, 8, 1, .ro, .none, 0, true, .any⟩,
   ⟨"DICT_LAYOUT", 0, 0, 0x08, 0x08, 1, 2, .const, .none, 1, true, .any⟩]

/-- Objects at 0x1010 (R146, R649). -/
def rows1010 : List Row :=
  [⟨"LC_STATE", 0, 0, 0x01, 0x01, 7, 1, .ro, .none, 1, true, .any⟩,
   ⟨"LC_REQUEST", 0, 0, 0x02, 0x02, 7, 1, .priv, .evt, 0, true, .codes [0, 2, 3, 4, 5]⟩,
   ⟨"LC_CHANGES", 0, 0, 0x03, 0x03, 2, 4, .ro, .none, 0, true, .any⟩,
   ⟨"LC_LAST", 0, 0, 0x04, 0x04, 10, 12, .ro, .none, 0, true, .any⟩,
   ⟨"SERVICE_PIN", 0, 0, 0x05, 0x05, 6, 1, .ro, .none, 0, true, .any⟩,
   ⟨"PROV_SITE", 0, 0, 0x06, 0x06, 11, 32, .priv, .imm, 0, true, .any⟩,
   ⟨"PROV_CHECK", 0, 0, 0x07, 0x07, 8, 1, .ro, .none, 0, true, .any⟩]

/-- Objects at 0x1020+t (R146, R671). -/
def rows1020 : List Row :=
  [⟨"TILE_STATE", 0, 0, 0x01, 0x01, 7, 1, .ro, .none, 0, true, .any⟩,
   ⟨"TILE_REV", 0, 0, 0x02, 0x02, 1, 2, .const, .none, 0, true, .any⟩,
   ⟨"CB_FW_VERSION", 0, 0, 0x03, 0x03, 2, 4, .ro, .none, 0, true, .any⟩,
   ⟨"TILE_SERIAL", 0, 0, 0x04, 0x04, 11, 8, .const, .none, 0, true, .any⟩,
   ⟨"TILE_TEMP", 0, 0, 0x05, 0x05, 4, 4, .ro, .none, 0, true, .any⟩]

/-- Objects at 0x1030 (R614). -/
def rows1030 : List Row :=
  [⟨"FW_OFFSET", 0, 0, 0x01, 0x01, 2, 4, .rw, .imm, 0, true, .stepped 0 1048575 512⟩,
   ⟨"FW_DATA", 0, 0, 0x02, 0x02, 11, 512, .wo, .imm, 0, false, .any⟩,
   ⟨"FW_VERIFY", 0, 0, 0x03, 0x03, 6, 1, .wo, .imm, 0, false, .codes [0, 1]⟩,
   ⟨"FW_STATE", 0, 0, 0x04, 0x04, 7, 1, .ro, .none, 0, true, .any⟩,
   ⟨"FW_STAGED_VERSION", 0, 0, 0x05, 0x05, 2, 4, .ro, .none, 0, true, .any⟩,
   ⟨"FW_ACTIVATE", 0, 0, 0x06, 0x06, 8, 1, .priv, .imm, 0, true, .mask 0xFF⟩,
   ⟨"FW_GAP_MAX", 0, 0, 0x07, 0x07, 2, 4, .ro, .none, 0, true, .any⟩,
   ⟨"FW_REVERTS", 0, 0, 0x08, 0x08, 2, 4, .ro, .none, 0, true, .any⟩]

/-- Objects at 0x1040+t (R45). -/
def rows1040 : List Row :=
  [⟨"COL_C0_STATE", 0, 0, 0x01, 0x01, 7, 1, .ro, .none, 0, true, .any⟩,
   ⟨"COL_C1_STATE", 0, 0, 0x02, 0x02, 7, 1, .ro, .none, 0, true, .any⟩,
   ⟨"COL_C2_STATE", 0, 0, 0x03, 0x03, 7, 1, .ro, .none, 0, true, .any⟩,
   ⟨"ROUTE_MODE", 0, 0, 0x04, 0x04, 7, 1, .rw, .imm, 0, true, .codes [0, 1]⟩,
   ⟨"ROUTE", 0, 0, 0x05, 0x05, 1, 2, .rw, .imm, 0, true, .special⟩,
   ⟨"STAGE_DROP_C0", 0, 0, 0x06, 0x06, 3, 8, .ro, .none, 0, true, .any⟩,
   ⟨"STAGE_DROP_C1", 0, 0, 0x07, 0x07, 3, 8, .ro, .none, 0, true, .any⟩,
   ⟨"STAGE_DROP_C2", 0, 0, 0x08, 0x08, 3, 8, .ro, .none, 0, true, .any⟩,
   ⟨"HOP_DROP", 0, 0, 0x09, 0x09, 3, 8, .ro, .none, 0, true, .any⟩,
   ⟨"UNREACH_DROP", 0, 0, 0x0A, 0x0A, 3, 8, .ro, .none, 0, true, .any⟩,
   ⟨"PIPE_CAP_P0", 0, 0, 0x0B, 0x0B, 2, 4, .ro, .none, 0, true, .any⟩,
   ⟨"PIPE_CAP_P1", 0, 0, 0x0C, 0x0C, 2, 4, .ro, .none, 0, true, .any⟩,
   ⟨"HOST_FEED_WAIT", 0, 0, 0x0D, 0x0D, 3, 8, .ro, .none, 0, true, .any⟩]

/-- Objects at 0x1050 (R649). -/
def rows1050 : List Row :=
  [⟨"RESET_CAUSE", 0, 0, 0x01, 0x01, 7, 1, .ro, .none, 0, true, .any⟩,
   ⟨"STARTUP_US", 0, 0, 0x02, 0x02, 2, 4, .ro, .none, 0, true, .any⟩,
   ⟨"FW_BOOT", 0, 0, 0x03, 0x03, 7, 1, .ro, .none, 0, true, .any⟩]

/-- Objects at 0x1051 (R649). -/
def rows1051 : List Row :=
  [⟨"STARTUP_STEP", 1, 0, 0x01, 0x08, 7, 1, .ro, .none, 0, true, .any⟩]

/-- Objects at 0x1052 (R649). -/
def rows1052 : List Row :=
  [⟨"STARTUP_RESULT", 1, 0, 0x01, 0x08, 7, 1, .ro, .none, 0, true, .any⟩]

/-- Objects at 0x1053 (R649). -/
def rows1053 : List Row :=
  [⟨"BIST_FAIL", 1, 0, 0x01, 0x08, 11, 8, .ro, .none, 0, true, .any⟩]

/-- Objects at 0x1054 (R649). -/
def rows1054 : List Row :=
  [⟨"TILE_START_US", 1, 0, 0x01, 0x08, 2, 4, .ro, .none, 0, true, .any⟩]

/-- Objects at 0x1055 (R649). -/
def rows1055 : List Row :=
  [⟨"COL_TRAIN_FAILS", 1, 0, 0x01, 0x08, 2, 4, .ro, .none, 0, true, .any⟩]

/-- Objects at 0x1100 (R122). -/
def rows1100 : List Row :=
  [⟨"ZW_ENABLE", 0, 0, 0x01, 0x01, 6, 1, .rw, .imm, 1, true, .codes [0, 1]⟩,
   ⟨"ZW_NODE_ID", 0, 0, 0x02, 0x02, 0, 1, .priv, .evt, 0x7f, true, .range 1 127⟩,
   ⟨"ZW_DATA_RATE", 0, 0, 0x03, 0x03, 7, 1, .priv, .evt, 0, true, .codes [0, 1, 2]⟩,
   ⟨"ZW_OPEN_ACCESS", 0, 0, 0x04, 0x04, 7, 1, .priv, .imm, 1, true, .codes [0, 1, 2]⟩,
   ⟨"ZW_SESSION_IDLE", 0, 0, 0x05, 0x05, 2, 4, .priv, .imm, 0x1e, true, .range 1 3600⟩,
   ⟨"ZW_HEARTBEAT", 0, 0, 0x06, 0x06, 2, 4, .rw, .imm, 0x3e8, true, .zeroOr 100 60000⟩,
   ⟨"ZW_EVENT_MIN", 0, 0, 0x07, 0x07, 7, 1, .rw, .imm, 2, true, .codes [0, 1, 2, 3]⟩,
   ⟨"ZW_TAG_FAIL", 0, 0, 0x08, 0x08, 3, 8, .ro, .none, 0, true, .any⟩,
   ⟨"ZW_FRAG_FAIL", 0, 0, 0x09, 0x09, 3, 8, .ro, .none, 0, true, .any⟩,
   ⟨"ZW_SESSIONS", 0, 0, 0x0A, 0x0A, 0, 1, .ro, .none, 0, true, .any⟩,
   ⟨"ZW_BUS_OFF", 0, 0, 0x0B, 0x0B, 2, 4, .ro, .none, 0, true, .any⟩]

/-- Objects at 0x1101 (R122). -/
def rows1101 : List Row :=
  [⟨"INBAND_PORT", 0, 0, 0x01, 0x01, 0, 1, .priv, .evt, 0xff, true, .special⟩,
   ⟨"INBAND_MAC", 0, 0, 0x02, 0x02, 11, 6, .priv, .evt, 0, true, .any⟩,
   ⟨"INBAND_QUEUE", 0, 0, 0x03, 0x03, 0, 1, .rw, .imm, 7, true, .range 0 15⟩,
   ⟨"INBAND_RATE", 0, 0, 0x04, 0x04, 2, 4, .rw, .imm, 0x7d0, true, .range 1 100000⟩,
   ⟨"INBAND_DROP", 0, 0, 0x05, 0x05, 3, 8, .ro, .none, 0, true, .any⟩,
   ⟨"INBAND_TAG_FAIL", 0, 0, 0x06, 0x06, 3, 8, .ro, .none, 0, true, .any⟩]

/-- Objects at 0x1102 (R122). -/
def rows1102 : List Row :=
  [⟨"WK_IDLE", 0, 0, 0x01, 0x01, 2, 4, .priv, .imm, 0x3c, true, .range 1 3600⟩,
   ⟨"WK_FAIL", 0, 0, 0x02, 0x02, 3, 8, .ro, .none, 0, true, .any⟩,
   ⟨"WK_LOCKOUTS", 0, 0, 0x03, 0x03, 2, 4, .ro, .none, 0, true, .any⟩]

/-- Objects at 0x1103 (R122). -/
def rows1103 : List Row :=
  [⟨"GROUP_IDLE", 0, 0, 0x01, 0x01, 2, 4, .rw, .imm, 0x3e8, true, .range 10 60000⟩,
   ⟨"GROUP_ABORTS", 0, 0, 0x02, 0x02, 3, 8, .ro, .none, 0, true, .any⟩,
   ⟨"GROUP_CONFLICTS", 0, 0, 0x03, 0x03, 3, 8, .ro, .none, 0, true, .any⟩]

/-- Objects at 0x1108+k (R122). -/
def rows1108 : List Row :=
  [⟨"KEY_WRAPPED", 0, 0, 0x01, 0x01, 11, 24, .wo, .imm, 0, false, .any⟩,
   ⟨"KEY_ROLE", 0, 0, 0x02, 0x02, 8, 1, .priv, .imm, 0, true, .mask 0x0F⟩,
   ⟨"KEY_SET", 0, 0, 0x03, 0x03, 6, 1, .ro, .none, 0, true, .any⟩,
   ⟨"KEY_USES", 0, 0, 0x04, 0x04, 2, 4, .ro, .none, 0, true, .any⟩]

/-- Objects at 0x1200+t (R96). -/
def rows1200 : List Row :=
  [⟨"EVT_RING_BASE", 0, 0, 0x01, 0x01, 3, 8, .rw, .evt, 0, true, .stepped 0 18446744073709551615 4096⟩,
   ⟨"EVT_RING_SIZE", 0, 0, 0x02, 0x02, 2, 4, .rw, .evt, 0x400, true, .pow2 64 65536⟩,
   ⟨"EVT_ENABLE", 0, 0, 0x03, 0x03, 6, 1, .rw, .imm, 0, true, .codes [0, 1]⟩,
   ⟨"EVT_CONSUMER", 0, 0, 0x04, 0x04, 2, 4, .rw, .imm, 0, true, .any⟩,
   ⟨"EVT_PRODUCER", 0, 0, 0x05, 0x05, 2, 4, .ro, .none, 0, true, .any⟩,
   ⟨"EVT_RID", 0, 0, 0x06, 0x06, 1, 2, .rw, .evt, 0, true, .any⟩,
   ⟨"EVT_MSI_ADDR", 0, 0, 0x07, 0x07, 3, 8, .rw, .imm, 0, true, .any⟩,
   ⟨"EVT_MSI_DATA", 0, 0, 0x08, 0x08, 2, 4, .rw, .imm, 0, true, .any⟩,
   ⟨"EVT_HOLDOFF", 0, 0, 0x09, 0x09, 2, 4, .rw, .imm, 0xa, true, .range 0 10000⟩,
   ⟨"EVT_RING_DROP", 0, 0, 0x0A, 0x0A, 3, 8, .ro, .none, 0, true, .any⟩]

/-- Objects at 0x1208+t (R105). -/
def rows1208 : List Row :=
  [⟨"AFI_CREDIT_VIOL", 0, 0, 0x01, 0x01, 3, 8, .ro, .none, 0, true, .any⟩,
   ⟨"AFI_FORMAT_VIOL", 0, 0, 0x02, 0x02, 3, 8, .ro, .none, 0, true, .any⟩,
   ⟨"AFI_RDY_LOSS", 0, 0, 0x03, 0x03, 3, 8, .ro, .none, 0, true, .any⟩,
   ⟨"AFI_STALL", 0, 0, 0x04, 0x04, 3, 8, .ro, .none, 0, true, .any⟩,
   ⟨"AFI_HOST_ABORT", 0, 0, 0x05, 0x05, 3, 8, .ro, .none, 0, true, .any⟩,
   ⟨"DMA_TIMEOUT", 0, 0, 0x06, 0x06, 3, 8, .ro, .none, 0, true, .any⟩,
   ⟨"DMA_UNEXP_RSP", 0, 0, 0x07, 0x07, 3, 8, .ro, .none, 0, true, .any⟩,
   ⟨"DMA_ERR_RSP", 0, 0, 0x08, 0x08, 3, 8, .ro, .none, 0, true, .any⟩,
   ⟨"MEM_RDY_LOSS", 0, 0, 0x09, 0x09, 3, 8, .ro, .none, 0, true, .any⟩,
   ⟨"CW_VIOL", 0, 0, 0x0A, 0x0A, 3, 8, .ro, .none, 0, true, .any⟩,
   ⟨"TILE_SUPPLY_FAULT", 0, 0, 0x0B, 0x0B, 3, 8, .ro, .none, 0, true, .any⟩,
   ⟨"MEM_TIMEOUT", 0, 0, 0x0C, 0x0C, 2, 4, .rw, .imm, 0x40, true, .range 1 1000⟩,
   ⟨"AFI_STALL_LIMIT", 0, 0, 0x0D, 0x0D, 2, 4, .rw, .imm, 0x64, true, .range 1 100000⟩,
   ⟨"AFI_TX_CREDITS", 0, 0, 0x0E, 0x0E, 1, 2, .const, .none, 0x400, true, .any⟩]

/-- Objects at 0x1210+t (R612). -/
def rows1210 : List Row :=
  [⟨"AGG_WINDOW", 0, 0, 0x01, 0x01, 2, 4, .rw, .imm, 0x3e8, true, .range 10 1000000⟩,
   ⟨"AGG_OPEN", 0, 0, 0x02, 0x02, 1, 2, .ro, .none, 0, true, .any⟩,
   ⟨"AGG_MERGED", 0, 0, 0x03, 0x03, 3, 8, .ro, .none, 0, true, .any⟩,
   ⟨"AGG_SUPPRESSED", 0, 0, 0x04, 0x04, 3, 8, .ro, .none, 0, true, .any⟩,
   ⟨"ROOTS_ACTIVE", 0, 0, 0x05, 0x05, 1, 2, .ro, .none, 0, true, .any⟩]

/-- Objects at 0x1218+t (R612). -/
def rows1218 : List Row :=
  [⟨"ECC_CORR", 0, 0, 0x01, 0x01, 3, 8, .ro, .none, 0, true, .any⟩,
   ⟨"ECC_UNCORR", 0, 0, 0x02, 0x02, 3, 8, .ro, .none, 0, true, .any⟩,
   ⟨"CELL_CRC_FAIL", 0, 0, 0x03, 0x03, 3, 8, .ro, .none, 0, true, .any⟩,
   ⟨"COMPLEMENT_MISMATCH", 0, 0, 0x04, 0x04, 3, 8, .ro, .none, 0, true, .any⟩,
   ⟨"INTEGRITY_DROP", 0, 0, 0x05, 0x05, 3, 8, .ro, .none, 0, true, .any⟩,
   ⟨"INTEGRITY_FAULTS", 0, 0, 0x06, 0x06, 3, 8, .ro, .none, 0, true, .any⟩,
   ⟨"ISOLATE_THRESHOLD", 0, 0, 0x07, 0x07, 2, 4, .priv, .imm, 0x40, true, .zeroOr 1 65535⟩,
   ⟨"ISOLATE_WINDOW", 0, 0, 0x08, 0x08, 2, 4, .priv, .imm, 0x3e8, true, .range 10 60000⟩,
   ⟨"TILE_RECOVER", 0, 0, 0x09, 0x09, 6, 1, .priv, .imm, 0, true, .codes [0, 1]⟩,
   ⟨"BAD_ENTRY", 0, 0, 0x0A, 0x0A, 11, 8, .ro, .none, 0, true, .any⟩,
   ⟨"SCRUB_PASSES", 0, 0, 0x0B, 0x0B, 2, 4, .ro, .none, 0, true, .any⟩]

/-- Objects at 0x1300+t (R613). -/
def rows1300 : List Row :=
  [⟨"BUDGET_SCRUB", 0, 0, 0x01, 0x01, 11, 8, .rw, .evt, 0x400090, true, .special⟩,
   ⟨"BUDGET_COUNTER_SWEEP", 0, 0, 0x02, 0x02, 11, 8, .rw, .evt, 0x1000000000, true, .special⟩,
   ⟨"BUDGET_ETCH_COMMIT", 0, 0, 0x03, 0x03, 11, 8, .rw, .evt, 0x4000800000, true, .special⟩,
   ⟨"BUDGET_PS_CHECKPOINT", 0, 0, 0x04, 0x04, 11, 8, .rw, .evt, 0x1000000000, true, .special⟩,
   ⟨"BUDGET_DMA_SWEEP", 0, 0, 0x05, 0x05, 11, 8, .rw, .evt, 0x1000000000, true, .special⟩,
   ⟨"BUDGET_DICT_BULK", 0, 0, 0x06, 0x06, 11, 8, .rw, .evt, 0x800000000, true, .special⟩,
   ⟨"MAINT_SHARE", 0, 0, 0x08, 0x08, 11, 4, .rw, .evt, 0x141905, true, .special⟩,
   ⟨"BUDGET_WAIT", 0, 0, 0x10, 0x15, 3, 8, .ro, .none, 0, true, .any⟩]

/-- Objects at 0x1310 (R613). -/
def rows1310 : List Row :=
  [⟨"INTERLOCK_REFUSED", 0, 0, 0x01, 0x01, 3, 8, .ro, .none, 0, true, .any⟩,
   ⟨"INTERLOCK_LAST", 0, 0, 0x02, 0x02, 0, 1, .ro, .none, 0, true, .any⟩]

/-- Objects at 0x1400 (R581). -/
def rows1400 : List Row :=
  [⟨"PKG_DOMAINS", 0, 0, 0x01, 0x01, 1, 2, .const, .none, 0, true, .any⟩,
   ⟨"SLEEP_REQ", 0, 0, 0x02, 0x02, 6, 1, .priv, .evt, 0, true, .codes [0, 1]⟩,
   ⟨"FB_WAKE_TILES", 0, 0, 0x03, 0x03, 8, 1, .rw, .imm, 0, true, .mask 0xFF⟩,
   ⟨"PKG_SUPPLY_TIMEOUT", 0, 0, 0x04, 0x04, 2, 4, .rw, .imm, 5, true, .range 1 20⟩,
   ⟨"LAST_PKG_WAKE", 0, 0, 0x05, 0x05, 7, 1, .ro, .none, 0, true, .any⟩,
   ⟨"PKG_WAKES", 0, 0, 0x06, 0x06, 2, 4, .ro, .none, 0, true, .any⟩,
   ⟨"PKG_WAKE_FAIL", 0, 0, 0x07, 0x07, 2, 4, .ro, .none, 0, true, .any⟩]

/-- Objects at 0x1401 (R582). -/
def rows1401 : List Row :=
  [⟨"TILE_POWER", 1, 0, 0x01, 0x08, 7, 1, .rw, .imm, 0, true, .codes [0, 1]⟩]

/-- Objects at 0x1402 (R582). -/
def rows1402 : List Row :=
  [⟨"TILE_PSTEP", 1, 0, 0x01, 0x08, 7, 1, .ro, .none, 0, true, .any⟩]

/-- Objects at 0x1403 (R582). -/
def rows1403 : List Row :=
  [⟨"CORE_PWR", 1, 0, 0x01, 0x08, 8, 1, .rw, .evt, 0xff, true, .mask 0xFF⟩]

/-- Objects at 0x1404 (R582). -/
def rows1404 : List Row :=
  [⟨"BASIN_PWR", 1, 0, 0x01, 0x08, 8, 1, .rw, .evt, 0xff, true, .mask 0xFF⟩]

/-- Objects at 0x1405 (R582). -/
def rows1405 : List Row :=
  [⟨"DORMANT_RETAIN", 1, 0, 0x01, 0x08, 8, 1, .rw, .evt, 0xff, true, .mask 0xFF⟩]

/-- Objects at 0x1406 (R582). -/
def rows1406 : List Row :=
  [⟨"SAVE_BANKS", 1, 0, 0x01, 0x08, 0, 1, .ro, .none, 1, true, .any⟩]

/-- Objects at 0x1407 (R582). -/
def rows1407 : List Row :=
  [⟨"PD_ON", 1, 0, 0x01, 0x08, 8, 8, .ro, .none, 0, true, .any⟩]

/-- Objects at 0x1408 (R582). -/
def rows1408 : List Row :=
  [⟨"BANKS_LOST", 1, 0, 0x01, 0x08, 8, 8, .ro, .none, 0, true, .any⟩]

/-- Objects at 0x1409 (R582). -/
def rows1409 : List Row :=
  [⟨"RESTORE_LOST", 1, 0, 0x01, 0x08, 8, 1, .ro, .none, 0, true, .any⟩]

/-- Objects at 0x140A (R582). -/
def rows140A : List Row :=
  [⟨"WAKE_TRIES", 1, 0, 0x01, 0x08, 0, 1, .ro, .none, 0, true, .any⟩]

/-- Objects at 0x140B (R582). -/
def rows140B : List Row :=
  [⟨"WAKE_FAULT_CAUSE", 1, 0, 0x01, 0x08, 7, 1, .ro, .none, 0, true, .any⟩]

/-- Objects at 0x140C (R582). -/
def rows140C : List Row :=
  [⟨"PIPE_OFF_DROP", 1, 0, 0x01, 0x08, 3, 8, .ro, .none, 0, true, .any⟩]

/-- Objects at 0x140D (R582). -/
def rows140D : List Row :=
  [⟨"DORMANT_DISCARD", 1, 0, 0x01, 0x08, 3, 8, .ro, .none, 0, true, .any⟩]

/-- Objects at 0x1500 (R633). -/
def rows1500 : List Row :=
  [⟨"STACK_ENABLE", 0, 0, 0x01, 0x01, 6, 1, .priv, .retrain, 0, true, .codes [0, 1]⟩,
   ⟨"STACK_ID", 0, 0, 0x02, 0x02, 2, 4, .priv, .retrain, 0, true, .any⟩,
   ⟨"STACK_PRIORITY", 0, 0, 0x03, 0x03, 0, 1, .priv, .imm, 0x80, true, .any⟩,
   ⟨"STACK_MEMBER", 0, 0, 0x04, 0x04, 0, 1, .priv, .evt, 0, true, .range 0 3⟩,
   ⟨"STACK_STATE", 0, 0, 0x05, 0x05, 7, 1, .ro, .none, 0, true, .any⟩,
   ⟨"STACK_MASTER", 0, 0, 0x06, 0x06, 0, 1, .ro, .none, 0xff, true, .any⟩,
   ⟨"STACK_VIEW", 0, 0, 0x07, 0x07, 8, 1, .ro, .none, 0, true, .any⟩,
   ⟨"VIEW_EPOCH", 0, 0, 0x08, 0x08, 2, 4, .ro, .none, 0, true, .any⟩,
   ⟨"STACK_JOIN", 0, 0, 0x09, 0x09, 6, 1, .priv, .imm, 0, true, .codes [0, 1]⟩,
   ⟨"STACK_HANDOVER", 0, 0, 0x0A, 0x0A, 0, 1, .priv, .imm, 0, true, .range 0 3⟩,
   ⟨"STACK_TRUST", 0, 0, 0x0B, 0x0B, 6, 1, .priv, .imm, 0, true, .codes [0, 1]⟩,
   ⟨"STACK_DEAD", 0, 0, 0x0C, 0x0C, 2, 4, .priv, .imm, 0xc8, true, .range 100 10000⟩,
   ⟨"REJECT_CAUSE", 0, 0, 0x0D, 0x0D, 7, 1, .ro, .none, 0, true, .any⟩,
   ⟨"ELECTIONS", 0, 0, 0x0E, 0x0E, 2, 4, .ro, .none, 0, true, .any⟩,
   ⟨"VIEW_MEMBER", 0, 0, 0x0F, 0x0F, 0, 1, .rw, .imm, 0xff, true, .special⟩,
   ⟨"STACK_ROUTE", 0, 0, 0x10, 0x10, 11, 4, .ro, .none, 0xffffffff, true, .any⟩,
   ⟨"STACK_UNREACH_DROP", 0, 0, 0x11, 0x11, 3, 8, .ro, .none, 0, true, .any⟩,
   ⟨"STACK_HOP_DROP", 0, 0, 0x12, 0x12, 3, 8, .ro, .none, 0, true, .any⟩,
   ⟨"STACK_TC_SKIP", 0, 0, 0x13, 0x13, 3, 8, .ro, .none, 0, true, .any⟩,
   ⟨"STACK_UNITS_LOST", 0, 0, 0x14, 0x14, 3, 8, .ro, .none, 0, true, .any⟩]

/-- Objects at 0x1501 (R633). -/
def rows1501 : List Row :=
  [⟨"MEMBER_SERIAL", 1, 0, 0x01, 0x04, 11, 16, .ro, .none, 0, true, .any⟩]

/-- Objects at 0x1502 (R633). -/
def rows1502 : List Row :=
  [⟨"MEMBER_PRIORITY", 1, 0, 0x01, 0x04, 0, 1, .ro, .none, 0, true, .any⟩]

/-- Objects at 0x2000+p (R224, R258). -/
def rows2000 : List Row :=
  [⟨"PORT_MODE", 0, 0, 0x01, 0x01, 7, 1, .rw, .imm, 0, true, .codes [0, 1, 2, 3, 4, 5, 6, 7, 8, 9, 10, 11, 12, 13, 14, 15, 16, 17, 18, 19, 20, 21, 22, 23, 24, 25]⟩,
   ⟨"FEC_MODE", 0, 0, 0x02, 0x02, 7, 1, .rw, .retrain, 0, true, .codes [0, 1, 2, 3, 4]⟩,
   ⟨"MAC_ENABLE", 0, 0, 0x03, 0x03, 6, 1, .rw, .imm, 0, true, .codes [0, 1]⟩,
   ⟨"PORT_OWNER", 0, 0, 0x04, 0x04, 0, 1, .ro, .none, 0xff, true, .any⟩,
   ⟨"NOMINAL_RATE", 0, 0, 0x05, 0x05, 2, 4, .ro, .none, 0, true, .any⟩,
   ⟨"FEC_NOW", 0, 0, 0x06, 0x06, 7, 1, .ro, .none, 0, true, .any⟩,
   ⟨"MAX_FRAME", 0, 0, 0x08, 0x08, 1, 2, .rw, .imm, 0x5ee, true, .range 64 16383⟩,
   ⟨"PORT_MAC", 0, 0, 0x09, 0x09, 11, 6, .rw, .imm, 0, true, .any⟩,
   ⟨"CUT_THROUGH", 0, 0, 0x0A, 0x0A, 6, 1, .rw, .imm, 1, true, .codes [0, 1]⟩,
   ⟨"DUPLEX_CFG", 0, 0, 0x10, 0x10, 7, 1, .rw, .retrain, 0, true, .codes [0, 1, 2]⟩,
   ⟨"SGMII_SPEED", 0, 0, 0x11, 0x11, 7, 1, .rw, .retrain, 0, true, .codes [0, 1, 2, 3]⟩,
   ⟨"SPEED_NOW", 0, 0, 0x12, 0x12, 2, 4, .ro, .none, 0, true, .any⟩,
   ⟨"DUPLEX_NOW", 0, 0, 0x13, 0x13, 7, 1, .ro, .none, 0, true, .any⟩,
   ⟨"EEE_ENABLE", 0, 0, 0x18, 0x18, 6, 1, .rw, .retrain, 0, true, .codes [0, 1]⟩,
   ⟨"EEE_IDLE", 0, 0, 0x19, 0x19, 2, 4, .rw, .imm, 0x14, true, .range 1 100000⟩,
   ⟨"EEE_NOW", 0, 0, 0x1A, 0x1A, 7, 1, .ro, .none, 0, true, .any⟩,
   ⟨"EEE_TW_TX", 0, 0, 0x1B, 0x1B, 2, 4, .ro, .none, 0, true, .any⟩,
   ⟨"TS_RX_CORR", 0, 0, 0x20, 0x20, 2, 4, .ro, .none, 0, true, .any⟩,
   ⟨"TS_TX_CORR", 0, 0, 0x21, 0x21, 2, 4, .ro, .none, 0, true, .any⟩,
   ⟨"DESKEW_PS", 0, 0, 0x22, 0x22, 2, 4, .ro, .none, 0, true, .any⟩,
   ⟨"CSUM_RX", 0, 0, 0x28, 0x28, 6, 1, .rw, .imm, 1, true, .codes [0, 1]⟩,
   ⟨"LINK_STATE", 0, 0, 0x40, 0x40, 7, 1, .ro, .none, 0, true, .any⟩,
   ⟨"LINK_KIND", 0, 0, 0x41, 0x41, 7, 1, .ro, .none, 0, true, .any⟩,
   ⟨"AN_ENABLE", 0, 0, 0x42, 0x42, 6, 1, .rw, .retrain, 1, true, .codes [0, 1]⟩] ++
  [⟨"RXDET_TIMEOUT", 0, 0, 0x43, 0x43, 2, 4, .rw, .retrain, 0x1f4, true, .range 50 10000⟩,
   ⟨"TRAIN_TIMEOUT", 0, 0, 0x44, 0x44, 2, 4, .rw, .retrain, 0xbb8, true, .range 100 10000⟩,
   ⟨"BITLOCK_TIMEOUT", 0, 0, 0x45, 0x45, 2, 4, .rw, .retrain, 0x32, true, .range 1 1000⟩,
   ⟨"SYMLOCK_TIMEOUT", 0, 0, 0x46, 0x46, 2, 4, .rw, .retrain, 0xa, true, .range 1 1000⟩,
   ⟨"CAPX_TIMEOUT", 0, 0, 0x47, 0x47, 2, 4, .rw, .retrain, 0x64, true, .range 1 10000⟩,
   ⟨"BACKOFF_MIN", 0, 0, 0x48, 0x48, 2, 4, .rw, .evt, 0xa, true, .range 1 1000⟩,
   ⟨"BACKOFF_MAX", 0, 0, 0x49, 0x49, 2, 4, .rw, .evt, 0x1f40, true, .range 10 60000⟩,
   ⟨"LINK_STABLE", 0, 0, 0x4A, 0x4A, 2, 4, .rw, .imm, 0x2710, true, .range 100 600000⟩,
   ⟨"SNR_ACCEPT", 0, 0, 0x4B, 0x4B, 1, 2, .rw, .retrain, 0x78, true, .range 0 400⟩,
   ⟨"ATTEMPTS", 0, 0, 0x4C, 0x4C, 2, 4, .ro, .none, 0, true, .any⟩,
   ⟨"LAST_FAIL", 0, 0, 0x4D, 0x4D, 7, 1, .ro, .none, 0, true, .any⟩,
   ⟨"LINK_UPS", 0, 0, 0x4E, 0x4E, 3, 8, .ro, .none, 0, true, .any⟩,
   ⟨"LINK_DOWNS", 0, 0, 0x4F, 0x4F, 3, 8, .ro, .none, 0, true, .any⟩,
   ⟨"ABORT_LOS", 0, 0, 0x50, 0x50, 3, 8, .ro, .none, 0, true, .any⟩,
   ⟨"BACKOFF_LEFT", 0, 0, 0x51, 0x51, 2, 4, .ro, .none, 0, true, .any⟩,
   ⟨"SHED_MODE", 0, 0, 0x58, 0x58, 7, 1, .rw, .imm, 0, true, .codes [0, 1]⟩,
   ⟨"SHED_WINDOW", 0, 0, 0x59, 0x59, 2, 4, .rw, .evt, 0x2710, true, .range 1000 1000000⟩,
   ⟨"SHED_FILL", 0, 0, 0x5A, 0x5A, 0, 1, .rw, .evt, 0x32, true, .range 10 90⟩,
   ⟨"WIDEN_HIGH", 0, 0, 0x5B, 0x5B, 0, 1, .rw, .evt, 0x50, true, .range 50 100⟩,
   ⟨"SHED_HOLD", 0, 0, 0x5C, 0x5C, 2, 4, .rw, .imm, 0x3e8, true, .range 0 600000⟩,
   ⟨"WIDTH_NOW", 0, 0, 0x5D, 0x5D, 0, 1, .ro, .none, 0, true, .any⟩,
   ⟨"SHED_PARTNER", 0, 0, 0x5E, 0x5E, 6, 1, .ro, .none, 0, true, .any⟩,
   ⟨"SHED_OUI", 0, 0, 0x5F, 0x5F, 2, 4, .const, .none, 0, true, .any⟩,
   ⟨"WIDTH_CHANGES", 0, 0, 0x60, 0x60, 3, 8, .ro, .none, 0, true, .any⟩] ++
  [⟨"SHED_DECLINED", 0, 0, 0x61, 0x61, 3, 8, .ro, .none, 0, true, .any⟩,
   ⟨"SPARING", 0, 0, 0x68, 0x68, 6, 1, .rw, .retrain, 1, true, .codes [0, 1]⟩,
   ⟨"MIN_WIDTH", 0, 0, 0x69, 0x69, 0, 1, .rw, .retrain, 1, true, .range 1 8⟩,
   ⟨"REJOIN", 0, 0, 0x6A, 0x6A, 7, 1, .rw, .imm, 1, true, .codes [0, 1]⟩,
   ⟨"LANES_UP", 0, 0, 0x6B, 0x6B, 8, 1, .ro, .none, 0, true, .any⟩,
   ⟨"RETRY_COUNT", 0, 0, 0x6C, 0x6C, 3, 8, .ro, .none, 0, true, .any⟩,
   ⟨"SPARE_EVENTS", 0, 0, 0x6D, 0x6D, 3, 8, .ro, .none, 0, true, .any⟩,
   ⟨"RETRY_BUF", 0, 0, 0x6E, 0x6E, 2, 4, .const, .none, 0x200, true, .any⟩]

/-- Objects at 0x2100+l (R182, R225). -/
def rows2100 : List Row :=
  [⟨"LANE_STATE", 0, 0, 0x01, 0x01, 7, 1, .ro, .none, 0, true, .any⟩,
   ⟨"LANE_MODE", 0, 0, 0x02, 0x02, 7, 1, .ro, .none, 0, true, .any⟩,
   ⟨"TX_INVERT", 0, 0, 0x03, 0x03, 6, 1, .rw, .retrain, 0, true, .codes [0, 1]⟩,
   ⟨"RX_INVERT", 0, 0, 0x04, 0x04, 6, 1, .rw, .retrain, 0, true, .codes [0, 1]⟩,
   ⟨"RX_PRECODE_REQ", 0, 0, 0x05, 0x05, 7, 1, .rw, .retrain, 0, true, .codes [0, 1, 2]⟩,
   ⟨"TX_PRECODE_NOW", 0, 0, 0x06, 0x06, 6, 1, .ro, .none, 0, true, .any⟩,
   ⟨"TX_FIR_MODE", 0, 0, 0x08, 0x08, 7, 1, .rw, .retrain, 0, true, .codes [0, 1]⟩,
   ⟨"TX_FIR_INIT", 0, 0, 0x09, 0x09, 7, 1, .rw, .retrain, 3, true, .codes [1, 2, 3]⟩,
   ⟨"TX_FIR_FIXED", 0, 0, 0x0A, 0x0A, 2, 4, .rw, .imm, 0xf82cf4, true, .special⟩,
   ⟨"TX_FIR_NOW", 0, 0, 0x0B, 0x0B, 2, 4, .ro, .none, 0x4000, true, .any⟩,
   ⟨"RX_ADAPT", 0, 0, 0x10, 0x10, 7, 1, .rw, .evt, 0, true, .codes [0, 1]⟩,
   ⟨"RX_CTLE", 0, 0, 0x11, 0x11, 0, 1, .ro, .none, 0, true, .any⟩,
   ⟨"RX_FFE", 0, 0, 0x12, 0x12, 11, 24, .ro, .none, 0, true, .any⟩,
   ⟨"RX_DFE", 0, 0, 0x13, 0x13, 4, 4, .ro, .none, 0, true, .any⟩,
   ⟨"RX_SEQ_DET", 0, 0, 0x14, 0x14, 7, 1, .rw, .retrain, 0, true, .codes [0, 1]⟩,
   ⟨"SNR_NOW", 0, 0, 0x15, 0x15, 1, 2, .ro, .none, 0, true, .any⟩,
   ⟨"SNR_MIN", 0, 0, 0x16, 0x16, 1, 2, .ro, .none, 0xffff, true, .any⟩,
   ⟨"CDR_PPM", 0, 0, 0x17, 0x17, 4, 4, .ro, .none, 0, true, .any⟩,
   ⟨"LOS_STATE", 0, 0, 0x20, 0x20, 6, 1, .ro, .none, 1, true, .any⟩,
   ⟨"LOS_ASSERT_MV", 0, 0, 0x21, 0x21, 1, 2, .rw, .imm, 0x3c, true, .range 30 300⟩,
   ⟨"LOS_DEASSERT_MV", 0, 0, 0x22, 0x22, 1, 2, .rw, .imm, 0x5a, true, .range 45 350⟩,
   ⟨"LOS_ASSERT_TIME", 0, 0, 0x23, 0x23, 2, 4, .rw, .imm, 0x3e8, true, .range 100 100000⟩,
   ⟨"LOS_DEASSERT_TIME", 0, 0, 0x24, 0x24, 2, 4, .rw, .imm, 0x2710, true, .range 100 1000000⟩,
   ⟨"LOL_STATE", 0, 0, 0x25, 0x25, 6, 1, .ro, .none, 1, true, .any⟩] ++
  [⟨"LOL_PPM", 0, 0, 0x26, 0x26, 1, 2, .rw, .imm, 0x12c, true, .range 150 400⟩,
   ⟨"LOS_COUNT", 0, 0, 0x27, 0x27, 3, 8, .ro, .none, 0, true, .any⟩,
   ⟨"LOL_COUNT", 0, 0, 0x28, 0x28, 3, 8, .ro, .none, 0, true, .any⟩,
   ⟨"HIST_CLEAR", 0, 0, 0x30, 0x30, 6, 1, .wo, .imm, 0, false, .codes [0, 1]⟩,
   ⟨"FEC_HIST", 1, 0, 0x31, 0x40, 3, 8, .ro, .none, 0, true, .any⟩,
   ⟨"FEC_HIST_UNCORR", 0, 0, 0x41, 0x41, 3, 8, .ro, .none, 0, true, .any⟩,
   ⟨"FEC_SYM_CORR", 0, 0, 0x42, 0x42, 3, 8, .ro, .none, 0, true, .any⟩,
   ⟨"LOOP", 0, 0, 0x48, 0x48, 7, 1, .rw, .imm, 0, true, .codes [0, 1, 2, 3]⟩,
   ⟨"TX_PATTERN", 0, 0, 0x49, 0x49, 7, 1, .rw, .imm, 0, true, .codes [0, 1, 2, 3, 4, 5]⟩,
   ⟨"RX_CHECKER", 0, 0, 0x4A, 0x4A, 7, 1, .rw, .imm, 0, true, .codes [0, 1, 2, 3, 4, 5]⟩,
   ⟨"CHK_LOCK", 0, 0, 0x4B, 0x4B, 6, 1, .ro, .none, 0, true, .any⟩,
   ⟨"CHK_ERRORS", 0, 0, 0x4C, 0x4C, 3, 8, .ro, .none, 0, true, .any⟩,
   ⟨"CHK_BITS", 0, 0, 0x4D, 0x4D, 3, 8, .ro, .none, 0, true, .any⟩,
   ⟨"LANE_REST", 0, 0, 0x50, 0x50, 6, 1, .rw, .imm, 0, true, .codes [0, 1]⟩,
   ⟨"REST_ENTRIES", 0, 0, 0x51, 0x51, 2, 4, .ro, .none, 0, true, .any⟩,
   ⟨"REST_EXIT_FAIL", 0, 0, 0x52, 0x52, 2, 4, .ro, .none, 0, true, .any⟩,
   ⟨"LANE_FAULT_CAUSE", 0, 0, 0x53, 0x53, 7, 1, .ro, .none, 0, true, .any⟩,
   ⟨"SPAN_DROP_CAUSE", 0, 0, 0x58, 0x58, 7, 1, .ro, .none, 0, true, .any⟩,
   ⟨"SPAN_DROPS", 0, 0, 0x59, 0x59, 2, 4, .ro, .none, 0, true, .any⟩]

/-- Objects at 0x2200+p (R259). -/
def rows2200 : List Row :=
  [⟨"FC_MODE", 0, 0, 0x01, 0x01, 7, 1, .rw, .imm, 0, true, .codes [0, 1, 2]⟩,
   ⟨"FC_DIR", 0, 0, 0x02, 0x02, 8, 1, .rw, .imm, 3, true, .mask 3⟩,
   ⟨"PFC_PRIOS", 0, 0, 0x03, 0x03, 8, 1, .rw, .imm, 0, true, .mask 0xFF⟩,
   ⟨"QUEUE_PRIO", 0, 0, 0x04, 0x04, 3, 8, .rw, .imm, 0x7766554433221100, true, .mask 0x7777777777777777⟩,
   ⟨"PAUSE_TX_TIME", 0, 0, 0x05, 0x05, 1, 2, .rw, .imm, 0xffff, true, .range 1 65535⟩,
   ⟨"PAUSE_REFRESH", 0, 0, 0x06, 0x06, 1, 2, .rw, .imm, 0x8000, true, .range 1 65535⟩,
   ⟨"PAUSED_NOW", 0, 0, 0x07, 0x07, 8, 1, .ro, .none, 0, true, .any⟩,
   ⟨"XOFF_SENT", 0, 0, 0x08, 0x08, 8, 1, .ro, .none, 0, true, .any⟩,
   ⟨"XOFF_CELLS", 1, 0, 0x10, 0x17, 2, 4, .rw, .imm, 0x400, true, .range 1 131072⟩,
   ⟨"XON_CELLS", 1, 0, 0x18, 0x1F, 2, 4, .rw, .imm, 0x300, true, .range 0 131071⟩]

/-- Objects at 0x2300+p (R260). -/
def rows2300 : List Row :=
  [⟨"WAKE_ENABLE", 0, 0, 0x01, 0x01, 8, 4, .rw, .imm, 0, true, .mask 0x1FFFF⟩,
   ⟨"WAKE_MAC", 0, 0, 0x02, 0x02, 11, 6, .rw, .imm, 0, true, .any⟩,
   ⟨"WAKE_CAUSE", 0, 0, 0x03, 0x03, 8, 4, .ro, .none, 0, true, .any⟩,
   ⟨"WAKE_CLEAR", 0, 0, 0x04, 0x04, 6, 1, .wo, .imm, 0, false, .codes [0, 1]⟩,
   ⟨"WAKE_FRAME", 0, 0, 0x05, 0x05, 11, 128, .ro, .none, 0, true, .any⟩,
   ⟨"WAKE_MATCHES", 0, 0, 0x06, 0x06, 2, 4, .ro, .none, 0, true, .any⟩,
   ⟨"PATTERN", 1, 0, 0x10, 0x1F, 11, 128, .rw, .imm, 0, true, .any⟩,
   ⟨"MASK", 1, 0, 0x20, 0x2F, 11, 128, .rw, .imm, 0, true, .any⟩]

/-- Objects at 0x3000 (R295). -/
def rows3000 : List Row :=
  [⟨"TPID_EXTRA", 0, 0, 0x01, 0x01, 1, 2, .rw, .etch, 0x9100, true, .any⟩,
   ⟨"VXLAN_PORT", 0, 0, 0x02, 0x02, 1, 2, .rw, .etch, 0x12b5, true, .any⟩,
   ⟨"GENEVE_PORT", 0, 0, 0x03, 0x03, 1, 2, .rw, .etch, 0x17c1, true, .any⟩,
   ⟨"DEFAULT_PRIO", 0, 0, 0x04, 0x04, 0, 1, .rw, .etch, 0, true, .range 0 7⟩,
   ⟨"ACT_DEPTH", 0, 0, 0x10, 0x10, 7, 1, .rw, .etch, 1, true, .codes [0, 1, 2, 3]⟩,
   ⟨"ACT_LENGTH", 0, 0, 0x11, 0x11, 7, 1, .rw, .etch, 0, true, .codes [0, 1, 2, 3]⟩,
   ⟨"ACT_BADHDR", 0, 0, 0x12, 0x12, 7, 1, .rw, .etch, 0, true, .codes [0, 1, 2, 3]⟩,
   ⟨"KEY_SEL", 0, 0, 0x18, 0x18, 11, 16, .rw, .etch, 0xffffffffffffffffffffffffffffffff, true, .special⟩,
   ⟨"KEY_PROFILE", 1, 0, 0x20, 0x2F, 11, 16, .rw, .etch, 0, true, .special⟩,
   ⟨"USER_TRANS", 1, 0, 0x30, 0x4F, 11, 8, .rw, .etch, 0, true, .special⟩,
   ⟨"USER_NODE", 1, 0, 0x50, 0x5F, 11, 16, .rw, .etch, 0, true, .special⟩]

/-- Objects at 0x3100+t (R296). -/
def rows3100 : List Row :=
  [⟨"EM_ENTRIES", 0, 0, 0x01, 0x01, 2, 4, .ro, .none, 0, true, .any⟩,
   ⟨"EM_CAPACITY", 0, 0, 0x02, 0x02, 2, 4, .const, .none, 0x100000, true, .any⟩,
   ⟨"EM_OP", 0, 0, 0x03, 0x03, 11, 84, .wo, .etch, 0, false, .special⟩,
   ⟨"EM_PROBE", 0, 0, 0x04, 0x04, 11, 68, .rw, .imm, 0, true, .special⟩,
   ⟨"EM_REFUSAL", 0, 0, 0x05, 0x05, 7, 1, .ro, .none, 0, true, .any⟩,
   ⟨"TC_OP", 0, 0, 0x08, 0x08, 11, 120, .wo, .etch, 0, false, .special⟩,
   ⟨"TC_PROBE", 0, 0, 0x09, 0x09, 11, 128, .rw, .imm, 0, true, .special⟩,
   ⟨"TC_USED_P0", 0, 0, 0x0A, 0x0A, 1, 2, .ro, .none, 0, true, .any⟩,
   ⟨"TC_USED_P1", 0, 0, 0x0B, 0x0B, 1, 2, .ro, .none, 0, true, .any⟩,
   ⟨"PROC_COPY_DST", 0, 0, 0x10, 0x10, 2, 4, .rw, .imm, 0, true, .special⟩,
   ⟨"PROC_UNMATCHED_DST", 0, 0, 0x11, 0x11, 2, 4, .rw, .imm, 0, true, .special⟩,
   ⟨"PROC_MALFORMED_DST", 0, 0, 0x12, 0x12, 2, 4, .rw, .imm, 0, true, .special⟩,
   ⟨"UNMATCHED_MODE", 0, 0, 0x13, 0x13, 7, 1, .rw, .imm, 0, true, .codes [0, 1]⟩,
   ⟨"LIM_COPY_RATE", 0, 0, 0x18, 0x18, 2, 4, .rw, .evt, 0x186a0, true, .range 1 10000000⟩,
   ⟨"LIM_COPY_BURST", 0, 0, 0x19, 0x19, 1, 2, .rw, .imm, 0x3e8, true, .range 1 65535⟩,
   ⟨"LIM_UNMATCHED_RATE", 0, 0, 0x1A, 0x1A, 2, 4, .rw, .evt, 0xc350, true, .range 1 10000000⟩,
   ⟨"LIM_UNMATCHED_BURST", 0, 0, 0x1B, 0x1B, 1, 2, .rw, .imm, 0x1f4, true, .range 1 65535⟩,
   ⟨"LIM_MALFORMED_RATE", 0, 0, 0x1C, 0x1C, 2, 4, .rw, .evt, 0x2710, true, .range 1 10000000⟩,
   ⟨"LIM_MALFORMED_BURST", 0, 0, 0x1D, 0x1D, 1, 2, .rw, .imm, 0x64, true, .range 1 65535⟩,
   ⟨"PARSE_OK", 0, 0, 0x20, 0x20, 3, 8, .ro, .none, 0, true, .any⟩,
   ⟨"PARSE_DEPTH", 0, 0, 0x21, 0x21, 3, 8, .ro, .none, 0, true, .any⟩,
   ⟨"PARSE_LENGTH", 0, 0, 0x22, 0x22, 3, 8, .ro, .none, 0, true, .any⟩,
   ⟨"PARSE_BADHDR", 0, 0, 0x23, 0x23, 3, 8, .ro, .none, 0, true, .any⟩,
   ⟨"LENGTH_LATE", 0, 0, 0x24, 0x24, 3, 8, .ro, .none, 0, true, .any⟩] ++
  [⟨"LIM_COPY_DROP", 0, 0, 0x28, 0x28, 3, 8, .ro, .none, 0, true, .any⟩,
   ⟨"LIM_UNMATCHED_DROP", 0, 0, 0x29, 0x29, 3, 8, .ro, .none, 0, true, .any⟩,
   ⟨"LIM_MALFORMED_DROP", 0, 0, 0x2A, 0x2A, 3, 8, .ro, .none, 0, true, .any⟩,
   ⟨"UNMATCHED_FRAMES", 0, 0, 0x2B, 0x2B, 3, 8, .ro, .none, 0, true, .any⟩,
   ⟨"MIRROR_DROP", 0, 0, 0x2C, 0x2C, 3, 8, .ro, .none, 0, true, .any⟩]

/-- Objects at 0x3180+s (R297). -/
def rows3180 : List Row :=
  [⟨"MIR_DST_KIND", 0, 0, 0x01, 0x01, 7, 1, .rw, .etch, 0, true, .codes [0, 1, 2, 3]⟩,
   ⟨"MIR_DST", 0, 0, 0x02, 0x02, 1, 2, .rw, .etch, 0, true, .special⟩,
   ⟨"MIR_QUEUE", 0, 0, 0x03, 0x03, 0, 1, .rw, .etch, 0, true, .range 0 15⟩,
   ⟨"MIR_TRUNC", 0, 0, 0x04, 0x04, 1, 2, .rw, .etch, 0, true, .zeroOr 64 1024⟩,
   ⟨"MIR_COPIES", 0, 0, 0x05, 0x05, 3, 8, .ro, .none, 0, true, .any⟩]

/-- Objects at 0x3200 (R320). -/
def rows3200 : List Row :=
  [⟨"ETCH_CTL", 0, 0, 0x01, 0x01, 7, 1, .wo, .imm, 0, false, .codes [1, 2, 3]⟩,
   ⟨"ETCH_STATE", 0, 0, 0x02, 0x02, 7, 1, .ro, .none, 0, true, .any⟩,
   ⟨"ETCH_OWNER", 0, 0, 0x03, 0x03, 1, 2, .ro, .none, 0xffff, true, .any⟩,
   ⟨"ETCH_STAGED_EM", 0, 0, 0x04, 0x04, 2, 4, .ro, .none, 0, true, .any⟩,
   ⟨"ETCH_STAGED_TC", 0, 0, 0x05, 0x05, 2, 4, .ro, .none, 0, true, .any⟩,
   ⟨"ETCH_STAGED_OBJ", 0, 0, 0x06, 0x06, 1, 2, .ro, .none, 0, true, .any⟩,
   ⟨"ETCH_IDLE", 0, 0, 0x07, 0x07, 2, 4, .rw, .imm, 0x2710, true, .range 100 600000⟩,
   ⟨"ETCH_STUCK_LIMIT", 0, 0, 0x08, 0x08, 2, 4, .rw, .imm, 0x64, true, .range 1 60000⟩,
   ⟨"ETCH_GEN", 0, 0, 0x09, 0x09, 2, 4, .ro, .none, 0, true, .any⟩,
   ⟨"CURRENT_SLOT", 0, 0, 0x0A, 0x0A, 0, 1, .ro, .none, 0, true, .any⟩,
   ⟨"LAST_SWITCH", 0, 0, 0x0B, 0x0B, 10, 12, .ro, .none, 0, true, .any⟩,
   ⟨"ETCH_TILE_MISS", 0, 0, 0x0C, 0x0C, 8, 1, .ro, .none, 0, true, .any⟩,
   ⟨"ETCH_NOSLOT", 0, 0, 0x0D, 0x0D, 3, 8, .ro, .none, 0, true, .any⟩,
   ⟨"ETCH_ABORTS", 0, 0, 0x0E, 0x0E, 3, 8, .ro, .none, 0, true, .any⟩,
   ⟨"SLOT_STATE", 1, 0, 0x10, 0x13, 7, 1, .ro, .none, 0, true, .any⟩,
   ⟨"SLOT_GEN", 1, 0, 0x14, 0x17, 2, 4, .ro, .none, 0, true, .any⟩,
   ⟨"SLOT_INFLIGHT", 1, 0, 0x18, 0x1B, 2, 4, .ro, .none, 0, true, .any⟩,
   ⟨"RECIRC_LIMIT_DROP", 1, 0, 0x20, 0x27, 3, 8, .ro, .none, 0, true, .any⟩]

/-- Objects at 0x4000+t (R356). -/
def rows4000 : List Row :=
  [⟨"BASIN_CELLS", 0, 0, 0x01, 0x01, 2, 4, .const, .none, 0x20000, true, .any⟩,
   ⟨"GROUPS_EN", 0, 0, 0x02, 0x02, 8, 1, .rw, .imm, 0xff, true, .mask 0xFF⟩,
   ⟨"GROUPS_EMPTY", 0, 0, 0x03, 0x03, 8, 1, .ro, .none, 0xff, true, .any⟩,
   ⟨"CELLS_FREE", 0, 0, 0x04, 0x04, 2, 4, .ro, .none, 0x20000, true, .any⟩,
   ⟨"SKID_CELLS", 0, 0, 0x05, 0x05, 2, 4, .const, .none, 0xa00, true, .any⟩,
   ⟨"MIN_POOL", 0, 0, 0x06, 0x06, 2, 4, .rw, .imm, 0x2440, true, .special⟩,
   ⟨"HEADROOM_POOL", 0, 0, 0x07, 0x07, 2, 4, .rw, .imm, 0x2000, true, .special⟩,
   ⟨"SHARED_USED", 0, 0, 0x08, 0x08, 2, 4, .ro, .none, 0, true, .any⟩,
   ⟨"MIN_USED", 0, 0, 0x09, 0x09, 2, 4, .ro, .none, 0, true, .any⟩,
   ⟨"HEADROOM_USED", 0, 0, 0x0A, 0x0A, 2, 4, .ro, .none, 0, true, .any⟩,
   ⟨"SKID_TRUNC", 0, 0, 0x0B, 0x0B, 3, 8, .ro, .none, 0, true, .any⟩,
   ⟨"AFI_PROFILE", 0, 0, 0x0C, 0x0C, 11, 2, .rw, .imm, 0, true, .special⟩,
   ⟨"RING_PROFILE", 0, 0, 0x0D, 0x0D, 0, 1, .rw, .imm, 0, true, .range 0 31⟩,
   ⟨"SAMPLE_INTERVAL", 0, 0, 0x0E, 0x0E, 2, 4, .rw, .evt, 0x64, true, .range 1 1000000⟩,
   ⟨"QSEL", 0, 0, 0x0F, 0x0F, 1, 2, .rw, .imm, 0, true, .special⟩,
   ⟨"QSTAT", 0, 0, 0x10, 0x10, 11, 208, .ro, .none, 0, true, .any⟩,
   ⟨"QSTAT_CLEAR", 0, 0, 0x11, 0x11, 1, 2, .wo, .imm, 0, false, .special⟩]

/-- Objects at 0x4010+t (R356). -/
def rows4010 : List Row :=
  [⟨"ADMIT_PROFILE", 1, 0, 0x01, 0x20, 11, 20, .rw, .imm, 0x2000000000000020000000400000000020, true, .special⟩]

/-- Objects at 0x4020+p (R356). -/
def rows4020 : List Row :=
  [⟨"ADMIT_PROFILE", 0, 0, 0x01, 0x01, 11, 16, .rw, .imm, 0, true, .special⟩,
   ⟨"INGRESS_CELLS", 0, 0, 0x02, 0x02, 11, 32, .ro, .none, 0, true, .any⟩]

/-- Objects at 0x4100+t (R357). -/
def rows4100 : List Row :=
  [⟨"POL_WRITE", 0, 0, 0x01, 0x01, 11, 32, .wo, .evt, 0, false, .special⟩,
   ⟨"POL_SEL", 0, 0, 0x02, 0x02, 1, 2, .rw, .imm, 0, true, .range 0 16383⟩,
   ⟨"POL_READ", 0, 0, 0x03, 0x03, 11, 80, .ro, .none, 0, false, .any⟩,
   ⟨"FENCE_DROP", 0, 0, 0x04, 0x04, 3, 8, .ro, .none, 0, true, .any⟩,
   ⟨"FENCE_INVALID", 0, 0, 0x05, 0x05, 3, 8, .ro, .none, 0, true, .any⟩,
   ⟨"METER_KIND_MISS", 0, 0, 0x06, 0x06, 3, 8, .ro, .none, 0, true, .any⟩]

/-- Objects at 0x4200+p (R378). -/
def rows4200 : List Row :=
  [⟨"PORT_SHAPE", 0, 0, 0x01, 0x01, 11, 16, .rw, .evt, 0x4000000000000000001400000000, true, .special⟩,
   ⟨"PORT_SHAPE_STATE", 0, 0, 0x02, 0x02, 11, 32, .ro, .none, 0, false, .any⟩,
   ⟨"VTIME", 0, 0, 0x03, 0x03, 3, 8, .ro, .none, 0, true, .any⟩,
   ⟨"QCFG", 1, 0, 0x10, 0x1F, 11, 16, .rw, .evt, 0x4000000000000000001400000001, true, .special⟩,
   ⟨"QSTATE", 1, 0, 0x20, 0x2F, 11, 32, .ro, .none, 0, false, .any⟩]

/-- Objects at 0x4300+p (R407). -/
def rows4300 : List Row :=
  [⟨"HATCH_ENABLE", 0, 0, 0x01, 0x01, 6, 1, .rw, .imm, 0, true, .codes [0, 1]⟩,
   ⟨"IDLE_GATES", 0, 0, 0x02, 0x02, 1, 2, .rw, .imm, 0xffff, true, .any⟩,
   ⟨"ADMIN_BASE", 0, 0, 0x03, 0x03, 10, 12, .rw, .evt, 0, true, .time⟩,
   ⟨"ADMIN_CYCLE", 0, 0, 0x04, 0x04, 3, 8, .rw, .evt, 0xf4240, true, .range 250 10000000000⟩,
   ⟨"ADMIN_LENGTH", 0, 0, 0x05, 0x05, 1, 2, .rw, .evt, 1, true, .range 1 256⟩,
   ⟨"ADMIN_LIST", 1, 0, 0x06, 0x09, 11, 512, .rw, .evt, 0xf42400000ffff, true, .special⟩,
   ⟨"HATCH_COMMIT", 0, 0, 0x0A, 0x0A, 6, 1, .wo, .imm, 0, false, .codes [0, 1]⟩,
   ⟨"HATCH_STATE", 0, 0, 0x10, 0x10, 7, 1, .ro, .none, 0, true, .any⟩,
   ⟨"OPER_BASE", 0, 0, 0x11, 0x11, 10, 12, .ro, .none, 0, true, .any⟩,
   ⟨"OPER_CYCLE", 0, 0, 0x12, 0x12, 3, 8, .ro, .none, 0, true, .any⟩,
   ⟨"OPER_LENGTH", 0, 0, 0x13, 0x13, 1, 2, .ro, .none, 0, true, .any⟩,
   ⟨"OPER_LIST", 1, 0, 0x14, 0x17, 11, 512, .ro, .none, 0, true, .any⟩,
   ⟨"OPER_START", 0, 0, 0x18, 0x18, 10, 12, .ro, .none, 0, true, .any⟩,
   ⟨"PEND_START", 0, 0, 0x19, 0x19, 10, 12, .ro, .none, 0, true, .any⟩,
   ⟨"LATE_BASE", 0, 0, 0x1A, 0x1A, 6, 1, .ro, .none, 0, true, .any⟩,
   ⟨"GATE_NOW", 0, 0, 0x1B, 0x1B, 1, 2, .ro, .none, 0xffff, true, .any⟩,
   ⟨"HATCH_STARTS", 0, 0, 0x1C, 0x1C, 3, 8, .ro, .none, 0, true, .any⟩,
   ⟨"HATCH_OVERSIZE", 0, 0, 0x1D, 0x1D, 3, 8, .ro, .none, 0, true, .any⟩,
   ⟨"LAUNCH_CFG", 1, 0, 0x20, 0x2F, 8, 1, .rw, .imm, 0, true, .mask 3⟩,
   ⟨"LAUNCH_LEAD", 0, 0, 0x30, 0x30, 2, 4, .rw, .imm, 0x64, true, .range 20 10000⟩,
   ⟨"LAUNCH_HORIZON", 0, 0, 0x31, 0x31, 2, 4, .rw, .imm, 0x3e8, true, .range 1 10000⟩,
   ⟨"LAUNCH_IGNORED", 0, 0, 0x32, 0x32, 3, 8, .ro, .none, 0, true, .any⟩,
   ⟨"PAUSE_DEFERRED", 0, 0, 0x33, 0x33, 3, 8, .ro, .none, 0, true, .any⟩,
   ⟨"LAUNCH_STATS", 1, 0, 0x40, 0x4F, 11, 32, .ro, .none, 0, true, .any⟩]

/-- Objects at 0x5000 (R450). -/
def rows5000 : List Row :=
  [⟨"ACTIVE_DOMAIN", 0, 0, 0x01, 0x01, 7, 1, .ro, .none, 0, true, .any⟩,
   ⟨"PRES_STATE", 0, 0, 0x02, 0x02, 7, 1, .ro, .none, 2, true, .any⟩,
   ⟨"PRES_OFFSET", 0, 0, 0x03, 0x03, 5, 8, .ro, .none, 0, true, .any⟩,
   ⟨"SADDLE_MODE", 0, 0, 0x04, 0x04, 7, 1, .priv, .imm, 0, true, .codes [0, 1, 2]⟩,
   ⟨"REVERT_HOLD", 0, 0, 0x05, 0x05, 2, 4, .priv, .imm, 0x3c, true, .range 1 3600⟩,
   ⟨"SADDLE_REQ", 0, 0, 0x06, 0x06, 7, 1, .priv, .evt, 0, true, .codes [0, 1, 2]⟩,
   ⟨"SWITCHOVERS", 0, 0, 0x07, 0x07, 2, 4, .ro, .none, 0, true, .any⟩,
   ⟨"LAST_SWITCH_L", 0, 0, 0x08, 0x08, 10, 12, .ro, .none, 0, true, .any⟩,
   ⟨"DIFF_BA", 0, 0, 0x09, 0x09, 5, 8, .ro, .none, 0, true, .any⟩,
   ⟨"DIFF_BA_MIN", 0, 0, 0x0A, 0x0A, 5, 8, .ro, .none, 0, true, .any⟩,
   ⟨"DIFF_BA_MAX", 0, 0, 0x0B, 0x0B, 5, 8, .ro, .none, 0, true, .any⟩,
   ⟨"DIFF_CLEAR", 0, 0, 0x0C, 0x0C, 6, 1, .priv, .imm, 0, true, .codes [0, 1]⟩,
   ⟨"HOLDOVER_ENTRIES", 0, 0, 0x0D, 0x0D, 2, 4, .ro, .none, 0, true, .any⟩,
   ⟨"REEPOCH_CMD", 0, 0, 0x10, 0x10, 7, 1, .priv, .evt, 0, true, .codes [0, 1, 2]⟩,
   ⟨"REEPOCH_AT", 0, 0, 0x11, 0x11, 10, 12, .priv, .evt, 0, true, .time⟩,
   ⟨"REEPOCH_TIME", 0, 0, 0x12, 0x12, 10, 12, .priv, .evt, 0, true, .time⟩,
   ⟨"REEPOCH_STATE", 0, 0, 0x13, 0x13, 7, 1, .ro, .none, 0, true, .any⟩,
   ⟨"REF_STATE", 0, 0, 0x18, 0x18, 7, 1, .ro, .none, 0, true, .any⟩,
   ⟨"REF_LOSSES", 0, 0, 0x19, 0x19, 2, 4, .ro, .none, 0, true, .any⟩,
   ⟨"REF_OFFSET", 0, 0, 0x1A, 0x1A, 4, 4, .ro, .none, 0, true, .any⟩,
   ⟨"PPS_OUT_ENABLE", 0, 0, 0x20, 0x20, 6, 1, .priv, .evt, 1, true, .codes [0, 1]⟩,
   ⟨"PPS_OUT_WIDTH", 0, 0, 0x21, 0x21, 2, 4, .priv, .evt, 0x186a0, true, .range 1 500000⟩,
   ⟨"PPS_OUT_CORR", 0, 0, 0x22, 0x22, 4, 4, .priv, .evt, 0, true, .range (-1000000) 1000000⟩,
   ⟨"PPS_OUT_SKIPPED", 0, 0, 0x23, 0x23, 2, 4, .ro, .none, 0, true, .any⟩] ++
  [⟨"PPS_IN_ENABLE", 0, 0, 0x28, 0x28, 6, 1, .priv, .imm, 0, true, .codes [0, 1]⟩,
   ⟨"PPS_IN_CORR", 0, 0, 0x29, 0x29, 4, 4, .priv, .imm, 0, true, .range (-1000000) 1000000⟩,
   ⟨"PPS_IN_SEQ", 0, 0, 0x2A, 0x2A, 2, 4, .ro, .none, 0, true, .any⟩,
   ⟨"PPS_IN_A", 0, 0, 0x2B, 0x2B, 10, 12, .ro, .none, 0, true, .any⟩,
   ⟨"PPS_IN_B", 0, 0, 0x2C, 0x2C, 10, 12, .ro, .none, 0, true, .any⟩,
   ⟨"PPS_IN_L", 0, 0, 0x2D, 0x2D, 10, 12, .ro, .none, 0, true, .any⟩,
   ⟨"PPS_IN_GLITCH", 0, 0, 0x2E, 0x2E, 2, 4, .ro, .none, 0, true, .any⟩,
   ⟨"STACK_TIME_ROLE", 0, 0, 0x30, 0x30, 7, 1, .ro, .none, 0, true, .any⟩,
   ⟨"UPSTREAM_PORT", 0, 0, 0x31, 0x31, 0, 1, .ro, .none, 0xff, true, .any⟩,
   ⟨"SPAN_RTT", 0, 0, 0x32, 0x32, 2, 4, .ro, .none, 0, true, .any⟩,
   ⟨"SPAN_OFFSET", 0, 0, 0x33, 0x33, 5, 8, .ro, .none, 0, true, .any⟩]

/-- Objects at 0x5001+d (R451). -/
def rows5001 : List Row :=
  [⟨"DOM_STATE", 0, 0, 0x01, 0x01, 7, 1, .ro, .none, 0, true, .any⟩,
   ⟨"DOM_SRC", 0, 0, 0x02, 0x02, 7, 1, .priv, .evt, 0, true, .codes [0, 1, 2]⟩,
   ⟨"SLEW_MAX", 0, 0, 0x03, 0x03, 2, 4, .priv, .evt, 0x1388, true, .range 1 100000⟩,
   ⟨"FREQ_ADJ", 0, 0, 0x04, 0x04, 5, 8, .priv, .evt, 0, true, .range (-100000000) 100000000⟩,
   ⟨"PHASE_ADJ", 0, 0, 0x05, 0x05, 5, 8, .priv, .evt, 0, true, .any⟩,
   ⟨"PHASE_LEFT", 0, 0, 0x06, 0x06, 5, 8, .ro, .none, 0, true, .any⟩,
   ⟨"DOM_BASE", 0, 0, 0x07, 0x07, 7, 1, .priv, .evt, 0, true, .codes [0, 1]⟩,
   ⟨"DOM_WATCHDOG", 0, 0, 0x08, 0x08, 2, 4, .priv, .imm, 0x7d0, true, .zeroOr 10 60000⟩,
   ⟨"DOM_PPS_WATCH", 0, 0, 0x09, 0x09, 6, 1, .priv, .imm, 0, true, .codes [0, 1]⟩,
   ⟨"DOM_GEN", 0, 0, 0x0A, 0x0A, 0, 1, .ro, .none, 0, true, .any⟩,
   ⟨"LOST_CAUSE", 0, 0, 0x0B, 0x0B, 7, 1, .ro, .none, 0, true, .any⟩,
   ⟨"LOSSES", 0, 0, 0x0C, 0x0C, 2, 4, .ro, .none, 0, true, .any⟩,
   ⟨"RATE_NOW", 0, 0, 0x0D, 0x0D, 5, 8, .ro, .none, 0, true, .any⟩]

/-- Objects at 0x5008+t (R452). -/
def rows5008 : List Row :=
  [⟨"REPLICA_STATE_A", 0, 0, 0x01, 0x01, 7, 1, .ro, .none, 0, true, .any⟩,
   ⟨"REPLICA_STATE_B", 0, 0, 0x02, 0x02, 7, 1, .ro, .none, 0, true, .any⟩,
   ⟨"REPLICA_STATE_L", 0, 0, 0x03, 0x03, 7, 1, .ro, .none, 0, true, .any⟩,
   ⟨"DIST_DELAY", 0, 0, 0x04, 0x04, 2, 4, .ro, .none, 0, true, .any⟩,
   ⟨"SERVO_ERR_A", 0, 0, 0x05, 0x05, 4, 4, .ro, .none, 0, true, .any⟩,
   ⟨"SERVO_ERR_B", 0, 0, 0x06, 0x06, 4, 4, .ro, .none, 0, true, .any⟩,
   ⟨"SERVO_ERR_L", 0, 0, 0x07, 0x07, 4, 4, .ro, .none, 0, true, .any⟩,
   ⟨"PORT_REPLICA_FAULT", 0, 0, 0x08, 0x08, 8, 4, .ro, .none, 0x3ffff, true, .any⟩,
   ⟨"REPLICA_FAULTS", 0, 0, 0x09, 0x09, 2, 4, .ro, .none, 0, true, .any⟩]

/-- Objects at 0x5100+p (R480). -/
def rows5100 : List Row :=
  [⟨"BOARD_RX_PS", 0, 0, 0x01, 0x01, 4, 4, .priv, .imm, 0, true, .range (-100000) 100000⟩,
   ⟨"BOARD_TX_PS", 0, 0, 0x02, 0x02, 4, 4, .priv, .imm, 0, true, .range (-100000) 100000⟩,
   ⟨"SPAN_ASYM", 0, 0, 0x03, 0x03, 5, 8, .priv, .imm, 0, true, .range (-65536000) 65536000⟩,
   ⟨"TX_TS_SEL", 0, 0, 0x04, 0x04, 7, 1, .rw, .imm, 0, true, .codes [0, 1, 2, 3]⟩,
   ⟨"TSQ_DEPTH", 0, 0, 0x05, 0x05, 0, 1, .ro, .none, 0, true, .any⟩,
   ⟨"TSQ_OVF_COUNT", 0, 0, 0x06, 0x06, 3, 8, .ro, .none, 0, true, .any⟩,
   ⟨"TSQ_NOSTART", 0, 0, 0x07, 0x07, 3, 8, .ro, .none, 0, true, .any⟩,
   ⟨"TSQ_LAST_NOSTART", 0, 0, 0x08, 0x08, 1, 2, .ro, .none, 0, true, .any⟩,
   ⟨"TSQ_FLUSH", 0, 0, 0x09, 0x09, 6, 1, .wo, .imm, 0, false, .codes [0, 1]⟩,
   ⟨"TC_ENABLE", 0, 0, 0x10, 0x10, 6, 1, .priv, .imm, 0, true, .codes [0, 1]⟩,
   ⟨"PEER_DELAY", 0, 0, 0x11, 0x11, 5, 8, .priv, .imm, 0, true, .range 0 65536000000⟩,
   ⟨"TC_UPDATES", 0, 0, 0x12, 0x12, 3, 8, .ro, .none, 0, true, .any⟩,
   ⟨"TC_GEN_FALLBACK", 0, 0, 0x13, 0x13, 3, 8, .ro, .none, 0, true, .any⟩,
   ⟨"ONE_STEP_SENT", 0, 0, 0x14, 0x14, 3, 8, .ro, .none, 0, true, .any⟩,
   ⟨"PTP_CF_SKIPPED", 0, 0, 0x15, 0x15, 3, 8, .ro, .none, 0, true, .any⟩,
   ⟨"PATH_DOMAIN", 0, 0, 0x18, 0x18, 7, 1, .priv, .imm, 0, true, .codes [0, 1, 2]⟩,
   ⟨"PATH_SAMPLE", 0, 0, 0x19, 0x19, 5, 8, .priv, .imm, 0, true, .any⟩,
   ⟨"PATH_BASE", 0, 0, 0x1A, 0x1A, 5, 8, .ro, .none, 0, true, .any⟩,
   ⟨"PATH_STATE", 0, 0, 0x1B, 0x1B, 7, 1, .ro, .none, 0, true, .any⟩,
   ⟨"PATH_STEPS", 0, 0, 0x1C, 0x1C, 2, 4, .ro, .none, 0, true, .any⟩,
   ⟨"PATH_LAST_STEP", 0, 0, 0x1D, 0x1D, 5, 8, .ro, .none, 0, true, .any⟩,
   ⟨"PATH_LEARN", 0, 0, 0x1E, 0x1E, 0, 1, .priv, .evt, 0x10, true, .range 4 64⟩,
   ⟨"PATH_STEP_NS", 0, 0, 0x1F, 0x1F, 2, 4, .priv, .imm, 0x14, true, .range 1 10000⟩,
   ⟨"PATH_STEP_COUNT", 0, 0, 0x20, 0x20, 0, 1, .priv, .imm, 1, true, .range 1 16⟩]

/-- Objects at 0x5200 (R481). -/
def rows5200 : List Row :=
  [⟨"TC_MODE", 0, 0, 0x01, 0x01, 7, 1, .priv, .imm, 0, true, .codes [0, 1]⟩,
   ⟨"TC_DOMAINS", 0, 0, 0x02, 0x02, 11, 32, .priv, .imm, 0xffffffffffffffffffffffffffffffffffffffffffffffffffffffffffffffff, true, .any⟩,
   ⟨"PATH_HOLD", 0, 0, 0x03, 0x03, 2, 4, .priv, .evt, 0x7d0, true, .range 100 60000⟩,
   ⟨"DIFF_STEP_NS", 0, 0, 0x04, 0x04, 2, 4, .priv, .imm, 0x19, true, .range 1 10000⟩,
   ⟨"JUMP_LIMIT_A", 0, 0, 0x05, 0x05, 2, 4, .priv, .imm, 0x3e8, true, .range 100 1000000000⟩,
   ⟨"JUMP_LIMIT_B", 0, 0, 0x06, 0x06, 2, 4, .priv, .imm, 0x3e8, true, .range 100 1000000000⟩,
   ⟨"HOLD_STATE", 0, 0, 0x07, 0x07, 8, 1, .ro, .none, 0, true, .any⟩,
   ⟨"HOLD_DEV_A", 0, 0, 0x08, 0x08, 5, 8, .ro, .none, 0, true, .any⟩,
   ⟨"HOLD_DEV_B", 0, 0, 0x09, 0x09, 5, 8, .ro, .none, 0, true, .any⟩,
   ⟨"HOLD_D0", 0, 0, 0x0A, 0x0A, 5, 8, .ro, .none, 0, true, .any⟩,
   ⟨"PATH_VERDICT", 0, 0, 0x0B, 0x0B, 7, 1, .ro, .none, 0, true, .any⟩,
   ⟨"PATH_VERDICT_DOM", 0, 0, 0x0C, 0x0C, 7, 1, .ro, .none, 0, true, .any⟩,
   ⟨"JUMPS", 0, 0, 0x0D, 0x0D, 2, 4, .ro, .none, 0, true, .any⟩,
   ⟨"STACK_JUMP_DROP", 0, 0, 0x0E, 0x0E, 3, 8, .ro, .none, 0, true, .any⟩]

/-- Objects at 0x6000+t (R519). -/
def rows6000 : List Row :=
  [⟨"ENGINES", 0, 0, 0x01, 0x01, 0, 1, .const, .none, 0x10, true, .any⟩,
   ⟨"COPY_BYTES", 0, 0, 0x02, 0x02, 3, 8, .ro, .none, 0, true, .any⟩,
   ⟨"PROG", 1, 1, 0x10, 0x1E, 11, 32, .rw, .imm, 0, true, .special⟩]

/-- Objects at 0x6100+t (R519). -/
def rows6100 : List Row :=
  [⟨"RING_SEL", 0, 0, 0x01, 0x01, 1, 2, .rw, .imm, 0, true, .special⟩,
   ⟨"RING_CFG", 0, 0, 0x02, 0x02, 11, 16, .rw, .imm, 0x800000000400000000000000000, true, .special⟩,
   ⟨"RING_SHADOW", 0, 0, 0x03, 0x03, 11, 16, .rw, .evt, 0x100000000, true, .special⟩,
   ⟨"RING_ARM", 0, 0, 0x04, 0x04, 6, 1, .wo, .evt, 0, false, .codes [0, 1]⟩,
   ⟨"RING_CTL", 0, 0, 0x05, 0x05, 7, 1, .wo, .imm, 0, false, .codes [1, 2, 3]⟩,
   ⟨"RING_STATUS", 0, 0, 0x06, 0x06, 11, 32, .ro, .none, 0, false, .any⟩,
   ⟨"CQ_SEL", 0, 0, 0x08, 0x08, 1, 2, .rw, .imm, 0, true, .range 0 1023⟩,
   ⟨"CQ_CFG", 0, 0, 0x09, 0x09, 11, 32, .rw, .imm, 0x4000000000000000000, true, .special⟩,
   ⟨"CQ_CTL", 0, 0, 0x0A, 0x0A, 7, 1, .wo, .imm, 0, false, .codes [1, 2]⟩,
   ⟨"CQ_STATUS", 0, 0, 0x0B, 0x0B, 11, 16, .ro, .none, 0, false, .any⟩,
   ⟨"DB_INVALID", 0, 0, 0x10, 0x10, 3, 8, .ro, .none, 0, true, .any⟩,
   ⟨"DB_IDLE", 0, 0, 0x11, 0x11, 3, 8, .ro, .none, 0, true, .any⟩,
   ⟨"DESC_ERRS", 0, 0, 0x12, 0x12, 3, 8, .ro, .none, 0, true, .any⟩,
   ⟨"RING_FAILS", 0, 0, 0x13, 0x13, 3, 8, .ro, .none, 0, true, .any⟩,
   ⟨"RX_FLUSH", 0, 0, 0x14, 0x14, 3, 8, .ro, .none, 0, true, .any⟩]

/-- Objects at 0x7000+t (R551). -/
def rows7000 : List Row :=
  [⟨"CNT_PRESET", 0, 0, 0x01, 0x01, 11, 12, .wo, .imm, 0, false, .special⟩,
   ⟨"PAGE_WRITES", 0, 0, 0x02, 0x02, 3, 8, .ro, .none, 0, true, .any⟩]

/-- Objects at 0x7008+t (R551). -/
def rows7008 : List Row :=
  [⟨"EVC_CFG", 1, 0, 0x01, 0x40, 11, 16, .rw, .imm, 0, true, .special⟩]

/-- Objects at 0x7010+t (R551). -/
def rows7010 : List Row :=
  [⟨"EVC_VALUE", 1, 0, 0x01, 0x40, 3, 8, .rt, .none, 0, true, .any⟩]

/-- Objects at 0x7018+t (R551). -/
def rows7018 : List Row :=
  [⟨"PAGE_GRANT", 1, 0, 0x01, 0x08, 6, 1, .priv, .imm, 0, true, .codes [0, 1]⟩,
   ⟨"PAGE_MAP", 2, 0, 0x10, 0x2F, 11, 504, .priv, .imm, 0, true, .special⟩]

/-- Objects at 0x7100+p (R551). -/
def rows7100 : List Row :=
  [⟨"PCNT", 1, 0, 0x01, 0xA0, 3, 8, .rt, .none, 0, true, .any⟩]

/-- Objects at 0x7200+p (R551). -/
def rows7200 : List Row :=
  [⟨"WIN_LEN", 0, 0, 0x01, 0x01, 2, 4, .rw, .evt, 0x3e8, true, .range 1 1000000⟩,
   ⟨"WIN_LAST", 0, 0, 0x02, 0x02, 11, 48, .ro, .none, 0, true, .any⟩,
   ⟨"WIN_HIST", 0, 0, 0x03, 0x03, 11, 384, .ro, .none, 0, true, .any⟩]

/-- Objects at 0x7800 (R552). -/
def rows7800 : List Row :=
  [⟨"PS_SIZE", 0, 0, 0x01, 0x01, 2, 4, .const, .none, 0x80000, true, .any⟩,
   ⟨"PS_SLOTS", 0, 0, 0x02, 0x02, 0, 1, .const, .none, 8, true, .any⟩,
   ⟨"PS_LATEST", 0, 0, 0x03, 0x03, 0, 1, .ro, .none, 0xff, true, .any⟩,
   ⟨"PS_SEQ", 0, 0, 0x04, 0x04, 3, 8, .ro, .none, 0, true, .any⟩,
   ⟨"PS_CHECKPOINT", 0, 0, 0x05, 0x05, 6, 1, .wo, .imm, 0, false, .codes [0, 1]⟩,
   ⟨"PS_BAD_SLOTS", 0, 0, 0x06, 0x06, 8, 1, .ro, .none, 0, true, .any⟩,
   ⟨"PS_SEL", 0, 0, 0x07, 0x07, 2, 4, .rw, .imm, 0, true, .special⟩]

/-- Objects at 0x7801 (R552). -/
def rows7801 : List Row :=
  [⟨"PS_DATA", 1, 0, 0x01, 0x20, 3, 8, .ro, .none, 0, true, .any⟩]

/-- Every index family that holds objects, in index order (R106). -/
def pages : List Page :=
  [⟨0x1000, .one, rows1000⟩, ⟨0x1010, .one, rows1010⟩, ⟨0x1020, .tile, rows1020⟩, ⟨0x1030, .one, rows1030⟩, ⟨0x1040, .tile, rows1040⟩, ⟨0x1050, .one, rows1050⟩, ⟨0x1051, .tileSub, rows1051⟩, ⟨0x1052, .tileSub, rows1052⟩, ⟨0x1053, .tileSub, rows1053⟩, ⟨0x1054, .tileSub, rows1054⟩] ++
  [⟨0x1055, .tileSub, rows1055⟩, ⟨0x1100, .one, rows1100⟩, ⟨0x1101, .one, rows1101⟩, ⟨0x1102, .one, rows1102⟩, ⟨0x1103, .one, rows1103⟩, ⟨0x1108, .four, rows1108⟩, ⟨0x1200, .tile, rows1200⟩, ⟨0x1208, .tile, rows1208⟩, ⟨0x1210, .tile, rows1210⟩, ⟨0x1218, .tile, rows1218⟩] ++
  [⟨0x1300, .tile, rows1300⟩, ⟨0x1310, .one, rows1310⟩, ⟨0x1400, .one, rows1400⟩, ⟨0x1401, .tileSub, rows1401⟩, ⟨0x1402, .tileSub, rows1402⟩, ⟨0x1403, .tileSub, rows1403⟩, ⟨0x1404, .tileSub, rows1404⟩, ⟨0x1405, .tileSub, rows1405⟩, ⟨0x1406, .tileSub, rows1406⟩, ⟨0x1407, .tileSub, rows1407⟩] ++
  [⟨0x1408, .tileSub, rows1408⟩, ⟨0x1409, .tileSub, rows1409⟩, ⟨0x140A, .tileSub, rows140A⟩, ⟨0x140B, .tileSub, rows140B⟩, ⟨0x140C, .tileSub, rows140C⟩, ⟨0x140D, .tileSub, rows140D⟩, ⟨0x1500, .one, rows1500⟩, ⟨0x1501, .one, rows1501⟩, ⟨0x1502, .one, rows1502⟩, ⟨0x2000, .port, rows2000⟩] ++
  [⟨0x2100, .port, rows2100⟩, ⟨0x2200, .port, rows2200⟩, ⟨0x2300, .port, rows2300⟩, ⟨0x3000, .one, rows3000⟩, ⟨0x3100, .tile, rows3100⟩, ⟨0x3180, .sixteen, rows3180⟩, ⟨0x3200, .one, rows3200⟩, ⟨0x4000, .tile, rows4000⟩, ⟨0x4010, .tile, rows4010⟩, ⟨0x4020, .port, rows4020⟩] ++
  [⟨0x4100, .tile, rows4100⟩, ⟨0x4200, .port, rows4200⟩, ⟨0x4300, .port, rows4300⟩, ⟨0x5000, .one, rows5000⟩, ⟨0x5001, .two, rows5001⟩, ⟨0x5008, .tile, rows5008⟩, ⟨0x5100, .port, rows5100⟩, ⟨0x5200, .one, rows5200⟩, ⟨0x6000, .tile, rows6000⟩, ⟨0x6100, .tile, rows6100⟩] ++
  [⟨0x7000, .tile, rows7000⟩, ⟨0x7008, .tile, rows7008⟩, ⟨0x7010, .tile, rows7010⟩, ⟨0x7018, .tile, rows7018⟩, ⟨0x7100, .port, rows7100⟩, ⟨0x7200, .port, rows7200⟩, ⟨0x7800, .one, rows7800⟩, ⟨0x7801, .one, rows7801⟩]

end Sys2Proof.Machine
end

