-- ==== Sys2Proof/Machine/Objects.lean ====
section
/-! DEFINITION. The dictionary as a map from keys to rows (R106 to R108): which objects a variant has, what each reads before
anything wrote it, and which tile owns it. A key is 256 times the index plus the subindex. -/

namespace Sys2Proof.Machine

/-- The variants of R1. -/
inductive Variant where
  | clm36 | clm72 | clm144
deriving DecidableEq, Repr

/-- Tiles fitted (R1). -/
def Variant.tiles : Variant → Nat
  | .clm36 => 2
  | .clm72 => 4
  | .clm144 => 8

/-- Port slots and lanes (R1). -/
def Variant.ports (v : Variant) : Nat := 18 * v.tiles

/-- Col links each tile uses (R1). -/
def Variant.colLinks : Variant → Nat
  | .clm36 => 1
  | .clm72 => 2
  | .clm144 => 3

/-- The code of the identity object VARIANT (R146). -/
def Variant.code : Variant → Nat
  | .clm36 => 0
  | .clm72 => 1
  | .clm144 => 2

/-- How many indices a family has in a variant (R2, R10). -/
def Family.count (v : Variant) : Family → Nat
  | .one => 1
  | .tile => v.tiles
  | .port => v.ports
  | .four => 4
  | .sixteen => 16
  | .two => 2
  | .tileSub => 1

/-- The index of a key. -/
def keyIndex (key : Nat) : Nat := key / 256

/-- The subindex of a key. -/
def keySub (key : Nat) : Nat := key % 256

/-- The index family that holds an index, with the number of the member (R106, R2). -/
def pageAt (v : Variant) (idx : Nat) : Option (Page × Nat) :=
  match pages.find? (fun p => p.base ≤ idx && idx < p.base + p.family.count v) with
  | some p => some (p, idx - p.base)
  | none => none

/-- Whether a row's member at `sub` exists: the subindices of a per-tile index stop at the variant's tiles (R582, R649). -/
def Row.has (v : Variant) (f : Family) (r : Row) (sub : Nat) : Bool :=
  r.first ≤ sub && sub ≤ r.last && (f != .tileSub || sub ≤ v.tiles)

/-- The highest subindex in use at an index (R107). -/
def highSub (v : Variant) (p : Page) : Nat :=
  p.rows.foldl (fun a r => max a (if p.family == .tileSub then min r.last v.tiles else r.last)) 0

/-- Subindex 0 of every index that holds objects (R107). No rule gives it a name: NAME of its descriptor is all zeros (DESIGN CHOICE, assumption 81). -/
def countRow (v : Variant) (p : Page) : Row :=
  ⟨"", 0, 0, 0, 0, 0, 1, .const, .none, highSub v p, true, .any⟩

/-- The row of the object at a key, if the variant has one (R106, R2). -/
def rowAt (v : Variant) (key : Nat) : Option Row :=
  match pageAt v (keyIndex key) with
  | none => none
  | some (p, _) =>
    if keySub key = 0 then some (countRow v p) else p.rows.find? (fun r => r.has v p.family (keySub key))

/-- The objects whose default the tables call "Per part". -/
def isPerPart (key : Nat) : Bool :=
  key == O.REVISION || key == O.SERIAL ||
  (0x1020 ≤ keyIndex key && keyIndex key < 0x1028 && (keySub key == 2 || keySub key == 3 || keySub key == 4)) ||
  (0x2000 ≤ keyIndex key && keyIndex key < 0x2090 && keySub key == 0x5F)

/-- Defaults that depend on the variant, the part or the member's number (R45, R146, R122, R296, R320, R581). -/
def specialDflt (v : Variant) (key : Nat) (r : Row) : Nat :=
  let i := keyIndex key
  let sb := keySub key
  if key = O.VARIANT then v.code
  else if key = O.TILE_MAP || key = O.FB_WAKE_TILES then 2 ^ v.tiles - 1
  else if key = O.PKG_DOMAINS then 54 * v.tiles + 1
  else if 0x1040 ≤ i && i < 0x1048 && 1 ≤ sb && sb ≤ 3 then b2n (sb ≤ v.colLinks)
  else if key = O.KEY_ROLE 0 then 0x0F
  else if 0x3100 ≤ i && i < 0x3108 && 0x10 ≤ sb && sb ≤ 0x12 then 0x10000 + 2 * (i - 0x3100)
  else if key = O.SLOT_STATE 0 then 2
  else if isPerPart key then Config.perPart key % (if sb = 0x5F then 2 ^ 24 else 256 ^ r.size)
  else r.dflt

/-- What an object reads before anything wrote it; 0 where there is no object. -/
def objDflt (v : Variant) (key : Nat) : Nat :=
  match rowAt v key with
  | none => 0
  | some r => specialDflt v key r

/-- The tile that owns an object (R108). -/
def ownerTile (v : Variant) (key : Nat) : Nat :=
  match pageAt v (keyIndex key) with
  | none => 0
  | some (p, i) =>
    if p.base = 0x1020 then 0
    else match p.family with
      | .tile => i
      | .port => i / 18
      | _ => 0

end Sys2Proof.Machine
end

