-- ==== Sys2Proof/Machine/Parser.lean ====
section
/-! DEFINITION. The parser (R262 to R272) as a function of a frame's bytes without FCS and the parser objects of one version: the header graph
walked node by node, the key fields recorded, the outcome and REQ; keys and path classes (R276 to R279). -/

namespace Sys2Proof.Machine

/-- The parser objects of a version (R295). -/
structure ParserCfg where
  tpid   : Nat
  vxlan  : Nat
  geneve : Nat
  trans  : List Nat
  nodes  : List Nat

/-- A header of the walk: its node, where it starts, its length, whether it is inner. -/
structure Hdr where
  node : Nat
  off  : Nat
  len  : Nat
  inner : Bool
deriving DecidableEq, Repr

/-- The walk so far: key fields by code (R277), VALID, REQ, the outcome met (0 while none), the headers accepted, and where the payload of
the innermost IP, UDP or GRE header ends. -/
structure Walk where
  fields : Tbl Nat := []
  valid  : Nat := 0
  req    : Nat := 0
  outcome : Nat := 0
  hdrs   : List Hdr := []
  vlans  : Nat := 0
  labels : Nat := 0
  inner  : Bool := false
  limit  : Option Nat := none
  /-- Where the payload of the innermost IP header ends. -/
  ipStop  : Option Nat := none
  extOk  : Bool := false
deriving DecidableEq, Repr

/-- A key field is recorded. -/
def Walk.setF (w : Walk) (code v : Nat) : Walk := { w with fields := tput 0 w.fields code v }

/-- A bit of VALID is set. -/
def Walk.mark (w : Walk) (b : Nat) : Walk := { w with valid := setBit w.valid b true }

/-- REQ covers at least `n` bytes (R269). -/
def Walk.need (w : Walk) (n : Nat) : Walk := { w with req := max w.req n }

/-- User node records by node ID (R264). -/
def ParserCfg.node (c : ParserCfg) (id : Nat) : Nat := c.nodes.getD (id - 0x40) 0

/-- A user node is enabled. -/
def ParserCfg.enabled (c : ParserCfg) (id : Nat) : Bool := 0x40 ≤ id && id ≤ 0x4F && bit (octet (c.node id) 0) 0

/-- The target of the first enabled user transition of a context and value whose node exists (R265). -/
def ParserCfg.user (c : ParserCfg) (ctx v : Nat) : Option Nat :=
  (c.trans.find? (fun t => bit (octet t 5) 0 && octet t 0 == ctx && octets t 2 2 == v &&
    (octet t 4 < 0x40 || c.enabled (octet t 4)))).map (fun t => octet t 4)

/-- The built-in transitions of an EtherType (R262). -/
def ParserCfg.ether (c : ParserCfg) (v : Nat) : Option Nat :=
  if v = 0x8100 ∨ v = 0x88A8 ∨ v = c.tpid then some 2
  else if v = 0x8847 ∨ v = 0x8848 then some 3
  else if v = 0x0800 then some 4 else if v = 0x86DD then some 5 else if v = 0x88F7 then some 12 else none

/-- The next node of an EtherType field: a length field ends the walk and is not offered to user transitions (R265). -/
def ParserCfg.byEther (c : ParserCfg) (v : Nat) : Option Nat :=
  if v ≤ 0x05DC then none else match c.user 0 v with | some n => some n | none => c.ether v

/-- The next node of a tunnel's protocol type (R262). -/
def ParserCfg.byTunnel (c : ParserCfg) (v : Nat) : Option Nat :=
  if v ≤ 0x05DC then none else match c.user 0 v with
    | some n => some n
    | none => if v = 0x6558 then some 1 else if v = 0x0800 then some 4 else if v = 0x86DD then some 5 else none

/-- The next node of an IP protocol (R262); `v6` allows the extension headers, type 0 only directly after IPV6. -/
def ParserCfg.byProto (c : ParserCfg) (v : Nat) (v6 first : Bool) : Option Nat :=
  match c.user 1 v with
  | some n => some n
  | none =>
    if v = 17 then some 7 else if v = 6 then some 8 else if v = 47 then some 11
    else if v6 ∧ (v = 43 ∨ v = 44 ∨ v = 60 ∨ v = 0 ∧ first) then some 6 else none

/-- The next node of a UDP destination port (R262). -/
def ParserCfg.byUdp (c : ParserCfg) (v : Nat) : Option Nat :=
  match c.user 2 v with
  | some n => some n
  | none => if v = c.vxlan then some 9 else if v = c.geneve then some 10 else if v = 319 ∨ v = 320 then some 12 else none

/-- The least length of a node's header (R269): every length field at its least value. -/
def ParserCfg.least (c : ParserCfg) (n : Nat) : Nat :=
  if n = 1 then 14 else if n = 2 ∨ n = 3 ∨ n = 11 then 4 else if n = 4 ∨ n = 8 then 20 else if n = 5 then 40
  else if n = 12 then 34 else if n < 0x40 then 8
  else if octet (c.node n) 3 = 0 then octet (c.node n) 1 else octet (c.node n) 5

/-- The length a node's header gives, where the bytes that state it lie inside the frame (R262, R264, R269). `ext` is the type of an
IPv6 extension header. -/
def ParserCfg.hdrLen (c : ParserCfg) (fr : Bytes) (n off ext : Nat) : Nat :=
  let has := fun k => off + k < fr.length
  let b := fun k => byteAt fr (off + k)
  if n = 4 then (if has 0 then b 0 % 16 * 4 else 20)
  else if n = 6 then (if ext = 44 then 8 else if has 1 then (b 1 + 1) * 8 else 8)
  else if n = 8 then (if has 12 then b 12 / 16 * 4 else 20)
  else if n = 10 then (if has 0 then 8 + b 0 % 64 * 4 else 8)
  else if n = 11 then (if has 0 then 4 + 4 * popcount 8 (Nat.land (b 0) 0xB0) else 4)
  else if 0x40 ≤ n ∧ octet (c.node n) 3 ≠ 0 then
    let r := c.node n
    if has (octet r 2) then Nat.land (b (octet r 2)) (octet r 3) * octet r 4 + octet r 5 else octet r 5
  else c.least n

/-- BAD_HEADER (R270). -/
def ParserCfg.bad (c : ParserCfg) (fr : Bytes) (n off ext : Nat) : Bool :=
  let b := fun k => byteAt fr (off + k)
  if n = 4 then b 0 / 16 != 4 || b 0 % 16 < 5
  else if n = 5 then b 0 / 16 != 6
  else if n = 8 then b 12 / 16 < 5
  else if n = 9 then !bit (b 0) 3
  else if n = 10 then b 0 / 64 != 0
  else if n = 11 then b 1 % 8 != 0
  else if 0x40 ≤ n then c.hdrLen fr n off ext == 0
  else false

/-- The length conflicts the walk meets in a header that lies inside the frame (R269). -/
def lenBad (fr : Bytes) (w : Walk) (n off len : Nat) : Bool :=
  let out := fun e => match w.limit with
    | some l => l < e
    | none => false
  if n = 4 then beAt fr (off + 2) 2 < len || (w.inner && out (off + beAt fr (off + 2) 2))
  else if n = 5 then (beAt fr (off + 4) 2 == 0 && byteAt fr (off + 6) != 59) || (w.inner && out (off + 40 + beAt fr (off + 4) 2))
  else if n = 7 then beAt fr (off + 4) 2 < 8
  else if n = 8 then (match w.ipStop with
    | some l => l < off + len
    | none => false)
  else false

/-- A header is accepted: its fields, its part in REQ, and the end of its payload (R269, R277). -/
def ParserCfg.accept (c : ParserCfg) (fr : Bytes) (w : Walk) (n off len ext : Nat) : Walk :=
  let f := fun (o k : Nat) => beAt fr (off + o) k
  let w0 : Walk := Walk.need { w with hdrs := w.hdrs ++ [Hdr.mk n off len w.inner] } (off + len)
  let pick := fun (a b : Nat) => if w.inner then b else a
  if n = 1 then
    let w1 := if w.inner then w0.setF 0x1F (f 0 6) else (((w0.setF 0x08 (f 0 6)).setF 0x09 (f 6 6)).setF 0x0C (f 12 2))
    ({ w1 with vlans := 0 }).need (if f 12 2 ≤ 0x05DC then off + 14 + f 12 2 else 0)
  else if n = 2 then
    let w1 := if w.inner then w0
      else if w.vlans = 0 then ((w0.setF 0x0A (f 0 2)).mark 0).setF 0x0C (f 2 2)
      else if w.vlans = 1 then ((w0.setF 0x0B (f 0 2)).mark 1).setF 0x0C (f 2 2)
      else w0.setF 0x0C (f 2 2)
    ({ w1 with vlans := w.vlans + 1 }).need (if f 2 2 ≤ 0x05DC then off + 4 + f 2 2 else 0)
  else if n = 3 then
    let w1 := if w.inner ∨ w.labels ≠ 0 then w0 else (w0.setF 0x0D (f 0 4)).mark 2
    { w1 with labels := w.labels + 1 }
  else if n = 4 then
    let w1 := ((w0.setF (pick 0x0E 0x18) (f 12 4)).setF (pick 0x0F 0x19) (f 16 4)).setF (pick 0x12 0x1C) (f 9 1) |>.mark (pick 3 8)
    let w2 := if w.inner then w1 else
      let w3 := w1.setF 0x13 (f 1 1)
      if f 6 2 % 16384 = 0 then w3 else w3.mark 13
    ({ w2 with limit := some (off + f 2 2), ipStop := some (off + f 2 2) }).need (off + f 2 2)
  else if n = 5 then
    let w1 := ((w0.setF (pick 0x10 0x1A) (f 8 16)).setF (pick 0x11 0x1B) (f 24 16)).setF (pick 0x12 0x1C) (f 6 1) |>.mark (pick 4 9)
    let w2 := if w.inner then w1 else (w1.setF 0x13 (f 0 2 / 16 % 256)).setF 0x24 (f 0 4 % 2 ^ 20)
    ({ w2 with limit := some (off + 40 + f 4 2), ipStop := some (off + 40 + f 4 2), extOk := true }).need (off + 40 + f 4 2)
  else if n = 6 then
    let w1 := w0.setF (pick 0x12 0x1C) (f 0 1)
    if ext = 44 ∧ !w.inner then w1.mark 13 else w1
  else if n = 7 then
    let w1 := ((w0.setF (pick 0x14 0x1D) (f 0 2)).setF (pick 0x15 0x1E) (f 2 2)).mark (pick 5 10)
    ({ w1 with limit := some (match w.limit with | some l => min l (off + f 4 2) | none => off + f 4 2) }).need (off + f 4 2)
  else if n = 8 then
    let w1 := ((w0.setF (pick 0x14 0x1D) (f 0 2)).setF (pick 0x15 0x1E) (f 2 2)).mark (pick 6 11)
    if w.inner then w1 else w1.setF 0x16 (f 13 1)
  else if n = 9 ∨ n = 10 then (w0.setF 0x17 (f 4 3)).mark 7
  else if n = 11 then
    if w.inner then w0
    else (w0.setF 0x17 (if bit (f 0 1) 5 then f (if bit (f 0 1) 7 then 8 else 4) 4 else 0)).mark 7
  else if n = 12 then ((w0.setF 0x20 (f 0 1 % 16)).setF 0x21 (f 4 1)).mark 12
  else
    let r := c.node n
    let v := f (octet r 8) 4
    let w1 := if octet r 9 = 1 then w0.setF 0x22 v else if octet r 9 = 2 then w0.setF 0x23 v else w0
    w1.need (if octet r 7 = 1 ∧ octet r 6 ≠ 0xFF ∧ f (octet r 6) 2 ≤ 0x05DC then off + len + f (octet r 6) 2 else 0)

/-- The node after a header, with the extension type it was reached by, and whether it is inner (R262 to R265). -/
def ParserCfg.next (c : ParserCfg) (fr : Bytes) (w : Walk) (n off len ext : Nat) : Option (Nat × Nat × Bool) :=
  let f := fun (o k : Nat) => beAt fr (off + o) k
  let go := fun (x : Option Nat) (e : Nat) (inner : Bool) => x.map (fun k => (k, e, inner))
  if n = 1 then go (c.byEther (f 12 2)) 0 w.inner
  else if n = 2 then go (c.byEther (f 2 2)) 0 w.inner
  else if n = 3 then
    if w.inner then none
    else if f 2 1 % 2 = 0 then some (3, 0, w.inner)
    else if fr.length ≤ off + len then none
    else if byteAt fr (off + len) / 16 = 4 then some (4, 0, w.inner)
    else if byteAt fr (off + len) / 16 = 6 then some (5, 0, w.inner) else none
  else if n = 4 then (if f 6 2 % 8192 ≠ 0 then none else go (c.byProto (f 9 1) false false) (f 9 1) w.inner)
  else if n = 5 then go (c.byProto (f 6 1) true true) (f 6 1) w.inner
  else if n = 6 then (if ext = 44 ∧ f 2 2 / 8 ≠ 0 then none else go (c.byProto (f 0 1) true false) (f 0 1) w.inner)
  else if n = 7 then (if w.inner then none else go (c.byUdp (f 2 2)) 0 w.inner)
  else if n = 8 then go (c.user 3 (f 2 2)) 0 w.inner
  else if n = 9 then some (1, 0, true)
  else if n = 10 then go (c.byTunnel (f 2 2)) 0 true
  else if n = 11 then (if w.inner then none else go (c.byTunnel (f 2 2)) 0 true)
  else if n = 12 then none
  else
    let r := c.node n
    if octet r 6 = 0xFF then none
    else if octet r 7 = 1 then go (c.byEther (f (octet r 6) 2)) 0 w.inner
    else if octet r 7 = 2 then go (c.byProto (f (octet r 6 + 1) 1) false false) (f (octet r 6 + 1) 1) w.inner
    else none

/-- The walk from a node (R262 to R271): a header the frame ends inside is not accepted and its end counts in REQ; then BAD_HEADER,
LENGTH_CONFLICT and DEPTH_EXCEEDED, in this order within one header. `fuel` bounds the headers. -/
def ParserCfg.walk (c : ParserCfg) (fr : Bytes) : Nat → Walk → Nat → Nat → Nat → Walk
  | 0, w, _, _, _ => w
  | fuel + 1, w, n, off, ext =>
    let len := c.hdrLen fr n off ext
    if w.inner ∧ (n = 9 ∨ n = 10 ∨ n = 12) then w
    else if n = 12 ∧ off + 1 < fr.length ∧ byteAt fr (off + 1) % 16 ≠ 2 then w
    else if fr.length < off + len then w.need (off + len)
    else if c.bad fr n off ext then { w with outcome := 3 }
    else if lenBad fr w n off len then { w with outcome := 2 }
    else if 16 ≤ w.hdrs.length ∨ (n = 2 ∧ w.vlans = 3) ∨ (n = 3 ∧ w.labels = 6) ∨ 256 < off + len then { w with outcome := 1 }
    else
      let w1 := c.accept fr w n off len ext
      match c.next fr w1 n off len ext with
      | none => w1
      | some (k, e, inner) => c.walk fr fuel { w1 with inner := inner } k (off + len) e

/-- The parse of a frame (R262): from ETH at byte 0. -/
def ParserCfg.parse (c : ParserCfg) (fr : Bytes) : Walk := c.walk fr 18 {} 1 0 0

/-- Parse outcome and REQ once the frame's length is known (R272): a conflict replaces an outcome of OK only. -/
def Walk.final (w : Walk) (len : Nat) : Nat := if w.outcome = 0 ∧ len < w.req then 2 else w.outcome

/-- The header accepted at a node, outer or inner. -/
def Walk.hdr (w : Walk) (n : Nat) (inner : Bool) : Option Hdr := w.hdrs.find? (fun h => h.node == n && h.inner == inner)

/-- Widths of the key fields in bytes, by code from 1 (R277). -/
def keyWidths : List Nat :=
  [1, 1, 2, 1, 2, 2, 1, 6, 6, 2, 2, 2, 4, 4, 4, 16, 16, 1, 1, 2, 2, 1, 4, 4, 4, 16, 16, 1, 2, 2, 6, 1, 1, 4, 4, 4]

/-- The width of a key field; 0 for a reserved code. -/
def keyWidth (code : Nat) : Nat := if code = 0 then 0 else keyWidths.getD (code - 1) 0

/-- The field codes of a key profile, up to its terminator (R278). -/
def profileCodes (v : Nat) : List Nat := ((List.range 16).map (octet v)).takeWhile (· != 0)

/-- The length of a profile's key. -/
def keyLen (v : Nat) : Nat := ((profileCodes v).map keyWidth).foldl (· + ·) 0

/-- The path class of a frame (R279); class 7 is chosen by L2_ONLY alone. -/
def pathClass (valid : Nat) : Nat :=
  if bit valid 12 then 6 else if bit valid 2 then 5
  else if bit valid 7 ∧ bit valid 3 then 3 else if bit valid 7 ∧ bit valid 4 then 4
  else if bit valid 3 then 1 else if bit valid 4 then 2 else 0

/-- The key fields that survive L2_ONLY (R276): those below MPLS_TOP, with VALID bits 0 and 1. -/
def l2Fields (t : Tbl Nat) : Tbl Nat := t.filter (fun e => e.1 < 0x0D)

/-- The key of a profile from the fields (R277, R278). -/
def buildKey (profile : Nat) (fields : Tbl Nat) : Bytes :=
  (profileCodes profile).flatMap (fun c => natBe (tget 0 fields c) (keyWidth c))

end Sys2Proof.Machine
end

