-- ==== Sys2Proof/Machine/State.lean ====
section
/-! DEFINITION. The state of Clemal as plain data: the dictionary's objects, and for each tile, port, lane, queue, ring, domain and
session what the spec gives it beside its objects. Instants are in units of 2^-16 ns (assumption 1). A unit that no table lists stands at
the defaults of its structure. -/

namespace Sys2Proof.Machine

/-- An event report in its tile's aggregator, not yet handled (R599): its key, severity, TS64 instant and tag in the presented
time, whether it is a root report, and whether a root suppresses it (R603). -/
structure Report where
  kind : Nat
  cls  : Nat
  src  : Nat
  sev  : Nat
  ts   : Nat
  tag  : Nat
  root : Bool
  suppressed : Bool
  /-- The instant of the report. -/
  born : Nat
deriving DecidableEq, Repr

/-- An aggregator entry (R600, R602): its report's key, the reports merged, FIRST and LAST, the instant it opened, the
AGG_WINDOW it opened under, and whether it is closed and waits for its record. -/
structure AggEntry where
  kind   : Nat
  cls    : Nat
  src    : Nat
  sev    : Nat
  count  : Nat
  first  : Nat
  last   : Nat
  tag    : Nat
  root   : Bool
  openAt : Nat
  window : Nat
  closed : Bool
deriving DecidableEq, Repr

/-- A root that suppresses its dependents on a tile (R603): the raising tile, the root's KIND and source, and, once it has
ended, the instant its suppression stops. -/
structure Root where
  tile  : Nat
  kind  : Nat
  cls   : Nat
  src   : Nat
  stopAt : Option Nat
deriving DecidableEq, Repr

/-- What a response of the dictionary carries (R110, R113): the operation, the result code and the data. -/
structure Response where
  op   : Nat
  code : Nat
  data : Bytes
deriving DecidableEq, Repr

/-- What leaves Clemal by a command, newest first in `State.out`; the model's own record (assumption 4). -/
inductive Out where
  /-- An event record, or part of one, written at an address under EVT_RID (R91, R92). -/
  | eventWrite (t rid addr : Nat) (data : Bytes)
  /-- An interrupt message (R94, R505). -/
  | message (t rid addr data : Nat)
  /-- A frame of the field-bus node (R132): identifier and bytes. -/
  | zwiwa (ident : Nat) (data : Bytes)
  /-- A memory read request (R67). -/
  | memRead (t rid tag addr len : Nat)
  /-- A posted memory write (R67, R68). -/
  | memWrite (t rid addr : Nat) (data : Bytes)
  /-- TB_STB rises (R98). -/
  | timeStrobe (t : Nat)
  /-- A time word on the time bus (R98, R99). -/
  | timeWord (t word : Nat)
  /-- Credits returned to the host die on a transmit channel (R65). -/
  | afiCredits (t ch n : Nat)
  /-- A flit on a receive channel: sideband word, metadata word on SOF, data (R54 to R58). -/
  | afiFlit (t ch sideband metaw : Nat) (data : Bytes)
  /-- A frame put on the line by a port, without its FCS; `good` false when it ends with the complemented FCS (R47). -/
  | line (p : Nat) (data : Bytes) (good : Bool)
  /-- A control block on every lane of a set of the port's lanes, as it stands before the scrambler (R205). -/
  | control (p lanes block : Nat)
  /-- A retry unit on a span link: its data, and its blocks beside their lanes (R206). -/
  | unit (p seq : Nat) (data : Bytes) (blocks : List (Nat × Nat))
  /-- A CAP block on a lane (R204). -/
  | cap (l : Nat) (c : Cap)
  /-- A comma block on a lane (R200). -/
  | comma (l block : Nat)
  /-- The training control field of a lane (R160, R190): its request for precoding, and receiver ready. -/
  | trainControl (l : Nat) (precode ready : Bool)
  /-- What a port advertises under Clause 73 (R189, R215): its configured mode, the message code, the OUI, and the code field of the page that follows;
  EEE in the lane modes that negotiate it (R248). -/
  | advert (p mode : Nat) (eee : Bool) (msg oui code : Nat)
  /-- A collision on a half-duplex port: the bits sent of the frame, and the jam of 32 bits after them (R239). -/
  | jam (p bits jamBits : Nat)
  /-- A marker and its message on a time link (R426): from a tile, to its replicas or to the other tiles; the values of A, B and L, the states of A and B, the
active domain and O. -/
  | marker (t : Nat) (a b l stA stB active : Nat) (offset : Int)
  /-- A training status sent to the partner on a lane (R190): 0 updated, 1 at limit, 2 equalization limit, 3 not supported. -/
  | trainStatus (l code : Nat)
  /-- A window answer: 0 OK, 1 NRDY, 2 ERR, and the value read (R75). -/
  | window (t answer val : Nat)
deriving DecidableEq, Repr

/-- One AFI channel pair of a tile (R53, R63 to R66): the two ready signals, the credits each side holds, the frame open on the
transmit channel, the frames open in the four receive contexts, and what a violation makes it discard. -/
structure Afi where
  rdy      : Bool := false
  hdRdy    : Bool := false
  /-- Credits the host die holds on the transmit channel. -/
  txCredits : Nat := 0
  /-- Credits Clemal holds on the receive channel. -/
  rxCredits : Nat := 0
  /-- Clemal has held 64 credits since the channel came up (R66). -/
  rxStarted : Bool := false
  /-- The frame open on the transmit channel: its metadata word, its bytes, its flits (R56). -/
  txOpen   : Option (Nat × Bytes × Nat) := none
  /-- Flits are discarded (R104): 1 the rest of their frame, 2 up to the next start of a frame. -/
  txSkip   : Nat := 0
  /-- Frames open in receive contexts 0 to 3: number, copy, and bytes sent. -/
  ctx      : Tbl (Option (Nat × Nat × Nat)) := []
  /-- Since when flits wait without a receive credit, while they do; whether that stall is counted (R104). -/
  noCredit : Nat := 0
  stalled  : Bool := false
deriving DecidableEq, Repr

/-- What a read request is for (R496, R498, R503, R489). -/
inductive DmaUse where
  | fetch | data | readback
deriving DecidableEq, Repr

/-- An outstanding read of the DMA memory port (R67, R68). -/
structure DmaRead where
  tag  : Nat
  rx   : Bool
  ring : Nat
  use  : DmaUse
  addr : Nat
  len  : Nat
  issued : Nat
  /-- The MEM_TIMEOUT it was issued under (R105). -/
  limit : Nat
  /-- Its ring failed: the response is discarded (R518). -/
  dead : Bool := false
deriving DecidableEq, Repr

/-- The direct registers of a tile's control window (R78 to R89) and what they latch. -/
structure Window where
  /-- TIME_SNAP.CTL fields, the result words and the captures of a snapshot in progress (R79 to R81). -/
  tsSeq  : Nat := 0
  tsBusy : Bool := false
  tsDone : Bool := false
  tsRes  : List Nat := []
  tsCap  : List Nat := []
  /-- CNT_SNAP.CTL fields, result counters, wrap bits and time, and the capture in progress (R83, R84). -/
  csSeq  : Nat := 0
  csSrc  : Nat := 0
  csCount : Nat := 0
  csBusy : Bool := false
  csDone : Bool := false
  csVals : List Nat := []
  csWrap : Nat := 0
  csTime : Nat := 0
  csTag  : Nat := 0
  csCap  : Option (List Nat × Nat × Nat × Nat) := none
  /-- DICT_MBOX.CMD as last written, the command taken, STATUS and the data area (R88, R89). -/
  cmd    : Nat := 0
  busy   : Bool := false
  done   : Bool := false
  error  : Nat := 0
  seq    : Nat := 0
  len    : Nat := 0
  data   : Tbl Byte := []
  /-- TSQ_POP.HEAD as last read and TSQ_POP.TS, by tile lane (R85). -/
  popHead : Tbl Nat := []
  popTs  : Tbl Nat := []
deriving DecidableEq, Repr

/-- The key state of a tile's window (R118 to R120). -/
structure KeyState where
  priv    : Bool := false
  nonce   : Option Nat := none
  fails   : Nat := 0
  locked  : Bool := false
  /-- When the lockout began; when the last PRIV write through the window came. -/
  lockAt  : Nat := 0
  privAt  : Nat := 0
deriving DecidableEq, Repr

/-- The event ring of a tile as adopted at the last enable (R93, R94, R96), and the interrupt hold-off. -/
structure EvtRing where
  base : Nat := 0
  size : Nat := 1024
  rid  : Nat := 0
  /-- A message was sent and the hold-off runs; until when; a record was written meanwhile. -/
  holdoff : Bool := false
  endAt   : Nat := 0
  owed    : Bool := false
deriving DecidableEq, Repr

/-- A section of a save image (R562): its bit in RESTORE_LOST, and the banks that hold it. -/
structure Section where
  lostBit : Nat
  banks : List Nat
deriving DecidableEq, Repr

/-- The domains a tile's masters and replicas count in: a hold of R471 with its shadow master. -/
structure Hold where
  time : Nat
  tickAt : Nat
  acc : Int
  phaseLeft : Int
  freq : Int
  endAt : Nat
deriving DecidableEq, Repr

/-- A declared change of a domain's state waiting for its instant (R425). -/
structure StateChange where
  lock  : Bool
  cause : Nat
  /-- The instant, in units of L. -/
  instant : Nat
deriving DecidableEq, Repr

/-- The master of A or B (R419 to R425), or a member's copy of it (R444). -/
structure Domain where
  /-- The value at the last tick, in units, and the instant of that tick in L. -/
  time   : Nat := 0
  tickAt : Nat := 0
  acc    : Int := 0
  /-- FREQ_ADJ, SLEW_MAX and DOM_BASE in force since the last tick. -/
  freq   : Int := 0
  slew   : Nat := 5000
  base   : Nat := 0
  /-- A PHASE_ADJ that waits for the next tick (R420). -/
  phaseNew : Option Int := none
  /-- Declared state changes, oldest first. -/
  changes : List StateChange := []
  /-- When it became LOCKED, and when it was last steered, in L. -/
  lockedAt : Nat := 0
  steerAt  : Nat := 0
  hold   : Option Hold := none
  /-- A member's copy: the rate its servo holds and the servo's sum (R428, R446); its replica state and marker counts. -/
  rate   : Int := 0
  integ  : Int := 0
  rstate : Nat := 1
  good   : Nat := 0
  bad    : Nat := 0
deriving DecidableEq, Repr

/-- A replica of a domain in a tile's time unit or a port slot (R426 to R429). -/
structure Replica where
  time   : Nat := 0
  tickAt : Nat := 0
  rate   : Int := 0
  integ  : Int := 0
  acc    : Int := 0
  good   : Nat := 0
  bad    : Nat := 0
  missed : Nat := 0
  /-- A marker came since the last tick. -/
  seen   : Bool := false
  /-- Path delay in use and as last measured, in units (R427). -/
  delay  : Int := 0
  delayTo : Int := 0
  /-- The marker on its way: the value sent with it. -/
  sent   : Option Nat := none
  /-- When the path delay was measured since the replica entered ACQUIRE, in L (R427). -/
  delayAt : Option Nat := none
  /-- Consecutive markers of a state, and the state: 0 ACQUIRE, 1 LOCKED, 2 FAULT; whether its island runs. -/
  state  : Nat := 0
  running : Bool := false
  /-- A complement mismatch of the active domain and O was found and the next marker is awaited (R584). -/
  stale  : Bool := false
deriving DecidableEq, Repr

/-- The values held in complement storage (R583, R584). A name stands in `State.pairBad` while its two halves are not
complementary. -/
inductive PairName where
  | steer (d : Nat)
  | active
  | replicaActive (rep : Nat)
  | current (t pipe : Nat)
  | slot (k : Nat)
  | operBase (p : Nat)
  | lcRunning
  | lcStored
  | corePwr (t : Nat)
  | basinPwr (t : Nat)
  | retain (t : Nat)
  | tilePower (t : Nat)
deriving DecidableEq, Repr

/-- The phase of a lane's deep rest (R177 to R181). -/
inductive RestPhase where
  | out | entering | rest | pll | cal
deriving DecidableEq, Repr

/-- A lane, beside its objects (Serial Lanes; Link Bring-up). -/
structure Lane where
  restPhase : RestPhase := .out
  restAt    : Nat := 0
  /-- The request held while the other is carried out (R181): true rest, false exit. -/
  restHeld  : Option Bool := none
  /-- PLL attempts in this exit (R180). -/
  pllTries  : Nat := 0
  /-- When the request held for the end of the first step of an exit came (R181). -/
  heldAt    : Nat := 0
  /-- The taps and adaptation values kept over a rest replace the preset at the next training (R179). -/
  kept      : Bool := false
  /-- When LOL last deasserted; when LOS or LOL last asserted (R167). -/
  lolClearAt : Nat := 0
  lostAt    : Option Nat := none
  /-- An SNR window good enough for BIT_LOCK has ended since entry (R184). -/
  snrGood   : Bool := false
  /-- Adaptation frozen since the last update boundary (R158); updates in a row with no tap moved by more than one (R190). -/
  frozen    : Bool := false
  steady    : Nat := 0
  /-- Training complete on the lane; the partner's status on it; the training control field last sent (R190, R191). -/
  trained   : Bool := false
  partnerTrain : PartnerTrain := ⟨false, false⟩
  sentTrain : Option (Bool × Bool) := none
  /-- The lane trains while its port is ACTIVE (R212, R221): 1 trains, 2 waits for its back-off; since when; its own failed attempts; the back-off's end. -/
  alone     : Nat := 0
  aloneAt   : Nat := 0
  aloneTries : Nat := 0
  aloneEnd  : Nat := 0
  /-- Span alignment (R201, R202): aligned; where codewords begin in the count of blocks, modulo 20; the block of the last good comma; commas missed in a row. -/
  aligned   : Bool := false
  codeword  : Option Nat := none
  lastComma : Option Nat := none
  missed    : Nat := 0
  /-- The last CAP block received, how often in a row, and whether one came with SEEN (R204). -/
  cap       : Option Cap := none
  capRuns   : Nat := 0
  capSeen   : Bool := false
  /-- Uncorrectable codewords since an instant (R209). -/
  uncorr    : List Nat := []
  /-- Dropped by sparing (R210, R212). -/
  dropped   : Bool := false
  /-- Corrected symbols and an uncorrectable codeword since the last sample of the proof store (R546). -/
  fecSec    : Nat := 0
  uncSec    : Bool := false
  /-- TX_INVERT, RX_INVERT, the sequence detector and the precoding request in force since the last bring-up (R155, R160, R161). -/
  txInverted : Bool := false
  rxInverted : Bool := false
  seqDet    : Bool := false
  precodeAsk : Bool := false
deriving DecidableEq, Repr

/-- A width change on a port (R217 to R221): a request outstanding toward the partner, a change agreed and waiting for its
switch, or lanes leaving rest before an accept. -/
structure ShedReq where
  widen : Bool
  width : Nat
  token : Nat
  restripe : Nat
deriving DecidableEq, Repr

/-- What the Burin keeps of a queue's head frame (R361 to R367, R397): its tag F, whether one is assigned and whether it is provisional, the
WEIGHT it was assigned under, LAUNCH_CFG as the frame became head, and whether it was declared late (R400). -/
structure Head where
  f      : Nat := 0
  tagged : Bool := false
  prov   : Bool := false
  /-- The metered length it was assigned with (R367). -/
  m      : Nat := 0
  w      : Nat := 1
  cfg    : Nat := 0
  late   : Bool := false
deriving DecidableEq, Repr

/-- The frame the Burin has selected for a port and which has not started (R359): its copy, its queue, and what the Burin kept of it as
head (R368). -/
structure Sel where
  fid  : Nat
  h    : Nat
  q    : Nat
  head : Head
deriving DecidableEq, Repr

/-- A port's egress queue (R358 to R380): its frames, head first, as number and copy; its head; whether the queue was held at a selection
point; its bucket and its count of held points. -/
structure Queue where
  frames : List (Nat × Nat) := []
  head   : Head := {}
  held   : Bool := false
  tokens : Int := 131072000
  shapeHeld : Nat := 0
deriving DecidableEq, Repr

/-- A port, beside its objects (Ports, Framing and Flow Control; Link Bring-up). -/
structure Port where
  /-- When the bring-up state was entered; when it became ACTIVE; when it last left ACTIVE. -/
  stateAt   : Nat := 0
  activeAt  : Nat := 0
  exitAt    : Nat := 0
  /-- End of the back-off, and whether LOS was asserted on some lane during it (R195, R197). -/
  backoffEnd : Nat := 0
  backoffLos : Bool := false
  /-- LINK_STABLE has passed since it became ACTIVE (R196). -/
  stable    : Bool := false
  partner   : Option Partner := none
  /-- Span exchange result (R204): sparing and shedding in force, the larger MIN_WIDTH, and the partner's stack fields. -/
  sparing   : Bool := false
  shedOk    : Bool := false
  minWidth  : Nat := 1
  partnerCap : Option Cap := none
  /-- Retry units (R206, R207): next to send, first not acknowledged, replay buffer, next expected, NAK sent, units since an ACK. -/
  txSeq     : Nat := 0
  replay    : List (Nat × Bytes) := []
  /-- Units that wait to be sent again. -/
  resend    : List (Nat × Bytes) := []
  rxSeq     : Nat := 0
  nakSent   : Bool := false
  rxSinceAck : Nat := 0
  /-- The lanes that units go out on and come in on; the unit from which the next set holds and that set, in each direction; the partner has still to answer for it
  (R206, R210, R212, R220). -/
  txLanes   : Nat := 0
  rxLanes   : Nat := 0
  txNext    : Option (Nat × Nat) := none
  rxNext    : Option (Nat × Nat) := none
  txHold    : Bool := false
  /-- A LANE_ADD of the partner, its lane and RESTRIPE, that waits for the lane here (R212). -/
  addOwed   : Option (Nat × Nat) := none
  /-- The byte stream of the units accepted (R208, R617): the records not yet taken, type and payload, oldest first, and the start of one that goes on in the next
  unit. -/
  rxRecords : List (Nat × Bytes) := []
  rxPart    : Bytes := []
  /-- When the port's data stream began, and the last of its commas sent (R200). -/
  streamAt  : Nat := 0
  commaNum  : Nat := 0
  /-- The comma in whose period a stack time message was sent last (R445). -/
  timeSent  : Nat := 0
  /-- STACK_ENABLE and STACK_ID as of the port's present bring-up (R616, R633). -/
  stackEn   : Bool := false
  stackId   : Nat := 0
  /-- Records that wait for a unit, in order of precedence, and the rest of the record a unit ended inside (R618). -/
  txRecords : List Bytes := []
  txPart    : Bytes := []
  /-- A drop or add in progress: the lane, and whether it is a drop (R210, R212). -/
  laneChange : Option (Nat × Bool) := none
  /-- Shedding (R214 to R222). -/
  shedOut   : Option ShedReq := none
  shedAgreed : Option ShedReq := none
  /-- A widen request of the partner whose lanes are still leaving rest. -/
  shedOwed  : Option ShedReq := none
  /-- Shedding messages that wait for the next frame boundary (R218). -/
  shedTx    : List Bytes := []
  shedAt    : Nat := 0
  switchAt  : Nat := 0
  relock    : Bool := false
  shedQuiet : Nat := 0
  /-- The larger of the bits sent and received in the last whole window, and that window's length in µs. -/
  lastLoad  : Nat := 0
  lastWin   : Nat := 0
  /-- Pause timers by priority: the instant each ends (R244). -/
  pauseEnd  : Tbl Nat := []
  /-- The instant up to which PAUSED_US and TX_LPI_US have been counted, by priority and for LPI (R527). -/
  pauseFrom : Tbl Nat := []
  lpiFrom   : Nat := 0
  /-- Generated frames that wait for the next frame boundary, each with the instant it was made: the priorities it names (8 for PAUSE) and
  their times (R246, R247); when each priority's XOFF was last made. -/
  pauseDue  : List (Nat × List (Nat × Nat)) := []
  xoffAt    : Tbl Nat := []
  /-- LPI (R249): its kind, 1 fast wake or 2 deep sleep; when it may leave LPI; idle since. -/
  lpi       : Bool := false
  lpiKind   : Nat := 0
  lpiWake   : Option Nat := none
  idleFrom  : Nat := 0
  /-- Half duplex (R239, R240): collisions of the frame in transmission, and the end of the back-off. -/
  collisions : Nat := 0
  hdWait    : Bool := false
  hdEnd     : Nat := 0
  /-- The frame selected (R359). -/
  sel       : Option Sel := none
  /-- The instants of the management frames taken within the last second, newest first (R145). -/
  mgmtAt    : List Nat := []
deriving DecidableEq, Repr

/-- A save image in the retained banks (R562): the objects it holds, its sections, its signatures (R569), and the tables. -/
structure Image where
  objs     : Tbl Nat := []
  sections : List Section := []
  /-- Signature, complement and row count are stored for these banks. -/
  signed   : List Nat := []
deriving DecidableEq, Repr

/-- How a tile is coming up: through start-up, or through a wake with or without an image (R565, R573, R637). -/
inductive Coming where
  | start | wake | package | recover
deriving DecidableEq, Repr

/-- A tile, beside its objects. -/
structure Tile where
  /-- When the tile leaves reset (R634); when it left; when its current step began; attempts made; the last cause (R565). -/
  releaseAt : Option Nat := none
  startAt   : Nat := 0
  stepAt    : Nat := 0
  tries     : Nat := 0
  cause     : Nat := 0
  coming    : Coming := .start
  /-- The instant of the last sample of its queues (R351, R354). -/
  sampledAt : Option Nat := none
  /-- The nanosecond of L of the last sample of its event counters, plus 1 (R529). -/
  evcAt     : Nat := 0
  /-- The instants, plus 1, of the last refill of its policers (0) and its limiters (1), which come before all else of their cycle (R293, R333). -/
  refilled : Tbl Nat := []
  /-- TILE_VREG_REQ, TILE_OSC_REQ (R101); the rail and the oscillator have been seen ready. -/
  vregReq   : Bool := false
  oscReq    : Bool := false
  vregRdy   : Bool := false
  oscRdy    : Bool := false
  /-- A start failed with CB_FAIL (R638); held after a supply fault (R104). -/
  failed    : Bool := false
  supplyFault : Bool := false
  /-- A wake held until the entry to dormant completes (R563). -/
  runHeld   : Bool := false
  image     : Option Image := none
  /-- Domains waiting to be switched on, in order (R558), and when the last was switched. -/
  pdQueue   : List Nat := []
  pdAt      : Nat := 0
  afi0      : Afi := {}
  afi1      : Afi := {}
  reads     : List DmaRead := []
  hdMemRdy  : Bool := false
  /-- Since when HD_MEM_RDY is low, while that is not counted as a loss (R104). -/
  memLowFrom : Option Nat := some 0
  /-- Requests that wait for HD_MEM_RDY (R72). -/
  memWaiting : Bool := false
  win       : Window := {}
  key       : KeyState := {}
  evt       : EvtRing := {}
  /-- Reports not yet in the aggregator, oldest first; the aggregator's entries; the roots that suppress (R600 to R603). -/
  reports   : List Report := []
  agg       : List AggEntry := []
  roots     : List Root := []
  tbSeq     : Nat := 0
  /-- The microsecond of the active domain at whose boundary TB_STB rose last (R98). -/
  tbUs      : Option Nat := none
  /-- Instants of integrity faults, and a fatal fault found by the command in progress (R589). -/
  faults    : List Nat := []
  isolateDue : Bool := false
  /-- Budget used in the period, by 4 times activity plus resource; the activities that have waited in the period (R594, R596). -/
  budgetUsed : Tbl Nat := []
  waited    : Tbl Bool := []
  /-- Credit of the three processor limiters, in millionths of a frame (R292). -/
  limCredit : Tbl Nat := []
  /-- Col link k: when its state began; bytes staged for it; the instant of the last space freed and how much was freed then (R42, R641). -/
  linkAt    : Tbl Nat := []
  staged    : Tbl Nat := []
  freed     : Tbl (Nat × Nat) := []
  /-- The instant, plus 1, at which the period began (R594). -/
  periodAt : Nat := 0
  /-- Words the scrub has read in its pass (R588). -/
  scrubAt   : Nat := 0
  /-- A firmware update restarts the control block (R610); the tile's last start ended in PASS (R647). -/
  updating  : Bool := false
  selfTest  : Bool := false
deriving DecidableEq, Repr

/-- An open exchange of SESSION_OPEN (R138). -/
structure Challenge where
  slot : Nat
  nc   : Bytes
  nn   : Bytes
deriving DecidableEq, Repr

/-- A session (R138 to R140): its slot and key, the last FRESH accepted and sent, its failures, and its last accepted message. -/
structure Session where
  slot   : Nat
  sk     : Bytes
  rx     : Nat
  tx     : Nat
  fails  : Nat
  lastAt : Nat
deriving DecidableEq, Repr

/-- A write staged in an atomic group (R125), and whether another requester has written the object since (R128). -/
structure StagedWrite where
  key     : Nat
  data    : Bytes
  spoiled : Bool
deriving DecidableEq, Repr

/-- An open atomic group, or one validated and waiting for its common instant in L (R125 to R130). -/
structure Group where
  owner   : Requester
  writes  : List StagedWrite
  lastAt  : Nat
  applyAt : Option Nat
  /-- Tiles that have not applied their part yet. -/
  left    : List Nat
  /-- Single writes held until the group is applied (R130). -/
  held    : List (Requester × Nat × Bytes)
deriving DecidableEq, Repr

/-- A Zwiwa request being received (R135, R136). -/
structure ZwRequest where
  client : Nat
  seq    : Nat
  op     : Nat
  idx    : Nat
  sub    : Nat
  auth   : Bool
  next   : Nat
  data   : Bytes
  lastAt : Nat
  whole  : Bool
  fresh  : Nat
deriving DecidableEq, Repr

/-- An in-band request waiting for its response (R142, R144, R145). -/
structure InbandRequest where
  client : Nat
  seq    : Nat
  op     : Nat
  idx    : Nat
  sub    : Nat
  auth   : Bool
  port   : Nat
  src    : Bytes
  tag    : Option Bytes
  data   : Bytes
  fresh  : Nat
  func   : Nat
deriving DecidableEq, Repr

/-- A lifecycle change in progress (R607): the new state, who asked for it (none at R605), and whether its response is sent and its steps have begun. -/
structure LcChange where
  target : Nat
  who    : Option Requester
  begun  : Bool
deriving DecidableEq, Repr

/-- A control-block update in progress (R610): tiles still to update, the one being updated and when its gap began, tiles done. -/
structure FwUpdate where
  left  : List Nat
  cur   : Option Nat
  gapAt : Nat
  done  : List Nat
  /-- Some tile went back to the previous image (R611). -/
  reverted : Bool
deriving DecidableEq, Repr

/-- What the HELLO records of a member say (R620): ROLE, PRIORITY, its master, HANDOVER, its view and SERIAL as a number with byte 0 most significant. -/
structure Peer where
  role   : Nat
  priority : Nat
  master : Option Nat
  handover : Nat
  view   : Nat
  serial : Nat
deriving DecidableEq, Repr

/-- What the last accepted stack time message gave (R446): the error of A and of B, their generations, the active domain and O. -/
structure Upstream where
  errA : Int
  errB : Int
  genA : Nat
  genB : Nat
  active : Nat
  off  : Int
deriving DecidableEq, Repr

/-- A dictionary request that the master has relayed and whose response it awaits (R631): the CLIENT it chose, the requester, the member, the operation's code and SEQ, and
for a write the object. -/
structure Relayed where
  client : Nat
  who    : Requester
  member : Nat
  op     : Nat
  seq    : Nat
  key    : Nat
  val    : Nat
deriving DecidableEq, Repr

/-- A dictionary operation as its requester asks for it (R110); AUTH and FRESH of a SESSION_PROVE (R138). -/
structure Ask where
  who   : Requester
  op    : Nat
  idx   : Nat := 0
  sub   : Nat := 0
  data  : Bytes := []
  auth  : Bool := false
  fresh : Nat := 0
deriving DecidableEq, Repr

/-- A port's transmit timestamp queue (R460 to R462): entries of FRAME_ID, TS64 and tag, oldest first, and the sticky flag. -/
structure Tsq where
  entries : List (Nat × Nat × Nat) := []
  ovf     : Bool := false
deriving DecidableEq, Repr

/-- A port's path detector beside its objects (R470): the sum and count of LEARN, the run of outliers, the PATH_LEARN in force. -/
structure PathDet where
  sum   : Int := 0
  n     : Nat := 0
  run   : Nat := 0
  learn : Nat := 16
deriving DecidableEq, Repr

/-- What a counting window of a port has counted (R536). -/
structure CntWin where
  rxFrames  : Nat := 0
  rxBytes   : Nat := 0
  txFrames  : Nat := 0
  txBytes   : Nat := 0
deriving DecidableEq, Repr

/-- A port's windows (R536 to R539), instants in units of L: the start of the next window to publish, the window lengths in µs by the boundary from which each
holds, the next record's number, and the windows that have counted something, by their start. -/
structure CntWins where
  next  : Nat := 0
  grids : List (Nat × Nat) := [(0, 1000)]
  seq   : Nat := 0
  wins  : Tbl CntWin := []
deriving DecidableEq, Repr

/-- The live state of the proof store (R544 to R546): lifetime counters, histogram bins by word, and the newest fault records. -/
structure Proof where
  life  : Tbl Nat := []
  hist  : Tbl Nat := []
  log   : List Bytes := []
deriving DecidableEq, Repr

/-- A copy of the live state as an image tells of it (R544): CAUSE, LC_STATE, TAG, SEQ and WALL. -/
structure PsImage where
  cause : Nat
  lc    : Nat
  tag   : Nat
  seq   : Nat
  wall  : Nat
  copy  : Proof
deriving DecidableEq, Repr


/-- Where a frame entered (R58, R277): a port, an AFI channel, a transmit ring served by an engine, or a span port of the stack. -/
inductive FrameSrc where
  | port (p : Nat)
  | afi (t ch : Nat)
  | engine (t e ring : Nat)
  | stack (p : Nat)
deriving DecidableEq, Repr

/-- Where a copy goes (R289, R627): a queue of a port, an AFI channel, a receive ring, the pipe's own host feed again, or another member. -/
inductive Dst where
  | port (p q : Nat)
  | afi (t ch : Nat)
  | ring (t r : Nat)
  | recirc
deriving DecidableEq, Repr

/-- Where a copy's bytes stand (R273, R40): on a col link from a tile, at its egress tile before admission, in its queue, selected or being
sent on a port, or being delivered. -/
inductive Place where
  | link (t k : Nat)
  | arrived
  | queued
  | selected
  | sending
  | delivering
deriving DecidableEq, Repr

/-- One copy of a frame: destination, place, the col links it has taken as tile and link, whether it is the original, a processor copy, a mirror copy or an unmatched frame
(0 to 3), the bytes it carries, its colour, its pool (0 minimum, 1 shared, 2 headroom), when it was admitted, whether its last segment is in
the Basin, whether its queue was empty at admission, and whether it must end bad. -/
structure Copy where
  dst    : Dst
  place  : Place
  path   : List (Nat × Nat) := []
  kind   : Nat := 0
  trunc  : Nat := 0
  colour : Nat := 0
  pool   : Nat := 0
  cells  : Nat := 0
  admitAt : Nat := 0
  complete : Bool := false
  alone  : Bool := false
  bad    : Bool := false
  /-- MATCH_ID of the action that made it (R58, R289). -/
  matchId : Nat := 0
  /-- The col links, as tile and link, that its bytes have not wholly passed (R40, R42). -/
  staged : List (Nat × Nat) := []
deriving DecidableEq, Repr

/-- The descriptor of a transmit ring that a frame came from, for its egress record (R501, R511): index, generation, queue, and whether
EGREC or LT asks for the record. -/
structure TxDesc where
  idx : Nat
  gen : Nat
  cq  : Nat
  egress : Bool
deriving DecidableEq, Repr

/-- What a host-fed frame carries (R60, R488): FRAME_ID, egress named by the sender, launch time, timestamp request, offloads, fence; and
the descriptor of a transmit ring it came from. -/
structure HostMeta where
  frameId : Nat := 0
  dstPort : Nat := 0xFF
  queue   : Nat := 0
  launch  : Option Nat := none
  tsReq   : Bool := false
  csum    : Bool := false
  ptpCf   : Bool := false
  fence   : Nat := 0
  desc    : Option TxDesc := none
deriving DecidableEq, Repr

/-- The captures of an instant in A, B, L and the presented time, with their tags (R453, R457). -/
structure Capture where
  vals : List Nat := [0, 0, 0, 0]
  tags : List Nat := [0, 0, 0, 0]
deriving DecidableEq, Repr

/-- What a stack header told of a frame (R619, R628): the member and port it entered the stack on, the span links it has crossed, TC, and the header itself. -/
structure StackOrigin where
  member : Nat
  port   : Nat
  hops   : Nat
  tc     : Bool
  hdr    : Bytes
deriving DecidableEq, Repr

/-- A frame in Clemal: its bytes without FCS, where it came from, its captures, its version slot and pass, and what its pipe has decided. -/
structure Frame where
  data   : Bytes
  src    : FrameSrc
  /-- The number of its arrival among all frames, renewed as it re-enters its pipe (R44). -/
  seq    : Nat := 0
  /-- Its lane until its lookup completes (R30); a segment of it stands ready and has found no word position (R31, R32). -/
  lane   : Option Nat := none
  wants  : Bool := false
  hm     : HostMeta := {}
  cap    : Capture := {}
  /-- Assigned to a lane; its version slot; counted in flight under it (R312, R315). -/
  laned  : Bool := false
  slot   : Nat := 0
  flying : Bool := false
  pass   : Nat := 0
  prev   : Nat := 0
  /-- The action of this pass is resolved; recirculation is due; the last segment has reached the pipe. -/
  resolved : Bool := false
  recirc : Bool := false
  lastSeg : Bool := false
  /-- Reception has ended; the frame was discarded or must end bad. -/
  ended  : Bool := false
  bad    : Bool := false
  /-- Parse outcome as decided and REQ (R269, R272); priority, colour, TS_SEL and MATCH_ID of the action (R290, R329, R457). -/
  outcome : Nat := 0
  req    : Nat := 0
  prio   : Nat := 0
  colour : Nat := 0
  tsSel  : Nat := 0
  matchId : Nat := 0
  /-- The lookup decided the frame, or its lookup was skipped, malformed or unmatched (R457). -/
  looked : Bool := false
  /-- A meter's pending charge: tile, policer, kind and colour at the decision (R329, R334). -/
  charge : Option (Nat × Nat × Nat × Nat) := none
  /-- The number of the next copy. -/
  nextH  : Nat := 1
  /-- Its parse (R262). -/
  walk   : Walk := {}
  /-- What the stack header told of it (R628). -/
  origin : Option StackOrigin := none
  /-- TC_ENABLE of its ingress port as its first byte was captured, with BOARD_RX_PS and PEER_DELAY in units (R468, R480). -/
  tcIn   : Bool := false
  boardRx : Int := 0
  peerIn : Int := 0
  /-- The pattern filters that match its bytes under the patterns that stood when it began (R253, R260). -/
  wakeHit : Nat := 0
  /-- Its length on the wire, and MAX_FRAME + 4t and CSUM_RX as its first byte arrived (R235, R237, R251); the outcome for which the port cut it
  short: 10 oversize, 11 jabber. -/
  wire   : Nat := 0
  limit  : Nat := 0
  csumRx : Bool := false
  cut    : Nat := 0
deriving DecidableEq, Repr

/-- The datapath word of a pipe in its present cycle (R28, R30, R31): the cycle; the positions that first and last segments of port frames and of host frames
have taken, and those that other port segments take; the lanes that took a start; whether the cycle is counted in HOST_FEED_WAIT; the port slot served last; and the
positions that port segments took in the cycle before. -/
structure PipeWord where
  cycle  : Nat := 0
  port   : Nat := 0
  host   : Nat := 0
  middle : Nat := 0
  starts : List Nat := []
  waited : Bool := false
  last   : Nat := 17
  before : Nat := 0
deriving DecidableEq, Repr

/-- The cells a frame holds in a Basin (R338, R339, R348): the bank of each, the pool charged, and the copies that hold them. -/
structure BasinHold where
  banks : List Nat := []
  pool  : Nat := 0
  users : List Nat := []
deriving DecidableEq, Repr

/-- The statistics of a queue and its occupancy (R346, R351 to R355). -/
structure QStat where
  depth  : Nat := 0
  shared : Nat := 0
  depthMax : Nat := 0
  /-- The instant of the last clear (R354). -/
  clearedAt : Option Nat := none
  /-- Frames admitted and dropped by colour, and lossless frames refused. -/
  admitted : List Nat := [0, 0, 0]
  drop   : List Nat := [0, 0, 0]
  headroom : Nat := 0
  samples : Nat := 0
  depthHist : Tbl Nat := []
  delayHist : Tbl Nat := []
  delayMax : Nat := 0
deriving DecidableEq, Repr

/-- A policer (R336) beside its number: the fields written, CIR and PIR in force since the last refill, buckets and counts. `epoch` counts
changes of KIND, which drop pending charges (R334). -/
structure Policer where
  kind  : Nat := 0
  src   : Nat := 0
  aware : Nat := 0
  overhead : Int := 0
  cir   : Nat := 0
  pir   : Nat := 0
  cirNow : Nat := 0
  pirNow : Nat := 0
  cbs   : Nat := 0
  ebs   : Nat := 0
  tc    : Int := 0
  te    : Int := 0
  green : Nat := 0
  yellow : Nat := 0
  red   : Nat := 0
  bytes : Nat := 0
  epoch : Nat := 0
  /-- The record holds an uncorrectable error (R586). -/
  bad   : Bool := false
deriving DecidableEq, Repr

/-- An exact-match entry (R281, R284): profile, key, action, the version slots in which it is visible, and whether it holds an uncorrectable
error (R586). -/
structure EmEntry where
  profile : Nat
  key     : Bytes
  action  : Nat
  slots   : List Nat
  bad     : Bool := false
deriving DecidableEq, Repr

/-- A ternary rule's image in one version slot (R286, R311). -/
structure TcRule where
  profile : Nat
  action  : Nat
  value   : Bytes
  mask    : Bytes
deriving DecidableEq, Repr

/-- The etch in progress (R298 to R309): its owner, what it has staged with the order of the table operations (tile, exact-match), and from an accepted commit its slot,
the tiles still loading, and the switch instant in L once they are done. -/
structure Etch where
  owner  : Requester
  ems    : List (Nat × Bytes) := []
  tcs    : List (Nat × Bytes) := []
  order  : List (Nat × Bool) := []
  sets   : List (Nat × Nat) := []
  lastAt : Nat
  slot   : Nat := 0
  left   : List Nat := []
  part   : List Nat := []
  /-- Tiles that have left RUN while it stood open (R310). -/
  missed : List Nat := []
  switchAt : Option Nat := none
deriving DecidableEq, Repr

/-- A list of gates: entries of gate mask and interval in ns (R384, R385). -/
abbrev GateList := List (Nat × Nat)

/-- A pending hatch list (R392, R393): its base, cycle and start in ns of the active domain, its ADMIN_LENGTH, its entries fitted to the cycle and
its four list objects. -/
structure PendList where
  base  : Nat
  cycle : Nat
  count : Nat
  entries : GateList
  parts : List Nat
  start : Nat
deriving DecidableEq, Repr

/-- The frame in transmission on a port (R359): its copy, queue, the instant its first byte went, the start as gates and launch times refer to
it, the bytes it sends, whether its shapers are charged (R372), and what the Burin kept of it as head. -/
structure Tx where
  fid   : Nat
  h     : Nat
  q     : Nat
  began : Nat
  ref   : Nat
  data  : Bytes
  charged : Bool
  head  : Head
  /-- MAX_FRAME + 4t when it started (R236, R237); its start in L, for its window (R537). -/
  limit : Nat
  startL : Nat
deriving DecidableEq, Repr

/-- The Burin's state of a port beside its queues (R359, R369): its shaper, the frame in transmission, the operating and the pending list. -/
structure Burin where
  tokens : Int := 131072000
  /-- The instant of the last refill, which comes before all else of its cycle (R374, R376). -/
  refilledAt : Option Nat := none
  held   : Nat := 0
  tx     : Option Tx := none
  oper   : Option GateList := none
  pend   : Option PendList := none
  /-- PAUSE frames deferred behind the launch frame in the slot (R404). -/
  deferred : Bool := false
deriving DecidableEq, Repr

/-- What became of a frame from a transmit ring (R501): its ring and descriptor, and why its fate is known: 0 sent, 1 sent late, 2 dropped late,
3 far, 4 refused admission, 5 fenced, 6 any other discard, 7 delivered to an AFI channel or a receive ring; its FRAME_ID; the transmit timestamp and tag of a frame that was sent. -/
structure Fate where
  t     : Nat
  ring  : Nat
  desc  : TxDesc
  frameId : Nat
  cause : Nat
  ts    : Nat
  tag   : Nat
deriving DecidableEq, Repr

/-- What a ring's engine is at (R486 to R493, R512): a transmit frame, a copy, or a delivery into a receive ring. -/
inductive WorkKind where
  | frame | copy | deliver
deriving DecidableEq, Repr

/-- A record that is due once a read-back returns (R503): its status, and its 32 bytes without PHASE. -/
structure DueRec where
  status : Nat
  data   : Bytes
deriving DecidableEq, Repr

/-- The descriptor or frame a ring's engine is working on. -/
structure Work where
  kind  : WorkKind
  /-- The descriptors of the frame, or the copy's one: index and bytes; for a delivery the buffers used so far (R487 to R492). -/
  descs : List (Nat × Bytes)
  /-- GEN and CQ at its start (R511). -/
  gen   : Nat
  cq    : Nat
  /-- The reshuffle program sampled at the start (R512). -/
  prog  : Nat := 0
  /-- Bytes read, and the number of the byte that the first byte of `buf` is (R497). -/
  moved : Nat := 0
  wrote : Nat := 0
  /-- A frame's bytes staged; of a copy the bytes read and not yet written, and those of a block of planes not complete (R489, R513). -/
  buf   : Bytes := []
  raw   : Bytes := []
  /-- The burst in progress: its length in bytes; the data of its read. -/
  burst : Option Nat := none
  got   : Option Bytes := none
  /-- The last address written, and the record that waits for the read-back. -/
  lastWrite : Option Nat := none
  due   : Option DueRec := none
  /-- The frame and the copy under delivery. -/
  fid   : Nat := 0
  h     : Nat := 0
  /-- Stops at the end of its burst with this status: 1 ABORTED, 2 RETRACTED (R506, R508); 0 runs on. -/
  stop  : Nat := 0
deriving DecidableEq, Repr

/-- A ring (R483 to R522), transmit or receive. -/
structure Ring where
  /-- 0 STOPPED, 1 RUNNING, 2 FAILED; FAIL_CAUSE. -/
  st    : Nat := 0
  fail  : Nat := 0
  head  : Nat := 0
  tail  : Nat := 0
  armed : Bool := false
  /-- The instant of the arm (R510). -/
  armedAt : Nat := 0
  activeGen : Nat := 0
  shadowGen : Nat := 0
  bytes : Nat := 0
  descs : Nat := 0
  /-- RING_CFG; the active and the shadow set, as RING_SHADOW lays them out (R521). -/
  cfg    : Nat := 64 * 2 ^ 64 + 2048 * 2 ^ 96
  active : Nat := 2 ^ 32
  shadow : Nat := 2 ^ 32
  /-- Descriptors fetched and not started, oldest first; the next index to fetch; the fetch in progress: first index and how many of its
  descriptors are still posted (R496, R506). -/
  fetched : List (Nat × Bytes) := []
  fetchAt : Nat := 0
  fetching : Option (Nat × Nat) := none
  work  : Option Work := none
  /-- An abort is in progress; a descriptor was in progress when it began; a RESET is held (R485, R508). -/
  abort : Bool := false
  hadWork : Bool := false
  resetHeld : Bool := false
  /-- The TAIL of a retraction that waits for the descriptor in progress; indices that a retraction cut (R506, R507). -/
  backTo : Option Nat := none
  cuts  : List Nat := []
  /-- The last descriptor finished without a covering record: index and bytes (R511). -/
  uncovered : Option (Nat × Nat) := none
  /-- Bytes the ring may still start in its round (R486). -/
  deficit : Nat := 0
deriving DecidableEq, Repr

/-- A completion queue (R498 to R505, R522): CQ_CFG, 0 OFF, 1 ON, 2 FAILED; the records written since ON and since reset; when its last message was sent,
and whether a record waits for one. -/
structure Cq where
  cfg     : Nat := 1024 * 2 ^ 64
  st      : Nat := 0
  producer : Nat := 0
  records : Nat := 0
  lastMsg : Option Nat := none
  owed    : Bool := false
deriving DecidableEq, Repr


/-- The reasons a command stops with a fault: there are none, since the spec gives every command an effect. No command raises one, so the type is safe. -/
inductive Fault where
deriving DecidableEq, Repr

/-- The reasons a command is refused. -/
inductive Refusal where
  /-- A row of the table whose meaning is not written. Safe. -/
  | notModelled (mnemonic : String)
deriving DecidableEq, Repr

/-- The machine. -/
structure State where
  /-- The commands that wait, first in, first out. -/
  pending : List Instr := []
  /-- The instant of the last command, and the instant at which domain L began (R416), in units of 2^-16 ns. -/
  now     : Nat := 0
  lStart  : Nat := 0
  /-- The draws of free values made so far; the model's own field (assumption 3). -/
  free    : Nat := 0
  variant : Variant := .clm144
  /-- The dictionary's objects, by key; an unlisted object reads as its default. -/
  objs    : Tbl Nat := []
  /-- The value in force of an object whose last write has not taken effect yet (R13). -/
  inForce : Tbl (Option Nat) := []
  /-- The pairs of complement storage whose halves are not complementary (R584). -/
  pairBad : List PairName := []
  /-- What has left Clemal, newest first (assumption 4). -/
  out     : List Out := []
  /-- Package inputs and outputs (R101). -/
  pwrOk   : Bool := true
  porstN  : Bool := false
  serviceLow : Bool := false
  asleep  : Bool := false
  fbStb   : Bool := true
  ppsOut  : Option Nat := none
  /-- The instant of the last second boundary that PPS_OUT was driven for (R439). -/
  ppsLast : Option Nat := none
  /-- Entry to package sleep in progress, and a WAKE frame received during it (R572, R573). -/
  sleepEntry : Bool := false
  wakeOwed : Bool := false
  /-- The instant of the rise that STARTUP_US counts from (R640); when package sleep began; lifetime counts made while the live state of the proof store is not
  loaded, which join it at its load (R545, R549). -/
  porstAt : Nat := 0
  sleepAt : Nat := 0
  lifeOwed : Tbl Nat := []
  tiles   : Tbl Tile := []
  ports   : Tbl Port := []
  lanes   : Tbl Lane := []
  domA    : Domain := {}
  domB    : Domain := {}
  /-- Replicas, by 4 times the replica's number plus the domain. -/
  replicas : Tbl Replica := []
  /-- A re-epoch that is pending: domain, instant of L and new value, in units (R436). -/
  reepoch : Option (Nat × Nat × Nat) := none
  /-- P at the last decision, and the instant of L of that decision (R432, R584). -/
  pLast   : Nat := 0
  pLastAt : Nat := 0
  /-- The last qualified PPS_IN edge; REF10M windows bad and good in a row (R442, R443). -/
  ppsEdge : Option Nat := none
  refBad  : Nat := 0
  /-- The end of the last window of REF10M_IN (R443). -/
  refAt   : Option Nat := none
  refGood : Nat := 0
  /-- The last stack time message accepted (R447); commas sent and received by span port, newest first: phase and the times in A
  and B (R446). -/
  upstreamAt : Nat := 0
  commaTx : Tbl (List (Nat × Nat × Nat)) := []
  commaRx : Tbl (List (Nat × Nat × Nat)) := []
  /-- Stacking (R620 to R626): one more than the instant of the last HELLO by 1024 times the origin plus 4 times the span port plus HOPS; the lowest HOPS a copy was
  forwarded with (8: none) and the instant, by 65536 times the origin plus SEQ; what the HELLO records of each origin say; the next SEQ and one more than the
  instant of the last HELLO sent; when FORMING began; when the last election was held; the member named for a hand-over; a join whose re-epoch is still to come,
  and what the upstream's last message gave. -/
  helloAt : Tbl Nat := []
  helloSeen : Tbl (Nat × Nat) := []
  peers   : Tbl (Option Peer) := []
  helloSeq : Nat := 0
  helloSent : Nat := 0
  formingAt : Nat := 0
  electedAt : Option Nat := none
  handover : Option Nat := none
  joinOwed : Bool := false
  upstream : Option Upstream := none
  /-- Requests relayed over the stack, and the SEQ of the last; the requester each CLIENT stands for, from 1; requesters with an open group (false) or etch
  (true) on another member (R631). -/
  relayed : List Relayed := []
  relayNext : Nat := 0
  relayIds : List Requester := []
  abroad  : List (Requester × Nat × Bool) := []
  /-- Relayed requests of a master that this member serves (R631), and operations held while a control block is updated, in order of arrival (R610). -/
  relayIn : List InbandRequest := []
  heldOps : List Ask := []
  tsqs    : Tbl Tsq := []
  paths   : Tbl PathDet := []
  /-- Key slots (R121), sessions, exchanges, groups, requests and responses of the dictionary's routes. -/
  keys    : Tbl Bytes := []
  challenges : List (Requester × Challenge) := []
  sessions : List (Requester × Session) := []
  groups  : List Group := []
  responses : List (Requester × Response) := []
  /-- Writes whose effect waits until the response to them is sent: who wrote, and the object (R122, R146, R572). -/
  afterResponse : List (Requester × Nat) := []
  zwReqs  : List ZwRequest := []
  ibReqs  : List InbandRequest := []
  /-- Selections and probes of each requester (R285, R288, R336, R355, R550): object key and value. -/
  selects : List (Requester × Nat × Bytes) := []
  /-- The HEARTBEAT data last sent, and when (R133). -/
  hbLast  : Option Bytes := none
  hbAt    : Nat := 0
  lc      : Option LcChange := none
  /-- The lifecycle state as LC_STATE[2:0] shows it once the start-up is over; a fatal mismatch of both pairs (R584, R606). -/
  lcFatal : Bool := false
  /-- The firmware store: the staged image's bytes; one more than the version of the running image once an update or a fallback has replaced the image the part came
  with, else 0; an update in progress (R609 to R611). -/
  fwStore : Tbl Byte := []
  fwRunning : Nat := 0
  fwUpdate : Option FwUpdate := none
  /-- The signature of the staged image is being checked. -/
  fwVerifying : Bool := false
  /-- The proof store (R544 to R550): live state; the images in its slots; the checkpoint being written; the causes of those that wait; whether a host request is
  held; when the last host-requested and the last checkpoint were taken; the read copy of source 8, and the draw that its header bytes start from. -/
  proof   : Proof := {}
  psSlots : Tbl (Option PsImage) := []
  psNow   : Option PsImage := none
  psWait  : List Nat := []
  psHeld  : Bool := false
  psHostAt : Option Nat := none
  psLastAt : Nat := 0
  /-- The end of the last operating second that the histograms sampled (R546). -/
  psSampleAt : Nat := 0
  psCopy  : Proof := {}
  psCopyAt : Nat := 0
  /-- Wrap flags of counters, by key: the instant at which a set flag was set (R531, R535); counter pages granted so far, by 8 times tile plus page (R543). -/
  wraps   : Tbl (Option Nat) := []
  mapGen  : Tbl Nat := []
  windows : Tbl CntWins := []
  /-- Egress queues, by 16 times the port plus the queue. -/
  queues  : Tbl Queue := []
  burins  : Tbl Burin := []
  /-- Frames by number; copies by 64 times the number plus the copy; cells by 8 times the number plus the tile. -/
  frames  : Tbl (Option Frame) := []
  /-- Frames that have arrived so far (R44), and the datapath words by 2 times tile plus pipe (R28). -/
  arrivals : Nat := 0
  words   : Tbl PipeWord := []
  copies  : Tbl (Option Copy) := []
  holds   : Tbl BasinHold := []
  /-- Per tile: the bank allocated last plus one, and cells used per bank (by 64 times tile plus bank) (R339). -/
  bankAt  : Tbl Nat := []
  bankUsed : Tbl Nat := []
  /-- Fates of ring frames that wait for their egress records (R501). -/
  fates   : List Fate := []
  /-- Rings by 4096 times tile plus ring, plus 2048 for a receive ring; completion queues by 1024 times tile plus queue; by 16 times tile plus engine, one more
  than the ring an engine served last (R482, R486). -/
  rings   : Tbl Ring := []
  cqs     : Tbl Cq := []
  engineAt : Tbl Nat := []
  /-- Queue statistics, by 2^16 times tile plus the number of R355; AFI host queues (2 tile + channel) and receive rings' queues
  (2048 tile + ring). -/
  qstats  : Tbl QStat := []
  afiQueues : Tbl (List (Nat × Nat)) := []
  ringQueues : Tbl (List (Nat × Nat)) := []
  /-- Policers, by 16384 times tile plus number; `none` reads as the state after reset (R323). -/
  policers : Tbl (Option Policer) := []
  /-- Exact-match entries by tile; ternary images by ((2 tile + pipe) 16384 + rule) 4 + slot, and hits by the same without the slot;
  the other ETCH objects by 4 key + slot where they differ from the default. -/
  em      : Tbl (List EmEntry) := []
  tc      : Tbl (Option TcRule) := []
  tcHits  : Tbl Nat := []
  /-- Images of ternary rules that hold an uncorrectable error, by the same numbers as the images (R586). -/
  tcBad   : Tbl Bool := []
  etchObjs : Tbl Nat := []
  etch    : Option Etch := none
  /-- Frames in flight by 4 tile + slot (R315); since when a slot drains and whether ETCH_STUCK was raised for it (R318). -/
  inflight : Tbl Nat := []
  drainAt : Tbl (Nat × Bool) := []
deriving DecidableEq, Repr

/-- The machine right after package reset: PKG_PWR_OK high, PKG_PORST_N low, every object at its default, nothing waiting. -/
def State.reset : State := {}

end Sys2Proof.Machine
end

