-- ==== Sys2Proof/Machine/Ops.lean ====
section
/-! DEFINITION. The named operations over the state that every chapter uses: reading and writing an object, values not yet in
force, counters and their wrap flags, units of a table, instants and time values, domains, replicas and the presented time, free values, and what
leaves Clemal. -/

namespace Sys2Proof.Machine

/-! Objects. -/

/-- The value an object holds. -/
def State.obj (s : State) (key : Nat) : Nat := tget (objDflt s.variant key) s.objs key

/-- The state after an object takes a value. -/
def State.setObj (s : State) (key v : Nat) : State := { s with objs := tput (objDflt s.variant key) s.objs key v }

/-- A BOOL object. -/
def State.flag (s : State) (key : Nat) : Bool := s.obj key != 0

/-- The signed value an object of `w` bits holds (R11). -/
def State.objS (s : State) (w key : Nat) : Int := toS w (s.obj key)

/-- The state after an object of `w` bits takes a signed value. -/
def State.setObjS (s : State) (w key : Nat) (v : Int) : State := s.setObj key (ofS w v)

/-- Bit `i` of an object set to `b`. -/
def State.setObjBit (s : State) (key i : Nat) (b : Bool) : State := s.setObj key (setBit (s.obj key) i b)

/-- A U64 count advanced by `n`, modulo 2^64 (R523). -/
def State.add (s : State) (key n : Nat) : State := s.setObj key ((s.obj key + n) % 2 ^ 64)

/-- A U64 count advanced by one. -/
def State.bump (s : State) (key : Nat) : State := s.add key 1

/-- A U32 count advanced by one; past its largest value it begins again at 0 (assumption 5). -/
def State.bump32 (s : State) (key : Nat) : State := s.setObj key ((s.obj key + 1) % 2 ^ 32)

/-- The value of an object that is in force: the old one while a write waits for its event (R13). -/
def State.force (s : State) (key : Nat) : Nat := (tget none s.inForce key).getD (s.obj key)

/-- A write whose effect waits for an event: the object reads the new value, and the value in force stays (R13). -/
def State.writeLater (s : State) (key v : Nat) : State :=
  let old := s.force key
  ({ s with inForce := tput none s.inForce key (some old) }).setObj key v

/-- The value of an object comes into force. -/
def State.adopt (s : State) (key : Nat) : State := { s with inForce := tput none s.inForce key none }

/-- Every value of an index comes into force. -/
def State.adoptIndex (s : State) (idx : Nat) : State := { s with inForce := tdrop (fun k => k / 256 == idx) s.inForce }

/-! Units. -/

/-- Tile `t`. -/
def State.tile (s : State) (t : Nat) : Tile := tget {} s.tiles t

/-- Tile `t` changed. -/
def State.modTile (s : State) (t : Nat) (f : Tile → Tile) : State := { s with tiles := tmod {} s.tiles t f }

/-- Port `p`. -/
def State.port (s : State) (p : Nat) : Port := tget {} s.ports p

/-- Port `p` changed. -/
def State.modPort (s : State) (p : Nat) (f : Port → Port) : State := { s with ports := tmod {} s.ports p f }

/-- Lane `l`. -/
def State.lane (s : State) (l : Nat) : Lane := tget {} s.lanes l

/-- Lane `l` changed. -/
def State.modLane (s : State) (l : Nat) (f : Lane → Lane) : State := { s with lanes := tmod {} s.lanes l f }

/-- The master of A (0) or B. -/
def State.dom (s : State) (d : Nat) : Domain := if d = 0 then s.domA else s.domB

/-- The master of A (0) or B changed. -/
def State.modDom (s : State) (d : Nat) (f : Domain → Domain) : State :=
  if d = 0 then { s with domA := f s.domA } else { s with domB := f s.domB }

/-- Replica `rep` of domain `d`: `rep` is the tile, or 8 plus the port slot (R426). -/
def State.replica (s : State) (rep d : Nat) : Replica := tget {} s.replicas (4 * rep + d)

/-- A replica changed. -/
def State.modReplica (s : State) (rep d : Nat) (f : Replica → Replica) : State :=
  { s with replicas := tmod {} s.replicas (4 * rep + d) f }

/-- AFI channel `ch` of a tile. -/
def Tile.afi (x : Tile) (ch : Nat) : Afi := if ch = 0 then x.afi0 else x.afi1

/-- AFI channel `ch` of a tile changed. -/
def Tile.modAfi (x : Tile) (ch : Nat) (f : Afi → Afi) : Tile :=
  if ch = 0 then { x with afi0 := f x.afi0 } else { x with afi1 := f x.afi1 }

/-- AFI channel `ch` of tile `t`. -/
def State.afi (s : State) (t ch : Nat) : Afi := (s.tile t).afi ch

/-- AFI channel `ch` of tile `t` changed. -/
def State.modAfi (s : State) (t ch : Nat) (f : Afi → Afi) : State := s.modTile t (fun x => x.modAfi ch f)

/-- The control window of tile `t` changed. -/
def State.modWin (s : State) (t : Nat) (f : Window → Window) : State := s.modTile t (fun x => { x with win := f x.win })

/-- The same change to every number of a list, in order. -/
def State.each (s : State) (l : List Nat) (f : Nat → State → State) : State := l.foldl (fun a i => f i a) s

/-- Tiles fitted. -/
def State.tileCount (s : State) : Nat := s.variant.tiles

/-- The numbers of the fitted tiles. -/
def State.tileList (s : State) : List Nat := List.range s.tileCount

/-- The tile of a global port or lane (R52). -/
def tileOf (g : Nat) : Nat := g / 18

/-- The global ports of a tile. -/
def portsOf (t : Nat) : List Nat := (List.range 18).map (fun k => 18 * t + k)

/-- The pipe that serves a port slot (R26). -/
def pipeOf (p : Nat) : Nat := if p % 18 ≤ 7 || p % 18 == 16 then 0 else 1

/-- The neighbour of a tile over col link `k` (R35). -/
def neighbour (t k : Nat) : Nat := if bit t k then t - 2 ^ k else t + 2 ^ k

/-- Something leaves Clemal. -/
def State.emit (s : State) (o : Out) : State := { s with out := o :: s.out }

/-- A free value of `w` bits, and the state after the draw (assumption 3). -/
def State.draw (s : State) (w : Nat) : Nat × State := (Config.freeValue s.free % 2 ^ w, { s with free := s.free + 1 })

/-! Instants and time values. -/

/-- One nanosecond, one microsecond and one second in units of 2^-16 ns (R413). -/
def nsU : Nat := 65536
/-- One microsecond in units. -/
def usU : Nat := 65536000
/-- One millisecond in units. -/
def msU : Nat := 65536000000
/-- One second in units. -/
def secU : Nat := 65536000000000

/-- Domain L at the last command (R416). -/
def State.L (s : State) : Nat := s.now - s.lStart

/-- Whether `len` units have passed since an instant. -/
def State.passed (s : State) (since len : Nat) : Bool := since + len ≤ s.now

/-- Whether L stands at a whole microsecond. -/
def State.wholeUs (s : State) : Bool := s.L % usU == 0

/-- A refill of a tile's policers or limiters at a whole microsecond of L, once in its instant and before whatever else falls in it (R293, R324, R333). -/
def State.refillOnce (s : State) (t k : Nat) (refill : State → State) : State :=
  if !s.wholeUs || tget 0 (s.tile t).refilled k == s.now + 1 then s
  else (refill s).modTile t (fun x => { x with refilled := tput 0 x.refilled k (s.now + 1) })

/-- A count of units as a TS96 (R409). -/
def ts96 (u : Nat) : Nat := u / secU % 2 ^ 48 * 2 ^ 48 + u % secU

/-- A TS96 as a count of units (R409). -/
def unitsOf96 (v : Nat) : Nat := v / 2 ^ 48 * secU + v % 2 ^ 46

/-- A count of units as a TS64 (R410, R412). -/
def ts64 (u : Nat) : Nat := u / secU % 2 ^ 32 * 2 ^ 32 + u % secU / 2 ^ 14

/-- A TS64 as a count of units (R410). -/
def unitsOf64 (v : Nat) : Nat := v / 2 ^ 32 * secU + v % 2 ^ 32 * 2 ^ 14

/-- Whether a TS96 is no reserved encoding (R411). -/
def okTs96 (v : Nat) : Bool := v % 2 ^ 48 / 2 ^ 16 < 1000000000

/-- Whether a TS64 is no reserved encoding (R411). -/
def okTs64 (v : Nat) : Bool := v % 2 ^ 32 / 4 < 1000000000

/-- The modulus of a time value: 2^48 seconds (R409). -/
def timeMod : Nat := 2 ^ 48 * secU

/-- A signed count of units as a time value. -/
def wrapTime (i : Int) : Nat := (i % (timeMod : Int)).toNat

/-- The value of the master of A or B at an instant of L: its last tick and the time since (R419; assumption 6). -/
def Domain.at (d : Domain) (l : Nat) : Nat := d.time + (l - d.tickAt)

/-- The value of a replica at an instant of L (R428; assumption 6). -/
def Replica.at (r : Replica) (l : Nat) : Nat := r.time + (l - r.tickAt)

/-- The value of domain `d` (0 A, 1 B, 2 L) in T0 at the last command. -/
def State.masterNow (s : State) (d : Nat) : Nat := if d = 2 then s.L else (s.dom d).at s.L

/-- The value of domain `d` that replica `rep` gives; T0's tile replicas are the masters (R426). -/
def State.timeAt (s : State) (rep d : Nat) : Nat :=
  if rep = 0 then s.masterNow d else (s.replica rep d).at s.L

/-- The active domain (R417). -/
def State.active (s : State) : Nat := s.obj O.ACTIVE_DOMAIN

/-- The presentation offset O (R417). -/
def State.offsetO (s : State) : Int := s.objS 64 O.PRES_OFFSET

/-- The presented time that a replica gives: P = t(X) + O (R417). -/
def State.presented (s : State) (rep : Nat) : Nat := wrapTime ((s.timeAt rep s.active : Int) + s.offsetO)

/-- The state of domain A or B: 0 UNSET, 1 LOCKED, 2 LOST (R423). -/
def State.domState (s : State) (d : Nat) : Nat := s.obj (O.DOM_STATE d)

/-- Whether replica `rep` of domain `d` is LOCKED; T0's tile replicas always count as LOCKED in a standalone package or a master, and a
member's copies follow their servo (R415, R444). -/
def State.repLocked (s : State) (rep d : Nat) : Bool :=
  if rep = 0 then d == 2 || (s.dom d).rstate == 1
  else (s.replica rep d).running && (s.replica rep d).state == 1

/-- The tag byte of a value of domain `d` from a replica (R414, R415). -/
def State.tagOf (s : State) (rep d : Nat) : Nat :=
  let hold := if d = 2 then !s.repLocked rep 2
    else s.domState d != 1 || !s.repLocked rep d || s.pairBad.contains (.replicaActive rep)
  d * 64 + (if d = 2 then 0 else s.obj (O.DOM_GEN d) % 4) * 16 + b2n hold * 8

/-- The tag byte of a presented time from a replica (R415). -/
def State.tagP (s : State) (rep : Nat) : Nat := s.tagOf rep s.active + b2n (s.offsetO != 0) * 4

/-- The value and tag that TS_SEL or TX_TS_SEL names: 0 the presented time, 1 A, 2 B, 3 L (R457, R460). -/
def State.selected (s : State) (rep sel : Nat) : Nat × Nat :=
  if sel = 0 then (s.presented rep, s.tagP rep) else (s.timeAt rep (sel - 1), s.tagOf rep (sel - 1))

/-! Counters. -/

/-- A counter of the counter unit advanced by `n`; passing 2^64 - 1 sets its wrap flag (R523, R531). -/
def State.count (s : State) (key n : Nat) : State :=
  let v := s.obj key + n
  let s1 := s.setObj key (v % 2 ^ 64)
  if v < 2 ^ 64 ∨ (tget none s.wraps key).isSome then s1 else { s1 with wraps := tput none s1.wraps key (some s.now) }

/-- Counter `i` of a port's set advanced by `n` (R527). -/
def State.pcnt (s : State) (p i n : Nat) : State := s.count (O.PCNT p i) n

/-- COND, SOURCE, SOURCE_ID and THRESHOLD of event counter `n` (R528). -/
def State.evcCfg (s : State) (t n : Nat) : Nat × Nat × Nat × Nat :=
  let v := s.obj (O.EVC_CFG t n)
  (octet v 0, octet v 1, octets v 2 2, octets v 4 4)

/-- An event source of a tile occurs `n` times: every event counter that selects it counts (R529). -/
def State.evc (s : State) (t source id n : Nat) : State :=
  s.each (List.range 64) (fun i a =>
    let c := a.evcCfg t i
    if c.1 = 1 ∧ c.2.1 = source ∧ (c.2.2.1 = id ∨ c.2.2.1 = 0xFFFF) then a.count (O.EVC_VALUE t i) n else a)

/-- A lifetime counter of the proof store advanced by `n`; it saturates (R544, R545). -/
def State.life (s : State) (i n : Nat) : State :=
  { s with proof := { s.proof with life := tmod 0 s.proof.life i (fun v => min (v + n) (2 ^ 64 - 1)) } }

/-- Lifetime counter `i` of tile `t` advanced by one (R545). -/
def State.tileLife (s : State) (t i : Nat) : State := s.life (32 + 8 * t + i) 1

/-- A histogram bin of the proof store advanced by one, by the number of its word; it saturates (R544). -/
def State.bin (s : State) (word : Nat) : State :=
  { s with proof := { s.proof with hist := tmod 0 s.proof.hist word (fun v => min (v + 1) (2 ^ 32 - 1)) } }

/-- RETRAIN_HIST: bin `b` of a tile (R546). -/
def State.retrainBin (s : State) (t b : Nat) : State := s.bin ((0x9C40 - 0x840) / 4 + 32 * t + b)

/-! Event reports. -/

/-- The severity of an event KIND (R599); TIME_PATH as for a loss. -/
def kindSev (k : Nat) : Nat :=
  if k = 4 || k = 5 then 3
  else if [0x01, 0x09, 0x10, 0x31, 0x32, 0x40].contains k then 0
  else if [0x06, 0x07, 0x08, 0x20, 0x21, 0x23, 0x30, 0x41, 0x48, 0x49, 0x52, 0x54, 0x55, 0x60].contains k then 1
  else if 0x70 ≤ k && k ≤ 0x78 && k != 0x77 then 1
  else 2

/-- A report of tile `t` depends on a root (R603). `cause` is the LAST_FAIL of a LINK_FAIL. -/
def State.dependsOn (s : State) (r : Root) (t kind cls src cause : Nat) : Bool :=
  if (r.kind == 0x01 || r.kind == 0x04 || r.kind == 0x05) && r.cls == 10 then
    let of := if cls = 1 ∨ cls = 2 then tileOf src == r.src
      else if cls = 6 then tileOf (src / 16) == r.src
      else if cls = 3 ∨ cls = 4 ∨ cls = 5 ∨ cls = 7 then t == r.src
      else false
    of || (kind == 0x33 && cls == 7 && neighbour t src == r.src)
  else if r.kind = 0x51 ∧ r.cls = 10 then kind == 0x51 && cls == 1 && tileOf src == r.src
  else if r.kind = 0x20 then kind == 0x30 && cls == 1 && s.obj (O.PORT_OWNER r.src) == src && (cause == 1 || cause == 10 || cause == 11)
  else if r.kind = 0x77 then r.tile == t && (kind == 0x74 || kind == 0x61 || kind == 0x62)
  else if r.kind = 0x72 then r.tile == t && kind == 0x73 && src == r.src
  else if r.kind = 0x57 then kind == 0x50 && src == r.src
  else false

/-- A root suppresses on a tile while it lasts, and until its suppression stops (R603). -/
def Root.active (r : Root) (now : Nat) : Bool :=
  match r.stopAt with
  | some i => Nat.ble now i
  | none => true

/-- A root starts on a tile. -/
def State.addRoot (s : State) (t : Nat) (r : Root) : State :=
  s.modTile t (fun x => { x with
    roots := x.roots.filter (fun y => y.active s.now && !(y.kind == r.kind && y.cls == r.cls && y.src == r.src && y.tile == r.tile)) ++ [r] })

/-- A report of a given severity reaches a tile's aggregator, at the presented time of the tile's replica (R599, R415). A root suppresses what reaches the
aggregator after it (R603). -/
def State.raiseSev (s : State) (t kind cls src sev : Nat) (root : Bool) (cause : Nat := 0) : State :=
  let supp := (s.tile t).roots.any (fun r => r.active s.now && s.dependsOn r t kind cls src cause)
  let r : Report := ⟨kind, cls, src, sev, ts64 (s.presented t), s.tagP t, root, supp, s.now⟩
  let s1 := s.modTile t (fun x => { x with reports := x.reports ++ [r] })
  if root && !supp then s1.addRoot t ⟨t, kind, cls, src, none⟩ else s1

/-- Whether a KIND is always a root (R603). -/
def rootKind (k cls : Nat) : Bool :=
  [0x01, 0x04, 0x05, 0x20, 0x77, 0x72].contains k || (k == 0x51 && cls == 10)

/-- A report goes to a tile's aggregator (R599, R603). -/
def State.raise (s : State) (t kind cls src : Nat) : State := s.raiseSev t kind cls src (kindSev kind) (rootKind kind cls)

/-- A root of a tile ends: its dependents stay suppressed on that tile for AGG_WINDOW more (R603). -/
def State.endRoots (s : State) (t : Nat) (which : Root → Bool) : State :=
  let stop := s.now + s.obj (O.AGG_WINDOW t) * usU
  s.modTile t (fun x => { x with roots := x.roots.map (fun r =>
    if which r && r.stopAt.isNone then { r with stopAt := some stop } else r) })

end Sys2Proof.Machine
end

