-- ==== Sys2Proof/Machine/Faults.lean ====
section
/-! DEFINITION. Integrity faults and the pairs of complement storage (R583 to R593): counting a fault against ISOLATE_THRESHOLD, the
report of a mismatch, and the counts of memory and frame errors. A fault that makes a tile's count fatal marks the tile; the tile is isolated when the command ends. -/

namespace Sys2Proof.Machine

/-- A tile is marked for isolation (R589, R590). -/
def State.fatal (s : State) (t : Nat) : State := s.modTile t (fun x => { x with isolateDue := true })

/-- An integrity fault of a tile: it is counted, and ISOLATE_THRESHOLD of them within one ISOLATE_WINDOW back from it are fatal
(R589). -/
def State.integrityFault (s : State) (t : Nat) : State :=
  let win := s.obj (O.ISOLATE_WINDOW t) * msU
  let recent := s.now :: (s.tile t).faults.filter (fun i => s.now ≤ i + win)
  let s1 := ((s.bump (O.INTEGRITY_FAULTS t)).tileLife t 2).modTile t (fun x => { x with faults := recent })
  let lim := s.obj (O.ISOLATE_THRESHOLD t)
  if lim ≠ 0 ∧ lim ≤ recent.length then s1.fatal t else s1

/-- Whether the two halves of a pair are complementary (R583). -/
def State.pairOk (s : State) (n : PairName) : Bool := !s.pairBad.contains n

/-- A valid write restores a pair (R584). -/
def State.restorePair (s : State) (n : PairName) : State := { s with pairBad := s.pairBad.filter (· ≠ n) }

/-- A complement mismatch found at a use: it is counted and reported by the block that holds the value, and it is an integrity fault
(R584, R589). `blk` is the block's SRC_ID of R599. -/
def State.mismatch (s : State) (t blk : Nat) : State :=
  (((s.bump (O.COMPLEMENT_MISMATCH t)).life 11 1).raise t 0x13 0 blk).integrityFault t

/-- A corrected memory error (R585). -/
def State.eccCorrected (s : State) (t blk : Nat) : State :=
  ((s.bump (O.ECC_CORR t)).life 8 1).raise t 0x10 0 blk

/-- An uncorrectable memory error is counted, reported, and is an integrity fault (R586, R589). -/
def State.eccUncorrected (s : State) (t blk : Nat) : State :=
  (((s.bump (O.ECC_UNCORR t)).life 9 1).raise t 0x11 0 blk).integrityFault t

/-- A cell CRC failure at a port, AFI channel or col link of a tile (R587, R589). -/
def State.cellCrcFail (s : State) (t cls src : Nat) : State :=
  (((s.bump (O.CELL_CRC_FAIL t)).life 10 1).raise t 0x12 cls src).integrityFault t

end Sys2Proof.Machine
end

