-- ==== Sys2Proof/Machine/Crc.lean ====
section
/-! DEFINITION. The checks the spec names by polynomial: CRC-32 of IEEE 802.3 (frames, units, images), CRC-32C of cells (R587), and CRC-8 of the
time word (R99). -/

namespace Sys2Proof.Machine

/-- One bit of a reflected CRC with polynomial `poly`. -/
def crcBit (poly c : Nat) : Nat := if c % 2 = 1 then Nat.xor (c / 2) poly else c / 2

/-- `n` bits of a reflected CRC. -/
def crcBits (poly : Nat) : Nat → Nat → Nat
  | c, 0 => c
  | c, n + 1 => crcBits poly (crcBit poly c) n

/-- A reflected CRC-32 over bytes, least significant bit first, initial value and final complement all ones. -/
def crcReflected (poly : Nat) (bs : Bytes) : Nat :=
  Nat.xor (bs.foldl (fun c b => crcBits poly (Nat.xor c b.toNat) 8) 0xFFFFFFFF) 0xFFFFFFFF

/-- CRC-32 of IEEE 802.3, polynomial 0x04C1_1DB7 (R199, R205, R544, R569). -/
def crc32 (bs : Bytes) : Nat := crcReflected 0xEDB88320 bs

/-- CRC-32C, polynomial 0x1EDC_6F41 (R587). -/
def crc32c (bs : Bytes) : Nat := crcReflected 0x82F63B78 bs

/-- One step of CRC-8 with polynomial x^8 + x^2 + x + 1 over the next bit. -/
def crc8Bit (c : Nat) (b : Bool) : Nat :=
  let top := Nat.xor (c / 128) (b2n b)
  if top = 1 then Nat.xor (c * 2 % 256) 0x07 else c * 2 % 256

/-- CRC-8 of R99 over the lowest `w` bits of a value, most significant first, initial value 0. -/
def crc8 (w v : Nat) : Nat := ((List.range w).reverse.map (bit v)).foldl crc8Bit 0

end Sys2Proof.Machine
end

