-- ==== Sys2Proof/Machine/Operands.lean ====
section
/-! DEFINITION. Operand forms of the port and lane objects: the port modes of R226 with their widths, lane modes, capacities and
FEC, the delays of R231, and the packed transmit tap set of R150 to R152. -/

namespace Sys2Proof.Machine

/-- A port mode (R226): kind (0 Ethernet, 1 SGMII, 2 span), lane mode, width, capacity in Mb/s (R229), allowed FEC_MODE codes with the
default first. -/
structure PortMode where
  kind  : Nat
  lane  : Nat
  width : Nat
  mbps  : Nat
  fec   : List Nat
deriving DecidableEq, Repr

/-- The port modes of R226, by code from 0. -/
def portModes : List PortMode :=
  [⟨0, 0, 0, 0, []⟩,
   ⟨0, 1, 1, 200000, [4]⟩, ⟨0, 1, 2, 400000, [4]⟩, ⟨0, 1, 4, 800000, [4]⟩, ⟨0, 1, 8, 1600000, [4]⟩,
   ⟨0, 2, 1, 100000, [4]⟩, ⟨0, 2, 2, 200000, [4]⟩, ⟨0, 2, 4, 400000, [4]⟩, ⟨0, 2, 8, 800000, [4]⟩,
   ⟨0, 3, 1, 50000, [4]⟩, ⟨0, 3, 2, 100000, [4]⟩, ⟨0, 3, 4, 200000, [4]⟩, ⟨0, 3, 8, 400000, [4]⟩] ++
  [⟨0, 4, 1, 25000, [3, 1, 2]⟩, ⟨0, 4, 4, 100000, [3, 1]⟩, ⟨0, 5, 1, 10000, [1, 2]⟩, ⟨0, 5, 4, 40000, [1, 2]⟩,
   ⟨1, 6, 1, 1000, [1]⟩,
   ⟨2, 1, 1, 200000, [4]⟩, ⟨2, 1, 2, 400000, [4]⟩, ⟨2, 1, 4, 800000, [4]⟩, ⟨2, 1, 8, 1600000, [4]⟩,
   ⟨2, 2, 1, 100000, [4]⟩, ⟨2, 2, 2, 200000, [4]⟩, ⟨2, 2, 4, 400000, [4]⟩, ⟨2, 2, 8, 800000, [4]⟩]

/-- The port mode of a code. -/
def modeOf (code : Nat) : PortMode := portModes.getD code ⟨0, 0, 0, 0, []⟩

/-- The mode of port `p`. -/
def State.mode (s : State) (p : Nat) : PortMode := modeOf (s.obj (O.PORT_MODE p))

/-- The lanes of port `p`, first lane first (R228). -/
def State.lanesOf (s : State) (p : Nat) : List Nat := (List.range (s.mode p).width).map (p + ·)

/-- The port that owns a lane (R228). -/
def State.portOf (s : State) (l : Nat) : Option Nat :=
  let o := s.obj (O.PORT_OWNER l)
  if o = 0xFF then none else some o

/-- Whether a port number holds a port. -/
def State.portUp (s : State) (p : Nat) : Bool := s.obj (O.PORT_MODE p) != 0

/-- Whether a port may start a width at a tile lane (R227). -/
def placed (code lane : Nat) : Bool :=
  let m := modeOf code
  code == 0 ||
  ((m.width != 8 || lane == 0 || lane == 8) &&
   (m.width != 4 || lane == 0 || lane == 4 || lane == 8 || lane == 12) &&
   (m.width != 2 || lane % 2 == 0) &&
   (lane != 16 || m.width ≤ 2) && (lane != 17 || m.width == 1) &&
   (code != 17 || lane == 17))

/-- The FEC a port runs for a FEC_MODE code: DEFAULT is the first allowed (R226). -/
def fecOf (code fecMode : Nat) : Nat := if fecMode = 0 then (modeOf code).fec.headD 0 else fecMode

/-- Receive and transmit corrections of R231 and R232 in ps, by port mode, FEC and, for mode 17, speed in Mb/s. -/
def delays (code fec speed : Nat) : Nat × Nat :=
  if code = 1 then (75000, 15000)
  else if code = 2 ∨ code = 3 ∨ 18 ≤ code ∧ code ≤ 21 then (49400, 15000)
  else if code = 4 then (36600, 15000)
  else if code = 5 ∨ code = 6 ∨ 22 ≤ code ∧ code ≤ 25 then (79000, 20000)
  else if code = 7 ∨ code = 8 then (53400, 20000)
  else if code = 9 then (138200, 30000)
  else if code = 10 ∨ code = 11 then (87000, 30000)
  else if code = 12 then (61400, 30000)
  else if code = 13 ∨ code = 14 then
    if fec = 1 then (30000, 14000) else if fec = 2 then (116000, 26000)
    else if code = 13 then (244600, 34000) else (91000, 26000)
  else if code = 15 ∨ code = 16 then if fec = 2 then (268900, 55000) else (60000, 30000)
  else if code = 17 then
    if speed = 10 then (6400000, 4000000) else if speed = 100 then (640000, 400000) else (64000, 40000)
  else (0, 0)

/-! Transmit taps (R150 to R152). -/

/-- PRE of a packed tap set. -/
def firPre (v : Nat) : Int := toS 8 (octet v 2)
/-- MAIN of a packed tap set. -/
def firMain (v : Nat) : Int := octet v 1
/-- POST of a packed tap set. -/
def firPost (v : Nat) : Int := toS 8 (octet v 0)

/-- A packed tap set from its taps. -/
def firPack (pre main post : Int) : Nat := ofS 8 pre * 65536 + ofS 8 main * 256 + ofS 8 post

/-- Whether every tap lies within its field's range (R150). -/
def firInRange (v : Nat) : Bool :=
  -16 ≤ firPre v && firPre v ≤ 0 && 24 ≤ firMain v && firMain v ≤ 64 && -24 ≤ firPost v && firPost v ≤ 0

/-- The two conditions of R151. -/
def firBalanced (v : Nat) : Bool :=
  absI (firPre v) + firMain v + absI (firPost v) ≤ 64 && 8 ≤ firMain v - absI (firPre v) - absI (firPost v)

/-- The presets of R152. -/
def preset (k : Nat) : Nat := if k = 1 then 0x00004000 else if k = 2 then 0x00FC34F8 else 0x00F82CF4

/-- A tap set after one step of tap `k` (0 PRE, 1 MAIN, 2 POST). -/
def firStep (v k : Nat) (up : Bool) : Nat :=
  let d : Int := if up then 1 else -1
  firPack (firPre v + if k = 0 then d else 0) (firMain v + if k = 1 then d else 0) (firPost v + if k = 2 then d else 0)

/-- Whether a step takes a tap outside its range, judged before packing (R190). -/
def firStepOut (v k : Nat) (up : Bool) : Bool :=
  let d : Int := if up then 1 else -1
  let pre := firPre v + if k = 0 then d else 0
  let main := firMain v + if k = 1 then d else 0
  let post := firPost v + if k = 2 then d else 0
  !(-16 ≤ pre && pre ≤ 0 && 24 ≤ main && main ≤ 64 && -24 ≤ post && post ≤ 0)

/-- PAM4 lane modes (R147). -/
def isPam4 (laneMode : Nat) : Bool := 1 ≤ laneMode && laneMode ≤ 3

/-- Whether a test pattern suits a lane mode (R174). -/
def patternSuits (code laneMode : Nat) : Bool :=
  code == 0 || (if isPam4 laneMode then 3 ≤ code && code ≤ 5 else code == 1 || code == 2)

/-- Bits of a lane mode's line rate per µs, in Mb/s of data (R226). -/
def laneMbps (laneMode : Nat) : Nat :=
  if laneMode = 1 then 200000 else if laneMode = 2 then 100000 else if laneMode = 3 then 50000
  else if laneMode = 4 then 25000 else if laneMode = 5 then 10000 else 1000

end Sys2Proof.Machine
end

