-- ==== Sys2Proof/Machine/Frames.lean ====
section
/-! DEFINITION. Frames in Clemal and the copies made of them; the cells of the Basins (R337 to R342); queue statistics (R351 to R355); and the
accounting that every admission, discard and departure shares. -/

namespace Sys2Proof.Machine

/-! Frames and copies. -/

/-- Frame `fid`, if it is in Clemal. -/
def State.frame (s : State) (fid : Nat) : Option Frame := tget none s.frames fid

/-- A frame is put, changed or removed. -/
def State.setFrame (s : State) (fid : Nat) (f : Option Frame) : State := { s with frames := tput none s.frames fid f }

/-- A frame changed. -/
def State.modFrame (s : State) (fid : Nat) (g : Frame → Frame) : State := { s with frames := tmod none s.frames fid (Option.map g) }

/-- The key of a copy. -/
def copyKey (fid h : Nat) : Nat := 64 * fid + h

/-- A copy of a frame. -/
def State.copy (s : State) (fid h : Nat) : Option Copy := tget none s.copies (copyKey fid h)

/-- A copy is put or removed. -/
def State.setCopy (s : State) (fid h : Nat) (c : Option Copy) : State := { s with copies := tput none s.copies (copyKey fid h) c }

/-- A copy changed. -/
def State.modCopy (s : State) (fid h : Nat) (g : Copy → Copy) : State := { s with copies := tmod none s.copies (copyKey fid h) (Option.map g) }

/-- The copies of a frame, by number. -/
def State.copiesOf (s : State) (fid : Nat) : List Nat :=
  (s.copies.filter (fun e => e.1 / 64 == fid)).map (fun e => e.1 % 64)

/-- The tile a frame entered (R52). -/
def FrameSrc.tile : FrameSrc → Nat
  | .port p => tileOf p
  | .afi t _ => t
  | .engine t _ _ => t
  | .stack p => tileOf p

/-- The pipe a frame entered (R26, R32). -/
def FrameSrc.pipe : FrameSrc → Nat
  | .port p => pipeOf p
  | .afi _ ch => ch
  | .engine _ e _ => e / 8
  | .stack p => pipeOf p

/-- Nanoseconds times 65536 times 5 in six pipe cycles: the number of the pipe cycle of an instant, at 1.2 GHz (R28); every pipe's cycles are counted from
instant 0 (DESIGN CHOICE, assumption 72). -/
def State.pipeCycle (s : State) : Nat := s.now * 6 / (5 * 65536)

/-- A host-fed frame (R32). -/
def FrameSrc.host : FrameSrc → Bool
  | .port _ => false
  | .stack _ => false
  | _ => true

/-- The port a frame came in on (R350). -/
def FrameSrc.ingress : FrameSrc → Option Nat
  | .port p => some p
  | .stack p => some p
  | _ => none

/-- The length L of a frame (R322). -/
def Frame.len (f : Frame) : Nat := if f.src.host then max 64 (f.data.length + 4) else f.data.length + 4

/-- The segments a frame of length L takes in its pipe (R29). -/
def Frame.segments (f : Frame) : Nat := max 1 (ceilDiv (f.len - 12) 64)

/-- What a frame arrives on (R44): a port, by its number, or the host feed of a pipe, by 2 times tile plus pipe; a frame that passes its pipe again comes from the
host feed. -/
def Frame.feed (f : Frame) : Bool × Nat :=
  match f.src.ingress, f.pass with
  | some p, 0 => (true, p)
  | _, _ => (false, 2 * f.src.tile + f.src.pipe)

/-- No frame of the same feed that arrived before this one still waits (R23, R44). -/
def State.inTurn (s : State) (f : Frame) (waits : Frame → Bool) : Bool :=
  s.frames.all (fun e => match e.2 with
    | some g => !(g.feed == f.feed && Nat.blt g.seq f.seq && waits g)
    | none => true)

/-- A frame that arrives is numbered and put (R44). -/
def State.arrive (s : State) (fid : Nat) (f : Frame) : State :=
  { (s.setFrame fid (some { f with seq := s.arrivals })) with arrivals := s.arrivals + 1 }

/-- The tile whose Basin holds a copy (R36). -/
def Dst.tile : Dst → Nat
  | .port p _ => tileOf p
  | .afi t _ => t
  | .ring t _ => t
  | .recirc => 0

/-- The bytes a copy carries (R294). -/
def Copy.bytes (c : Copy) (f : Frame) : Bytes := if c.trunc = 0 then f.data else f.data.take c.trunc

/-- The length L of a copy on the wire. -/
def Copy.len (c : Copy) (f : Frame) : Nat := if c.trunc = 0 then f.len else max 64 ((c.bytes f).length + 4)

/-- The cells a copy needs (R338). -/
def Copy.need (c : Copy) (f : Frame) : Nat := max 1 (ceilDiv (c.bytes f).length 256)

/-- A frame leaves the table once nothing of it is left (R315, R339). -/
def State.tidy (s : State) (fid : Nat) : State :=
  match s.frame fid with
  | none => s
  | some f => if f.ended ∧ (f.bad ∨ f.resolved ∧ f.lastSeg ∧ !f.recirc) ∧ s.copiesOf fid = [] ∧ !f.flying then s.setFrame fid none else s

/-- Frames in flight under a slot on a tile (R315). -/
def State.flying (s : State) (t k : Nat) : Nat := tget 0 s.inflight (4 * t + k)

/-- A frame leaves the count of its slot (R315). -/
def State.land (s : State) (fid : Nat) : State :=
  match s.frame fid with
  | none => s
  | some f =>
    if !f.flying then s
    else { (s.modFrame fid (fun x => { x with flying := false })) with
           inflight := tmod 0 s.inflight (4 * f.src.tile + f.slot) (· - 1) }

/-- Whether a frame is done with its version: resolved on its last pass, with its last segment in the pipe (R315). -/
def State.landIfDone (s : State) (fid : Nat) : State :=
  match s.frame fid with
  | none => s
  | some f => if f.resolved ∧ f.lastSeg ∧ !f.recirc then s.land fid else s

/-- The final outcome of a parse is counted (R274). -/
def State.countParse (s : State) (t outcome : Nat) : State :=
  s.bump (if outcome = 0 then O.PARSE_OK t else if outcome = 1 then O.PARSE_DEPTH t else if outcome = 2 then O.PARSE_LENGTH t else O.PARSE_BADHDR t)

/-- A parsed frame ends before its last segment has reached the pipe: it is counted by the outcome its length gives (R272, R274). -/
def State.countCut (s : State) (fid : Nat) : State :=
  match s.frame fid with
  | some f =>
    if !f.resolved ∨ f.lastSeg ∨ f.bad ∨ f.outcome ≠ 0 then s
    else if f.data.length < f.req then (s.countParse f.src.tile 2).bump (O.LENGTH_LATE f.src.tile) else s.countParse f.src.tile 0
  | none => s

/-! Queue statistics. -/

/-- The number of a queue as R355 names it, within its tile. -/
def Dst.qnum : Dst → Nat
  | .port p q => p % 18 * 16 + q
  | .afi _ ch => 4096 + ch
  | .ring _ r => 8192 + r
  | .recirc => 0

/-- The key of a queue's statistics. -/
def Dst.qkey (d : Dst) : Nat := 65536 * d.tile + d.qnum

/-- A queue's statistics. -/
def State.qstat (s : State) (key : Nat) : QStat := tget {} s.qstats key

/-- A queue's statistics changed. -/
def State.modQstat (s : State) (key : Nat) (f : QStat → QStat) : State := { s with qstats := tmod {} s.qstats key f }

/-- A queue's depth changes by the cells of a copy (R346, R353). -/
def State.deepen (s : State) (d : Dst) (n : Nat) (shared : Bool) : State :=
  s.modQstat d.qkey (fun x => { x with depth := x.depth + n, shared := if shared then x.shared + n else x.shared,
                                       depthMax := max x.depthMax (x.depth + n) })

/-- A queue's depth falls as a copy's cells are freed; what it was has been reached (R353). -/
def State.shallow (s : State) (d : Dst) (n : Nat) (shared : Bool) : State :=
  s.modQstat d.qkey (fun x => { x with depth := x.depth - n, shared := if shared then x.shared - n else x.shared,
                                       depthMax := max x.depthMax x.depth })

/-- A copy leaves its queue by being sent: DELAY_MAX (R353). -/
def State.sojourn (s : State) (c : Copy) : State :=
  s.modQstat c.dst.qkey (fun x => { x with delayMax := max x.delayMax (min ((s.now - c.admitAt) / nsU) (2 ^ 32 - 1)) })

/-- A list of three counts with one advanced. -/
def bumpAt (l : List Nat) (i : Nat) : List Nat := l.set i (l.getD i 0 + 1)

/-! Basin cells. -/

/-- Cells of a bank (R337): cell c lies in bank c mod 48, and there are 131,072. -/
def bankCells (b : Nat) : Nat := if b < 32 then 2731 else 2730

/-- Cells of a bank in use. -/
def State.bankUse (s : State) (t b : Nat) : Nat := tget 0 s.bankUsed (64 * t + b)

/-- The bank the next cell goes to: the one after the last, skipping full banks and groups not enabled (R339). -/
def State.nextBank (s : State) (t : Nat) : Option Nat :=
  let start := tget 0 s.bankAt t
  ((List.range 48).map (fun i => (start + i) % 48)).find? (fun b =>
    bit (s.obj (O.GROUPS_EN t)) (b / 6) && s.bankUse t b < bankCells b)

/-- `n` cells of tile `t` are taken in successive banks; none when no cell is free (R339, R343). -/
def State.takeCells (s : State) (t : Nat) : Nat → Option (List Nat × State)
  | 0 => some ([], s)
  | n + 1 =>
    match s.nextBank t with
    | none => none
    | some b =>
      let s1 := { s with bankAt := tput 0 s.bankAt t ((b + 1) % 48), bankUsed := tmod 0 s.bankUsed (64 * t + b) (· + 1) }
      (s1.takeCells t n).map (fun r => (b :: r.1, r.2))

/-- Cells of the enabled groups (R337, R341). -/
def State.enabledCells (s : State) (t : Nat) : Nat :=
  ((List.range 48).filter (fun b => bit (s.obj (O.GROUPS_EN t)) (b / 6))).foldl (fun a b => a + bankCells b) 0

/-- Cells of a group in use. -/
def State.groupUse (s : State) (t g : Nat) : Nat := ((List.range 6).map (fun i => s.bankUse t (6 * g + i))).foldl (· + ·) 0

/-- CELLS_FREE and GROUPS_EMPTY show the cells in use (R340, R356). -/
def State.showCells (s : State) (t : Nat) : State :=
  let used := ((List.range 48).map (s.bankUse t)).foldl (· + ·) 0
  (s.setObj (O.CELLS_FREE t) (131072 - used)).setObj (O.GROUPS_EMPTY t) (ofBits ((List.range 8).filter (fun g => s.groupUse t g == 0)))

/-- The object that counts a pool's cells: 0 minimum, 1 shared, 2 headroom (R356). -/
def poolKey (t pool : Nat) : Nat := if pool = 0 then O.MIN_USED t else if pool = 1 then O.SHARED_USED t else O.HEADROOM_USED t

/-- A pool's count changes. -/
def State.pool (s : State) (t pool : Nat) (f : Nat → Nat) : State := s.setObj (poolKey t pool) (f (s.obj (poolKey t pool)))

/-- The shared pool's size (R341). -/
def sharedSize (cells skid minPool headroom : Nat) : Int := (cells : Int) - skid - minPool - headroom

/-- The shared pool's size of a tile. -/
def State.sharedOf (s : State) (t : Nat) : Int :=
  sharedSize (s.enabledCells t) (s.obj (O.SKID_CELLS t)) (s.obj (O.MIN_POOL t)) (s.obj (O.HEADROOM_POOL t))

/-- The cells a frame holds in a tile's Basin. -/
def State.hold (s : State) (fid t : Nat) : BasinHold := tget {} s.holds (8 * fid + t)

/-- A frame's hold grows to `n` cells; none when no cell is free. -/
def State.growHold (s : State) (fid t n : Nat) : Option State :=
  let h := s.hold fid t
  let more := n - h.banks.length
  (s.takeCells t more).map (fun r =>
    (({ r.2 with holds := tput {} r.2.holds (8 * fid + t) { h with banks := h.banks ++ r.1 } }).pool t h.pool (· + more)).showCells t)

/-- Every holder's queue counts the cells that the holders share, in its depth and, where its own admission was to the shared pool, in what it holds of that pool
(R348). -/
def State.countCells (s : State) (fid t : Nat) : State :=
  let x := s.hold fid t
  x.users.foldl (fun a h => match a.copy fid h with
    | some c => (a.deepen c.dst (x.banks.length - c.cells) (c.pool == 1)).modCopy fid h (fun y => { y with cells := x.banks.length })
    | none => a) s

/-- A copy lets go of its frame's cells; the last holder frees them (R339, R348). -/
def State.letGo (s : State) (fid h : Nat) : State :=
  match s.copy fid h with
  | none => s
  | some c =>
    let t := c.dst.tile
    let x := s.hold fid t
    if !x.users.contains h then s
    else
      let s1 := s.shallow c.dst c.cells (c.pool == 1)
      let rest := x.users.filter (· != h)
      if rest ≠ [] then { s1 with holds := tput {} s1.holds (8 * fid + t) { x with users := rest } }
      else
        let s2 := x.banks.foldl (fun a b => { a with bankUsed := tmod 0 a.bankUsed (64 * t + b) (· - 1) }) s1
        (({ s2 with holds := tput {} s2.holds (8 * fid + t) {} }).pool t x.pool (· - x.banks.length)).showCells t

/-- Bytes leave a col link's staging buffer; the space counts as free from the next cycle (R42). -/
def State.unstage (s : State) (t k n : Nat) : State :=
  s.modTile t (fun x => { x with
    staged := tmod 0 x.staged k (· - n),
    freed := tmod (0, 0) x.freed k (fun y => (s.now, if y.1 = s.now then y.2 + n else n)) })

/-- A copy's bytes have wholly passed the col links of a list (R40, R42). -/
def State.passLinks (s : State) (fid h : Nat) (l : List (Nat × Nat)) : State :=
  match s.copy fid h, s.frame fid with
  | some c, some f =>
    let gone := c.staged.filter l.contains
    (gone.foldl (fun a e => a.unstage e.1 e.2 (c.bytes f).length) s).modCopy fid h (fun x => { x with staged := x.staged.filter (fun e => !(l.contains e)) })
  | _, _ => s

/-- A copy's bytes have wholly passed every col link it took. -/
def State.passAll (s : State) (fid h : Nat) : State :=
  match s.copy fid h with
  | some c => s.passLinks fid h c.staged
  | none => s

/-- A copy is gone: its cells and its staged bytes are let go, and the frame leaves when it was the last. -/
def State.dropCopy (s : State) (fid h : Nat) : State := (((s.passAll fid h).letGo fid h).setCopy fid h none).tidy fid

/-- What became of a frame from a transmit ring is noted for its egress record (R501); only its original has a fate. -/
def State.noteFate (s : State) (fid h cause ts tag : Nat) : State :=
  match s.frame fid with
  | some f =>
    match f.src, f.hm.desc with
    | .engine t _ ring, some d =>
      if h ≠ 0 ∨ !d.egress then s
      else ({ s with fates := s.fates ++ [Fate.mk t ring d f.hm.frameId cause ts tag] }).modFrame fid (fun x => { x with hm := { x.hm with desc := none } })
    | _, _ => s
  | none => s

/-- A frame that asked for a transmit timestamp was discarded before it started (R463). -/
def State.noStart (s : State) (fid h : Nat) : State :=
  match s.frame fid, s.copy fid h with
  | some f, some c =>
    match c.dst with
    | .port p _ => if f.hm.tsReq ∧ h = 0 then (s.bump (O.TSQ_NOSTART p)).setObj (O.TSQ_LAST_NOSTART p) f.hm.frameId else s
    | _ => s
  | _, _ => s

/-- STAGE_DROP of a col link (R45). -/
def stageDropKey (t k : Nat) : Nat := if k = 0 then O.STAGE_DROP_C0 t else if k = 1 then O.STAGE_DROP_C1 t else O.STAGE_DROP_C2 t

/-- COL_STATE of a col link (R45). -/
def colKey (t k : Nat) : Nat := if k = 0 then O.COL_C0_STATE t else if k = 1 then O.COL_C1_STATE t else O.COL_C2_STATE t

end Sys2Proof.Machine
end

