-- ==== Sys2Proof/Machine/Hatch.lean ====
section
/-! DEFINITION. Hatch lists (R381 to R396): gates as functions of an instant of the active domain, the fit rule, starts and commits. Instants in
this file are units of 2^-16 ns of the active domain; list times are whole nanoseconds. -/

namespace Sys2Proof.Machine

/-- The Burin's state of a port. -/
def State.burin (s : State) (p : Nat) : Burin := tget {} s.burins p

/-- The Burin's state of a port changed. -/
def State.modBurin (s : State) (p : Nat) (f : Burin → Burin) : State := { s with burins := tmod {} s.burins p f }

/-- Entries fitted to a cycle of `c` ns: cut at its end, the last one extended to it (R386). -/
def fitCycle : Nat → GateList → GateList
  | _, [] => []
  | c, [(g, _)] => [(g, c)]
  | c, (g, i) :: rest => if c ≤ i then [(g, c)] else (g, i) :: fitCycle (c - i) rest

/-- What remains of a cycle's entries from an offset. -/
def fromOffset : Nat → GateList → GateList
  | _, [] => []
  | o, (g, i) :: rest => if i ≤ o then fromOffset (o - i) rest else (g, i - o) :: rest

/-- The time a gate stays open from the start of a sequence of entries: the sum of the entries before the first that shuts it. -/
def openFor (q : Nat) : GateList → Nat
  | [] => 0
  | (g, i) :: rest => if bit g q then i + openFor q rest else 0

/-- A gate is open in every entry. -/
def alwaysOpen (q : Nat) (l : GateList) : Bool := l.all (fun e => bit e.1 q)

/-- The gates in force at an offset of a cycle. -/
def gatesAt (l : GateList) (o : Nat) : Nat := ((fromOffset o l).head?.map (·.1)).getD 0

/-- The close of a gate, as ns after an offset; none when it never closes (R388). -/
def closeAfter (l : GateList) (q o : Nat) : Option Nat :=
  if alwaysOpen q l then none else some (openFor q (fromOffset o l ++ l))

/-- The longest open run of a gate, runs crossing cycle boundaries; none when it is always open (R390). -/
def longestRun (l : GateList) (q : Nat) : Option Nat :=
  if alwaysOpen q l then none
  else some ((List.range l.length).foldl (fun a i => max a (openFor q (l.drop i ++ l))) 0)

/-- OPER_START in ns of the active domain. -/
def State.operStart (s : State) (p : Nat) : Nat := unitsOf96 (s.obj (O.OPER_START p)) / nsU

/-- The offset in the operating cycle at an instant, in ns; cycles also extend before the start (R383, R386). -/
def State.cycleOffset (s : State) (p ns : Nat) : Nat :=
  (((ns : Int) - s.operStart p) % (max 1 (s.obj (O.OPER_CYCLE p)) : Nat)).toNat

/-- The schedule that governs a port: its operating list, or IDLE_GATES (R387). -/
def State.schedule (s : State) (p : Nat) : GateList := (s.burin p).oper.getD [(s.obj (O.IDLE_GATES p), 1)]

/-- The gates of a port at an instant (R387, R388). -/
def State.gates (s : State) (p u : Nat) : Nat :=
  let ns := u / nsU
  if !s.flag (O.HATCH_ENABLE p) then 0xFFFF
  else match (s.burin p).pend with
    | some x =>
      if x.start ≤ ns then gatesAt x.entries ((ns - x.start) % max 1 x.cycle)
      else if (s.burin p).oper.isSome then gatesAt (s.schedule p) (s.cycleOffset p ns) else s.obj (O.IDLE_GATES p)
    | none => if (s.burin p).oper.isSome then gatesAt (s.schedule p) (s.cycleOffset p ns) else s.obj (O.IDLE_GATES p)

/-- The close of queue q's gate after an instant, in units: across entries, cycles and the start of a pending list (R388). -/
def State.close (s : State) (p q u : Nat) : Option Nat :=
  let ns := u / nsU
  let off := if (s.burin p).oper.isSome then s.cycleOffset p ns else 0
  let here := (closeAfter (s.schedule p) q off).map (ns + ·)
  let inPend := fun (x : PendList) (k : Nat) => (closeAfter x.entries q ((k - x.start) % max 1 x.cycle)).map (k + ·)
  ((match (s.burin p).pend with
    | none => here
    | some x =>
      if x.start ≤ ns then inPend x ns
      else match here with
        | some c => if c < x.start then some c else inPend x x.start
        | none => inPend x x.start)).map (· * nsU)

/-- A frame of queue `q` that lasts `d` ps fits at an instant (R389). -/
def State.fitsAt (s : State) (p q u d : Nat) : Bool :=
  !s.flag (O.HATCH_ENABLE p) ||
  (bit (s.gates p u) q && (match s.close p q u with | none => true | some c => u * 1000 + d * nsU ≤ c * 1000))

/-- Cut-through is allowed under the schedules that can govern the port (R391). -/
def State.gateAlwaysOpen (s : State) (p q : Nat) : Bool :=
  !s.flag (O.HATCH_ENABLE p) ||
  (alwaysOpen q (s.schedule p) && (match (s.burin p).pend with | some x => alwaysOpen q x.entries | none => true))

/-- Entry `i` of a list held in four objects: its gates, OP and reserved byte, and interval (R385). -/
def listEntry (parts : List Nat) (i : Nat) : Nat × Nat × Nat :=
  let v := parts.getD (i / 64) 0
  let o := 8 * (i % 64)
  (octets v o 2, octets v (o + 2) 2, octets v (o + 4) 4)

/-- The first `n` entries of a list held in four objects. -/
def listOf (parts : List Nat) (n : Nat) : GateList := (List.range n).map (fun i => ((listEntry parts i).1, (listEntry parts i).2.2))

/-- The start of a list and whether its base is late (R393), in ns. -/
def startTime (base cycle now : Nat) : Nat × Bool :=
  let earliest := now + 4000
  if earliest ≤ base then (base, false) else (base + (earliest - base + cycle - 1) / cycle * cycle, true)

/-- The active domain at a port, in units (R381). -/
def State.portTime (s : State) (p : Nat) : Nat := s.presented (8 + p)

/-- The active domain at a port as a transmit timestamp refers to it: at the balls (R381, R454). -/
def State.txRef (s : State) (p : Nat) : Nat := s.portTime p + s.obj (O.TS_TX_CORR p) * 65536 / 1000

/-- HATCH_STATE (R407). -/
def State.showHatch (s : State) (p : Nat) : State :=
  s.setObj (O.HATCH_STATE p) (if (s.burin p).pend.isSome then 1 else if (s.burin p).oper.isSome then 2 else 0)

/-- The administrative objects of a port (R384). -/
def State.adminParts (s : State) (p : Nat) : List Nat := (List.range 4).map (fun k => s.obj (O.ADMIN_LIST p k))

/-- The refusal of a commit (R392): CONFIG_CONFLICT or RANGE, or 0. -/
def State.commitCheck (s : State) (p : Nat) : Nat :=
  if (listOf (s.adminParts p) (s.obj (O.ADMIN_LENGTH p))).any (fun e => e.2 == 0) then 0x05
  else if s.obj (O.ADMIN_BASE p) % 2 ^ 16 ≠ 0 then 0x05
  else if !s.flag (O.HATCH_ENABLE p) then 0x09 else 0

/-- The start of a pending list is computed from an instant, rounded up to a whole nanosecond (R393); a late base is reported. -/
def State.startPend (s : State) (p : Nat) (x : PendList) (u : Nat) : State :=
  let r := startTime x.base x.cycle (ceilDiv u nsU)
  let s1 := (s.setObj (O.PEND_START p) (ts96 (r.1 * nsU))).setObj (O.LATE_BASE p) (b2n r.2)
  let s2 := s1.modBurin p (fun b => { b with pend := some { x with start := r.1 } })
  (if r.2 then s2.raise (tileOf p) 0x48 1 p else s2).showHatch p

/-- A commit is taken: the administrative list becomes the pending list (R392, R393). -/
def State.takeCommit (s0 : State) (p : Nat) : State :=
  let s := s0.restorePair (.operBase p)
  let parts := s.adminParts p
  let cyc := s.obj (O.ADMIN_CYCLE p)
  s.startPend p ⟨unitsOf96 (s.obj (O.ADMIN_BASE p)) / nsU, cyc, s.obj (O.ADMIN_LENGTH p), fitCycle cyc (listOf parts (s.obj (O.ADMIN_LENGTH p))), parts, 0⟩ (s.txRef p)

/-- Both lists are discarded and the gates follow IDLE_GATES or stand open (R396). -/
def State.clearLists (s : State) (p : Nat) : State :=
  (s.modBurin p (fun b => { b with oper := none, pend := none })).showHatch p

/-- HATCH_ENABLE is written (R396). -/
def State.hatchEnable (s : State) (p : Nat) (on : Bool) : State :=
  let s1 := s.setObj (O.HATCH_ENABLE p) (b2n on)
  if on ∧ s.flag (O.HATCH_ENABLE p) then s1 else s1.clearLists p

/-- GATE_NOW shows the gates in force (R407). -/
def State.showGates (s : State) (p : Nat) : State := s.setObj (O.GATE_NOW p) (s.gates p (s.txRef p))

/-- OPER_BASE and PEND_START are not complementary: both lists are discarded (R584). -/
def State.hatchMismatch (s : State) (p : Nat) : State := ((s.clearLists p).mismatch (tileOf p) 2).showGates p

/-- The objects of the operating list take a list's values (R394). -/
def State.showOper (s : State) (p : Nat) (x : PendList) : State :=
  let s1 := (((s.setObj (O.OPER_BASE p) (ts96 (x.base * nsU))).setObj (O.OPER_CYCLE p) x.cycle).setObj (O.OPER_LENGTH p) x.count).setObj
    (O.OPER_START p) (ts96 (x.start * nsU))
  s1.each (List.range 4) (fun k a => a.setObj (O.OPER_LIST p k) (x.parts.getD k 0))

/-- The pending list becomes the operating list (R394). -/
def State.promote (s : State) (p : Nat) (x : PendList) : State :=
  (((s.showOper p x).bump (O.HATCH_STARTS p)).modBurin p (fun b => { b with oper := some x.entries, pend := none })).showHatch p |>.showGates p

/-- The start instant of the pending list has come (R394). -/
def State.startDue (s : State) (p : Nat) : Option PendList :=
  match (s.burin p).pend with
  | some x => if x.start ≤ s.txRef p / nsU then some x else none
  | none => none

/-- A boundary of the operating list's entries or cycle (R386); the pair of OPER_BASE is checked in the first entry of a cycle (R584). -/
def State.entryChange (s : State) (p : Nat) : State :=
  let first := match (s.burin p).oper with
    | some ((_, i) :: _) => decide (s.cycleOffset p (s.txRef p / nsU) < i)
    | _ => false
  if first && !s.pairOk (.operBase p) then s.hatchMismatch p else s.showGates p

end Sys2Proof.Machine
end

