-- ==== Sys2Proof/Machine/Police.lean ====
section
/-! DEFINITION. Policers (R323 to R336): tenant fences, data-class meters, their refill, and the policer record. -/

namespace Sys2Proof.Machine

/-- A policer after reset (R323). -/
def freshPolicer (n : Nat) : Policer :=
  if n = 0 then { kind := 1, cir := 1600000000, cirNow := 1600000000, cbs := 16777216, tc := 16777216 * 8000 } else {}

/-- Policer `n` of tile `t`. -/
def State.policer (s : State) (t n : Nat) : Policer := (tget none s.policers (16384 * t + n)).getD (freshPolicer n)

/-- A policer is put. -/
def State.setPolicer (s : State) (t n : Nat) (x : Policer) : State :=
  { s with policers := tput none s.policers (16384 * t + n) (if x = freshPolicer n then none else some x) }

/-- A policer changed. -/
def State.modPolicer (s : State) (t n : Nat) (f : Policer → Policer) : State := s.setPolicer t n (f (s.policer t n))

/-- The refill of one policer; the rates written last come into force (R324, R334). -/
def Policer.refill (p : Policer) : Policer :=
  let full : Int := p.cbs * 8000
  let tc := p.tc + p.cir
  let base := { p with cirNow := p.cir, pirNow := p.pir }
  if p.kind = 2 then
    if full < tc then { base with tc := full, te := min (p.te + (tc - full)) (p.ebs * 8000 : Nat) } else { base with tc := tc }
  else if p.kind = 3 then { base with tc := min tc full, te := min (p.te + p.pir) (p.ebs * 8000 : Nat) }
  else if p.kind = 1 then { base with tc := min tc full }
  else base

/-- Every policer of a tile refills at a whole microsecond of L (R324); one at its state after reset is full. -/
def State.policerRefill (s0 : State) (t : Nat) : State :=
  s0.refillOnce t 0 (fun s =>
    (s.policers.filter (fun e => e.1 / 16384 == t)).foldl (fun a e => a.setPolicer t (e.1 % 16384) (s.policer t (e.1 % 16384)).refill) s)

/-- The metered length of a frame under a policer (R321). -/
def Policer.meter (p : Policer) (len : Nat) : Nat := (max 1 ((len : Int) + p.overhead)).toNat

/-- The fence of a host-fed frame of length `len`, after a refill that is due (R333): whether it passes, and the state after the test (R325 to R327); a record with an uncorrectable error drops every
frame (R586). -/
def State.fence (s0 : State) (t n len : Nat) : Bool × State :=
  let s := s0.policerRefill t
  let p := s.policer t n
  let m := p.meter len
  if p.bad then (false, s.bump (O.FENCE_DROP t))
  else if p.kind ≠ 1 then (false, s.bump (O.FENCE_INVALID t))
  else if (m * 8000 : Nat) ≤ p.tc then
    (true, s.setPolicer t n { p with tc := p.tc - (m * 8000 : Nat), green := (p.green + 1) % 2 ^ 64, bytes := (p.bytes + m) % 2 ^ 64 })
  else (false, (s.setPolicer t n { p with red := (p.red + 1) % 2 ^ 64, bytes := (p.bytes + m) % 2 ^ 64 }).bump (O.FENCE_DROP t))

/-- The colour a meter gives at the head (R329): 0 green, 1 yellow, 2 red. -/
def Policer.colour (p : Policer) (input : Nat) : Nat :=
  if p.kind = 2 then
    if input = 0 ∧ 0 < p.tc then 0 else if input ≠ 2 ∧ 0 < p.te then 1 else 2
  else
    if input = 2 ∨ p.te ≤ 0 then 2 else if input = 1 ∨ p.tc ≤ 0 then 1 else 0

/-- The charge at the tail (R329). -/
def Policer.charge (p : Policer) (colour m : Nat) : Policer :=
  let d : Int := (m * 8000 : Nat)
  let q := { p with bytes := (p.bytes + m) % 2 ^ 64 }
  if p.kind = 2 ∧ colour = 0 then { q with tc := p.tc - d }
  else if p.kind = 2 ∧ colour = 1 then { q with te := p.te - d }
  else if p.kind = 3 ∧ colour = 0 then { q with tc := p.tc - d, te := p.te - d }
  else if p.kind = 3 ∧ colour = 1 then { q with te := p.te - d }
  else q

/-- The colour a DSCP gives (R331). -/
def dscpColour (d : Nat) : Nat :=
  let y := d / 2 % 4
  if d % 2 = 0 ∧ 1 ≤ d / 8 ∧ d / 8 ≤ 4 ∧ y ≠ 0 then y - 1 else 0

/-- The input colour of a meter, from the frame's DEI bit and DSCP where it has them (R331). -/
def Policer.input (p : Policer) (dei dscp : Nat) : Nat :=
  if p.aware = 0 then 0 else if p.src = 0 then (if dei = 0 then 0 else 1) else dscpColour dscp

/-- A meter decides a frame's colour: the colour, the charge that is pending, and the state with the counts (R328, R329). The charge holds the
policer's key, its epoch, the colour and the overhead. `given` is the colour a stack header carried (R629). A record with an uncorrectable error colours every frame
red (R586). -/
def State.meterHead (s0 : State) (t n dei dscp : Nat) (given : Option Nat) : Nat × Option (Nat × Nat × Nat × Nat) × State :=
  let s := s0.policerRefill t
  let p := s.policer t n
  let inp := match given with
    | some c => if p.aware = 0 then 0 else c
    | none => p.input dei dscp
  if p.bad then (2, none, s)
  else if p.kind < 2 then (inp, none, s.bump (O.METER_KIND_MISS t))
  else
    let c := p.colour inp
    let q := if c = 0 then { p with green := (p.green + 1) % 2 ^ 64 } else if c = 1 then { p with yellow := (p.yellow + 1) % 2 ^ 64 }
      else { p with red := (p.red + 1) % 2 ^ 64 }
    (c, some (16384 * t + n, p.epoch, c, ofS 32 p.overhead), s.setPolicer t n q)

/-- The pending charge of a frame is made with a length (R329, R330); a change of KIND has dropped it (R334). -/
def State.chargeLen (s0 : State) (fid : Nat) (len : Frame → Nat) : State :=
  match s0.frame fid with
  | some f =>
    match f.charge with
    | some (key, epoch, colour, ov) =>
      let s := s0.policerRefill (key / 16384)
      let p := s.policer (key / 16384) (key % 16384)
      let m := (max 1 ((len f : Int) + toS 32 ov)).toNat
      let s1 := s.modFrame fid (fun x => { x with charge := none })
      if p.epoch = epoch then s1.setPolicer (key / 16384) (key % 16384) (p.charge colour m) else s1
    | none => s0
  | none => s0

/-- The pending charge of a frame is made with its length (R329). -/
def State.chargeFrame (s : State) (fid : Nat) : State := s.chargeLen fid Frame.len

/-- The pending charge of a frame discarded before its last segment reaches the pipe (R330): what its port has counted of a frame that still arrives is a free value
no greater than its length (assumption 3). -/
def State.chargeSoFar (s : State) (fid : Nat) : State :=
  match s.frame fid with
  | some f =>
    if f.charge.isNone || f.ended || f.cut != 0 then s.chargeFrame fid
    else
      let r := s.draw 14
      r.2.chargeLen fid (fun x => min x.len r.1)
  | none => s

/-! The policer record (R334 to R336), as the value of bytes 0x00 to 0x1F. -/

/-- The refusal of a POL_WRITE: reserved encodings, ranges, and a TRTCM whose peak is below its committed (R335); 0 when accepted. -/
def polCheck (v : Nat) : Nat :=
  let kind := octet v 2
  let ov := toS 32 (octets v 4 4)
  if 16384 ≤ octets v 0 2 ∨ 3 < kind ∨ 3 < octet v 3 ∨ 1 < octet v 0x18 ∨ octets v 0x19 7 ≠ 0 then 0x06
  else if octets v 0x0C 4 ≠ 0 ∧ kind ≠ 3 ∨ octets v 0x14 4 ≠ 0 ∧ kind < 2 then 0x06
  else if 1600000000 < octets v 8 4 ∨ 1600000000 < octets v 0x0C 4 then 0x05
  else if octets v 0x10 4 = 0 ∨ 16777216 < octets v 0x10 4 ∨ 16777216 < octets v 0x14 4 ∨ ov < -64 ∨ 127 < ov then 0x05
  else if kind = 3 ∧ (octets v 0x0C 4 < octets v 8 4 ∨ octets v 0x14 4 < octets v 0x10 4) then 0x09
  else 0

/-- A policer after a POL_WRITE (R334). -/
def Policer.written (p : Policer) (v : Nat) : Policer :=
  let q := { p with
    kind := octet v 2, src := octet v 3 / 2, aware := octet v 3 % 2, overhead := toS 32 (octets v 4 4), cir := octets v 8 4,
    pir := octets v 0x0C 4, cbs := octets v 0x10 4, ebs := octets v 0x14 4, bad := false }
  let full : Int := (q.cbs * 8000 : Nat)
  let fullE : Int := (q.ebs * 8000 : Nat)
  let r := if q.kind ≠ p.kind then { q with tc := full, te := fullE, epoch := p.epoch + 1 }
    else { q with tc := min p.tc full, te := min p.te fullE }
  if octet v 0x18 = 1 then { r with green := 0, yellow := 0, red := 0, bytes := 0 } else r

/-- A POL_WRITE (R334). -/
def State.polWrite (s : State) (t v : Nat) : State := s.modPolicer t (octets v 0 2 % 16384) (fun p => p.written v)

/-- POL_READ: the 80 bytes of a policer's record (R336). -/
def State.polRead (s : State) (t n : Nat) : Bytes :=
  let p := s.policer t n
  natLe n 2 ++ natLe p.kind 1 ++ natLe (2 * p.src + p.aware) 1 ++ natLe (ofS 32 p.overhead) 4 ++ natLe p.cir 4 ++ natLe p.pir 4 ++
  natLe p.cbs 4 ++ natLe p.ebs 4 ++ natLe 0 8 ++ natLe (ofS 64 p.tc) 8 ++ natLe (ofS 64 p.te) 8 ++ natLe p.green 8 ++ natLe p.yellow 8 ++
  natLe p.red 8 ++ natLe p.bytes 8

end Sys2Proof.Machine
end

