-- ==== Sys2Proof/Machine/StackView.lean ====
section
/-! DEFINITION. What a member of a stack knows of the others by their HELLO records (R620, R621): the view, and the route toward each member. -/

namespace Sys2Proof.Machine

/-- The package's member number in force (R615, R633). -/
def State.me (s : State) : Nat := s.force O.STACK_MEMBER

/-- The ACTIVE span ports (R226, R615). -/
def State.spanPorts (s : State) : List Nat :=
  (List.range s.variant.ports).filter (fun p => (s.mode p).kind == 2 && s.obj (O.LINK_STATE p) == 6)

/-- A HELLO of an origin with these HOPS has arrived on a span port within the last STACK_DEAD (R621). -/
def State.helloFresh (s : State) (m p hops : Nat) : Bool :=
  let a := tget 0 s.helloAt (1024 * m + 4 * p + hops)
  a != 0 && Nat.ble s.now (a - 1 + s.obj O.STACK_DEAD * usU)

/-- The lowest HOPS of an origin kept on a span port (R621). -/
def State.keptHops (s : State) (m p : Nat) : Option Nat := [0, 1, 2].find? (s.helloFresh m p)

/-- A HELLO of an origin has arrived within the last STACK_DEAD (R621). -/
def State.heard (s : State) (m : Nat) : Bool :=
  s.helloAt.any (fun e => e.1 / 1024 == m && Nat.ble s.now (e.2 - 1 + s.obj O.STACK_DEAD * usU))

/-- The members a member holds in its view, itself among them (R621). -/
def State.viewNow (s : State) : Nat :=
  if !s.flag O.STACK_ENABLE then 0 else ofBits ((List.range 4).filter (fun m => m == s.me || s.heard m))

/-- STACK_ROUTE toward a member: 0xFE itself, the ACTIVE span port with the lowest kept HOPS, or 0xFF (R621, R632). -/
def State.stackRoute (s : State) (m : Nat) : Nat :=
  if !s.flag O.STACK_ENABLE then 0xFF
  else if m = s.me then 0xFE
  else
    match [0, 1, 2].findSome? (fun h => s.spanPorts.find? (fun p => s.helloFresh m p h)) with
    | some p => p
    | none => 0xFF

/-- STACK_ROUTE as it reads (R621, R633). -/
def State.routeBytes (s : State) : Nat := leNat (bytesOf ((List.range 4).map s.stackRoute))

/-- The upstream port of a member: its route toward the master (R444, R621). -/
def State.upstreamPort (s : State) : Nat :=
  if s.obj O.STACK_STATE = 2 then
    let r := s.stackRoute (s.obj O.STACK_MASTER)
    if r = 0xFE then 0xFF else r
  else 0xFF

/-- A package in WAIT_JOIN or REJECTED sends only HELLO records on its links to the stack (R625): the link's other end is a member or the master of it. -/
def State.stackMute (s : State) (p : Nat) : Bool :=
  Nat.ble 4 (s.obj O.STACK_STATE) && (List.range 4).any (fun m => s.helloFresh m p 0 &&
    (match tget none s.peers m with | some x => x.role == 1 || x.role == 2 | none => false))

end Sys2Proof.Machine
end

