-- ==== Sys2Proof/Machine/Burin.lean ====
section
/-! DEFINITION. The Burin (R358 to R380): finish tags, shapers, the launch frames among the heads of queues, the precedence of R405 at a
selection point, and what a frame's leaving a queue does to the queue. -/

namespace Sys2Proof.Machine

/-- Queue `q` of port `p`. -/
def State.queue (s : State) (p q : Nat) : Queue := tget {} s.queues (16 * p + q)

/-- A queue changed. -/
def State.modQueue (s : State) (p q : Nat) (f : Queue → Queue) : State := { s with queues := tmod {} s.queues (16 * p + q) f }

/-- Its head frame, as number and copy. -/
def State.headOf (s : State) (p q : Nat) : Option (Nat × Nat) := (s.queue p q).frames.head?

/-- OVERHEAD of a queue in force (R374, R379). -/
def State.overhead (s : State) (p q : Nat) : Int := toS 32 (octets (s.force (O.QCFG p q)) 4 4)

/-- WEIGHT of a queue (R379). -/
def State.weight (s : State) (p q : Nat) : Nat := max 1 (octets (s.obj (O.QCFG p q)) 0 2)

/-- RATE of a shaper record (R379). -/
def shapeRate (v : Nat) : Nat := octets v 8 4

/-- BURST of a shaper record, in millibits (R369, R379). -/
def shapeBurst (v : Nat) : Int := octets v 12 4 * 8000

/-- The metered length of `n` bytes under an overhead (R321). -/
def metered (n : Nat) (overhead : Int) : Nat := (max 1 ((n : Int) + overhead)).toNat

/-- The tag increment (R361). -/
def tagInc (m w : Nat) : Nat := m * 4096 / w

/-- Tag `a` precedes tag `b` (R364). -/
def precedes (a b : Nat) : Bool := 2 ^ 63 ≤ (a + 2 ^ 64 - b) % 2 ^ 64

/-- A tag advanced, modulo 2^64 (R361). -/
def tagAdd (a b : Nat) : Nat := (a + b) % 2 ^ 64

/-- V of a port (R361, R378). -/
def State.vtime (s : State) (p : Nat) : Nat := s.obj (O.VTIME p)

/-! Frames as the Burin sees them. -/

/-- The copy and the frame of a number and copy. -/
def State.both (s : State) (fid h : Nat) : Option (Copy × Frame) :=
  match s.copy fid h, s.frame fid with
  | some c, some f => some (c, f)
  | _, _ => none

/-- A frame's length as its tag uses it: 64 bytes until its last segment is in the Basin (R367). -/
def State.tagLen (s : State) (fid h : Nat) : Nat :=
  match s.both fid h with
  | some (c, f) => if c.complete then c.len f else 64
  | none => 64

/-- The longest length a frame can have on a port (R382). -/
def State.longest (s : State) (p : Nat) : Nat := s.obj (O.MAX_FRAME p) + 12

/-- The duration of a frame on a port, in ps (R382). -/
def State.duration (s : State) (p q fid h : Nat) : Nat :=
  let n := match s.both fid h with
    | some (c, f) => if c.complete then c.len f else s.longest p
    | none => s.longest p
  ceilDiv (metered n (s.overhead p q) * 8000000) (max 1 (s.obj (O.NOMINAL_RATE p)))

/-- The full launch time in units of a TS64 launch time, judged from the seconds `c` of the active domain (R398). -/
def launchFull (c v : Nat) : Int :=
  let x : Int := (v / 2 ^ 32 : Nat)
  let lo : Int := (c : Int) - 2 ^ 31
  let sec : Int := lo + (x - lo) % 2 ^ 32
  sec * (secU : Int) + ((v % 2 ^ 32 * 2 ^ 14 : Nat) : Int)

/-- The launch time of a frame as its sender gave it; only the frame itself carries one (R397). -/
def State.launchOf (s : State) (fid h : Nat) : Option Nat :=
  match s.frame fid with
  | some f => if h = 0 then f.hm.launch else none
  | none => none

/-- The launch time of a frame that `head` describes, in units of the active domain; none for a frame that is no launch frame (R397,
R398). -/
def State.launchT (s : State) (p fid h : Nat) (head : Head) : Option Int :=
  if bit head.cfg 0 then (s.launchOf fid h).map (launchFull (s.txRef p / secU)) else none

/-- The rate of a port, in Mb/s: its nominal rate while every lane carries data at full speed, less on fewer lanes or at a lower SGMII speed (R46). -/
def State.rateOf (s : State) (p : Nat) : Nat :=
  let m := s.mode p
  let full := s.obj (O.NOMINAL_RATE p)
  if m.kind = 1 ∧ s.obj (O.SPEED_NOW p) ≠ 0 then s.obj (O.SPEED_NOW p)
  else if s.obj (O.WIDTH_NOW p) < m.width then full * s.obj (O.WIDTH_NOW p) / m.width else full

/-- The rate a frame arrives at, in Mb/s (R46). -/
def State.ingressMbps (s : State) (f : Frame) : Nat :=
  match f.src.ingress with
  | some p => s.rateOf p
  | none => 800000

/-- A copy may start before its end is in the Basin (R46, R257, R391). -/
def State.mayCut (s : State) (p q : Nat) (c : Copy) (f : Frame) : Bool :=
  c.alone && f.pass == 0 && s.flag (O.CUT_THROUGH p) && decide (s.obj (O.NOMINAL_RATE p) ≤ s.ingressMbps f) && s.gateAlwaysOpen p q

/-- Priority of a queue (R244). -/
def State.prioOf (s : State) (p q : Nat) : Nat := field (s.obj (O.QUEUE_PRIO p)) (4 * q + 2) (4 * q)

/-- A priority is paused by the partner (R244). -/
def State.paused (s : State) (p prio : Nat) : Bool := bit (s.obj (O.PAUSED_NOW p)) prio && s.now < tget 0 (s.port p).pauseEnd prio

/-- A shaper conforms (R371). -/
def conforms (v : Nat) (tokens : Int) : Bool := shapeRate v == 0 || 0 < tokens

/-- The queue's own shaper conforms. -/
def State.queueConforms (s : State) (p q : Nat) : Bool := conforms (s.force (O.QCFG p q)) (s.queue p q).tokens

/-- The port's shaper conforms. -/
def State.portConforms (s : State) (p : Nat) : Bool := conforms (s.force (O.PORT_SHAPE p)) (s.burin p).tokens

/-! A frame leaves without being sent. -/

/-- LAUNCH_STATS: one of its four counts rises (R408). -/
def State.launchStat (s : State) (p q i : Nat) : State :=
  let v := s.obj (O.LAUNCH_STATS p q)
  s.setObj (O.LAUNCH_STATS p q) (setOctets v (8 * i) 8 (octets v (8 * i) 8 + 1))

/-- A LAUNCH_LATE event of a queue (R400, R401). -/
def State.launchLate (s : State) (p q : Nat) : State := s.raise (tileOf p) 0x49 6 (16 * p + q)

/-- A copy that has not started is discarded, for a cause of R501. -/
def State.lose (s : State) (fid h cause : Nat) : State := (((s.noStart fid h).noteFate fid h cause 0 0).dropCopy fid h)

/-! Heads and tags. -/

/-- A frame that becomes head is too far ahead of its launch time (R401). -/
def State.tooFar (s : State) (p fid h : Nat) (head : Head) : Bool :=
  match s.launchT p fid h head with
  | some t => decide ((s.txRef p + s.obj (O.LAUNCH_HORIZON p) * msU : Nat) < t)
  | none => false

/-- A head frame of known length that no open run of its gate can hold (R390). -/
def State.oversize (s : State) (p q fid h : Nat) : Bool :=
  match s.both fid h, (s.burin p).oper with
  | some (c, _), some l =>
    s.flag (O.HATCH_ENABLE p) && c.complete && l.any (fun e => bit e.1 q) &&
      (match longestRun l q with | some r => decide (r * 1000 < s.duration p q fid h) | none => false)
  | _, _ => false

/-- The frame at the front of a queue becomes its head: far and oversize frames are discarded, and the tag of another head is assigned
from `base`, or none for a launch frame (R362, R390, R401, R403; after a discard the next head is tagged from V, assumption 14). -/
def State.headUp (s : State) (p q : Nat) : Nat → Nat → State
  | 0, _ => s
  | n + 1, base =>
    match s.headOf p q with
    | none => s.modQueue p q (fun x => { x with head := {}, held := false })
    | some (fid, h) =>
      let hd : Head := { cfg := s.obj (O.LAUNCH_CFG p q), w := s.weight p q }
      let next := fun (a : State) => (a.modQueue p q (fun x => { x with frames := x.frames.drop 1 }))
      if s.tooFar p fid h hd then
        ((((next s).lose fid h 3).launchStat p q 3).launchLate p q).headUp p q n (s.vtime p)
      else if s.oversize p q fid h then
        (((next s).lose fid h 6).bump (O.HATCH_OVERSIZE p)).headUp p q n (s.vtime p)
      else if (s.launchT p fid h hd).isSome then s.modQueue p q (fun x => { x with head := hd })
      else
        let m := metered (s.tagLen fid h) (s.overhead p q)
        let known := match s.copy fid h with
          | some c => c.complete
          | none => true
        s.modQueue p q (fun x => { x with
          head := { hd with f := tagAdd base (tagInc m hd.w), tagged := true, prov := !known, m := m } })

/-- The next frame of a queue becomes head after one was taken from it; its tag starts from `base`. The port was not idle up to now (R249). -/
def State.nextHead (s : State) (p q base : Nat) : State :=
  (s.headUp p q ((s.queue p q).frames.length + 1) base).modPort p (fun x => { x with idleFrom := s.now })

/-- A copy is put at the end of its queue; alone there, it becomes head at once (R362). -/
def State.enqueue (s : State) (p q fid h : Nat) : State :=
  let empty := (s.queue p q).frames.isEmpty
  let s1 := s.modQueue p q (fun x => { x with frames := x.frames ++ [(fid, h)] })
  if empty then s1.nextHead p q (s.vtime p) else s1

/-- A copy is taken out of a queue without being sent. -/
def State.unqueue (s : State) (p q fid h : Nat) : State :=
  let wasHead := s.headOf p q == some (fid, h)
  let s1 := s.modQueue p q (fun x => { x with frames := x.frames.filter (· != (fid, h)) })
  if wasHead then s1.nextHead p q (s.vtime p) else s1

/-- A frame goes back to the head of its queue with the tag it had; the tag of the frame behind it is discarded (R368). A frame that is too
long for the operating list is discarded (R390). -/
def State.putBack (s : State) (p : Nat) (x : Sel) : State :=
  let s1 := (s.modPort p (fun y => { y with sel := none })).modCopy x.fid x.h (fun c => { c with place := .queued })
  let s2 := s1.modQueue p x.q (fun y => { y with frames := (x.fid, x.h) :: y.frames, head := x.head })
  if s2.oversize p x.q x.fid x.h then
    (((s2.modQueue p x.q (fun y => { y with frames := y.frames.drop 1 })).lose x.fid x.h 6).bump (O.HATCH_OVERSIZE p)).nextHead p x.q (s.vtime p)
  else s2

/-- The frame selected for a port that leaves ACTIVE returns to its queue (R360). -/
def State.unselect (s : State) (p : Nat) : State :=
  match (s.port p).sel with
  | some x => s.putBack p x
  | none => s

/-- A copy that has not started is removed from where it stands and discarded, for a cause of R501. -/
def State.discardCopy (s : State) (fid h cause : Nat) : State :=
  match s.both fid h with
  | none => s
  | some (c, _) =>
    let s1 := match c.place, c.dst with
      | .queued, .port p q => s.unqueue p q fid h
      | .queued, .afi t ch => { s with afiQueues := tmod [] s.afiQueues (2 * t + ch) (fun l => l.filter (· != (fid, h))) }
      | .queued, .ring t r => { s with ringQueues := tmod [] s.ringQueues (2048 * t + r) (fun l => l.filter (· != (fid, h))) }
      | .selected, .port p _ => s.modPort p (fun y => { y with sel := none })
      | _, _ => s
    s1.lose fid h cause

/-! Shapers. -/

/-- A bucket after a refill (R370). -/
def refillShaper (v : Nat) (tokens : Int) : Int :=
  if shapeRate v = 0 then shapeBurst v else min (tokens + shapeRate v * 50) (shapeBurst v)

/-- The shapers of a port refill at a whole multiple of 100 ns of L, once, and before whatever else falls in the same cycle; values written since the last refill
come into force (R370, R374, R376). -/
def State.shaperRefill (s : State) (p : Nat) : State :=
  if s.L % (100 * nsU) ≠ 0 ∨ (s.burin p).refilledAt = some s.now then s
  else
    let s1 := s.adopt (O.PORT_SHAPE p)
    let s2 := s1.modBurin p (fun b => { b with tokens := refillShaper (s1.obj (O.PORT_SHAPE p)) b.tokens, refilledAt := some s.now })
    s2.each (List.range 16) (fun q a =>
      let b := a.adopt (O.QCFG p q)
      b.modQueue p q (fun x => { x with tokens := refillShaper (b.obj (O.QCFG p q)) x.tokens }))

/-- A charge of `n` bytes of frame against a shaper record (R372). -/
def chargeShaper (v n : Nat) (tokens : Int) : Int :=
  if shapeRate v = 0 then tokens else tokens - metered n (toS 32 (octets v 4 4)) * 8000

/-- The frame in transmission, of length `n`, charges its queue's and its port's shaper, once (R372). -/
def State.chargeTxLen (s0 : State) (p n : Nat) : State :=
  match (s0.burin p).tx with
  | none => s0
  | some x =>
    if x.charged then s0
    else
      let s := s0.shaperRefill p
      let s1 := s.modBurin p (fun b => { b with tokens := chargeShaper (s.force (O.PORT_SHAPE p)) n b.tokens, tx := some { x with charged := true } })
      s1.modQueue p x.q (fun y => { y with tokens := chargeShaper (s.force (O.QCFG p x.q)) n y.tokens })

/-- The frame in transmission charges its shapers, once it has started and its last segment is in the Basin (R372). -/
def State.chargeTx (s : State) (p : Nat) : State :=
  match (s.burin p).tx.bind (fun x => s.both x.fid x.h) with
  | some (c, f) => if c.complete && !c.bad then s.chargeTxLen p (c.len f) else s
  | none => s

/-- The shapers of a port fill, its tags are discarded and its V becomes 0 (R377). -/
def State.resetBurin (s : State) (p : Nat) : State :=
  let s1 := (s.setObj (O.VTIME p) 0).modBurin p (fun b => { b with tokens := shapeBurst (s.force (O.PORT_SHAPE p)) })
  s1.each (List.range 16) (fun q a => a.modQueue p q (fun x => { x with
    tokens := shapeBurst (s.force (O.QCFG p q)), head := {}, held := false }))

/-- What a tag given with a provisional length is corrected by, once the metered length is known, modulo 2^64 (R367). -/
def Head.off (x : Head) (m : Nat) : Nat := tagInc m x.w + 2 ^ 64 - tagInc x.m x.w

/-- The head tag of a queue is corrected; a head that has none is left (R367). -/
def State.shiftTag (s : State) (p q off : Nat) : State :=
  s.modQueue p q (fun y => { y with head := if y.head.tagged then { y.head with f := tagAdd y.head.f off } else y.head })

/-- The correction of a frame that was chosen with a provisional tag goes to the frame that now heads its queue (R367). -/
def State.correctSel (s : State) (p fid h m : Nat) : State :=
  match (s.port p).sel with
  | some z =>
    if z.fid = fid ∧ z.h = h ∧ z.head.prov then
      (s.shiftTag p z.q (z.head.off m)).modPort p (fun y => { y with sel := some { z with head := { z.head with prov := false } } })
    else s
  | none => s

/-- As for a frame selected, for the frame in transmission (R367). -/
def State.correctTx (s : State) (p fid h m : Nat) : State :=
  match (s.burin p).tx with
  | some u =>
    if u.fid = fid ∧ u.h = h ∧ u.head.prov then
      (s.shiftTag p u.q (u.head.off m)).modBurin p (fun b => { b with tx := some { u with head := { u.head with prov := false } } })
    else s
  | none => s

/-- A frame's last segment is in the Basin and its length is `n`: a provisional tag is corrected, on the frame itself while it is head, otherwise on the frame that
heads its queue (R367). -/
def State.correctTag (s : State) (p q fid h n : Nat) : State :=
  let m := metered n (s.overhead p q)
  let x := (s.queue p q).head
  if s.headOf p q = some (fid, h) then
    if x.prov then (s.shiftTag p q (x.off m)).modQueue p q (fun y => { y with head := { y.head with prov := false } }) else s
  else (s.correctSel p fid h m).correctTx p fid h m

/-- The cells of a frame that has been received whole stand in its queue's depth for a time, though the frame is then discarded (R346, R353). -/
def State.peak (s : State) (fid h : Nat) : State :=
  match s.copy fid h, s.frame fid with
  | some c, some f =>
    if f.ended ∧ (s.hold fid c.dst.tile).users.contains h then
      s.modQstat c.dst.qkey (fun x => { x with depthMax := max x.depthMax (x.depth + (c.need f - c.cells)) })
    else s
  | _, _ => s

/-- A copy is ended as after a late conflict: discarded where it has not started, otherwise left to end bad (R273, R40). -/
def State.endCopy (s : State) (fid h : Nat) : State :=
  match s.copy fid h with
  | none => s
  | some c =>
    if c.place = .sending ∨ c.place = .delivering then s.modCopy fid h (fun x => { x with bad := true, complete := true })
    else (s.peak fid h).discardCopy fid h 6

/-- Every copy of a frame is ended, its pending charge is made, and the frame itself is done (R273, R274, R330). -/
def State.endFrame (s : State) (fid : Nat) : State :=
  let s1 := (s.copiesOf fid).foldl (fun a h => a.endCopy fid h) ((s.countCut fid).chargeSoFar fid)
  ((s1.modFrame fid (fun f => { f with bad := true, lastSeg := true })).land fid).tidy fid

/-- The head frame of a queue is discarded if no open run can hold it (R390). -/
def State.checkOversize (s : State) (p q : Nat) : State :=
  match s.headOf p q with
  | some (fid, h) =>
    if s.oversize p q fid h then
      (((s.modQueue p q (fun x => { x with frames := x.frames.drop 1 })).lose fid h 6).bump (O.HATCH_OVERSIZE p)).nextHead p q (s.vtime p)
    else s
  | none => s

/-- The pending list starts, or its pair is found not complementary; a new list is held against every head (R394, R390, R584). -/
def State.listStart (s : State) (p : Nat) : State :=
  match s.startDue p with
  | none => s
  | some x =>
    if !s.pairOk (.operBase p) then s.hatchMismatch p
    else (s.promote p x).each (List.range 16) (fun q a => a.checkOversize p q)

/-- HATCH_COMMIT is taken; a start due in the same cycle comes first (R392, R395). -/
def State.hatchCommit (s : State) (p : Nat) : State := (s.listStart p).takeCommit p

/-- The launch frames of a port are judged anew: none that waits is declared late (R383). -/
def State.launchesAnew (s : State) (p : Nat) : State :=
  (s.each (List.range 16) (fun q a => a.modQueue p q (fun x => { x with head := { x.head with late := false } }))).modPort p (fun y =>
    { y with sel := y.sel.map (fun z => { z with head := { z.head with late := false } }) })

/-- The frame in transmission began `step` units later in a time that has stepped (R383, R405). -/
def State.shiftTx (s : State) (p : Nat) (step : Int) : State :=
  s.modBurin p (fun b => { b with tx := b.tx.map (fun x => { x with ref := ((x.ref : Int) + step).toNat }) })

/-- A re-epoch of the active domain: at each port, the start of a pending list is computed again, and queued launch times are judged against the new time; `old` is
the state before (R383). -/
def State.hatchReepoch (s old : State) : State :=
  s.each ((List.range s.variant.ports).filter s.portUp) (fun p a =>
    let b := (a.launchesAnew p).shiftTx p ((a.txRef p : Int) - old.txRef p)
    match (b.burin p).pend with
    | some x => b.startPend p x (b.txRef p)
    | none => b)

/-! Selection. -/

/-- The bits per µs that a port sends. -/
def State.txMbps (s : State) (p : Nat) : Nat :=
  max 1 (if s.obj (O.SPEED_NOW p) = 0 then s.obj (O.NOMINAL_RATE p) else s.obj (O.SPEED_NOW p))

/-- The bytes of the frame in transmission that remain to be sent; an unknown length counts as the longest (R359, R382). -/
def State.remaining (s : State) (p : Nat) (x : Tx) : Nat :=
  let n := match s.both x.fid x.h with
    | some (c, f) => if c.complete then c.len f else s.longest p
    | none => 0
  n - (s.now - x.began) * s.txMbps p / (8 * usU)

/-- The port is at its selection point (R359, R360), with its tile's Burin on (R553). -/
def State.selectionPoint (s : State) (p : Nat) : Bool :=
  bit (s.obj (O.PD_ON (tileOf p))) 47 && s.obj (O.LINK_STATE p) == 6 && !s.stackMute p && (s.port p).sel.isNone && !(s.port p).hdWait &&
  (match (s.burin p).tx with | none => true | some x => decide (s.remaining p x ≤ 2048))

/-- The end of the frame in transmission, as gates refer to it, in units (R382, R405). -/
def State.txEnd (s : State) (p : Nat) : Nat :=
  match (s.burin p).tx with
  | none => 0
  | some x => x.ref + ceilDiv (s.duration p x.q x.fid x.h * nsU) 1000

/-- The instant a frame selected now would start (R405). -/
def State.startAtNext (s : State) (p : Nat) : Nat := max (s.txRef p + 10 * nsU) (s.txEnd p)

/-- The head launch frame of a queue is late at a start instant (R400). -/
def lateAt (t : Int) (start : Nat) : Bool := t + nsU < start

/-- Late head frames of a queue are declared: discarded under LATE_DROP, marked otherwise (R400). -/
def State.declareLate (s : State) (p q ts : Nat) : Nat → State
  | 0 => s
  | n + 1 =>
    match s.headOf p q with
    | none => s
    | some (fid, h) =>
      match s.launchT p fid h (s.queue p q).head with
      | none => s
      | some t =>
        if !lateAt t ts then s
        else if bit (s.queue p q).head.cfg 1 then
          let s1 := ((((s.modQueue p q (fun x => { x with frames := x.frames.drop 1 })).lose fid h 2).launchStat p q 2).launchLate p q)
          (s1.nextHead p q (s.vtime p)).declareLate p q ts n
        else s.modQueue p q (fun x => { x with head := { x.head with late := true } })

/-- What the Burin weighs of a queue at a selection point: its head's launch time, if it is a launch frame, and whether the head may be
sent (R405). -/
structure Offer where
  q     : Nat
  fid   : Nat
  h     : Nat
  t     : Option Int
  ok    : Bool
deriving DecidableEq, Repr

/-- The earliest launch time not before `ts` among the unpaused heads (R405). -/
def State.nextLaunch (s : State) (p ts : Nat) : Option Int :=
  (List.range 16).foldl (fun a q =>
    match s.headOf p q with
    | none => a
    | some (fid, h) =>
      match s.launchT p fid h (s.queue p q).head with
      | none => a
      | some t =>
        if s.paused p (s.prioOf p q) ∨ t < ts then a
        else match a with
          | none => some t
          | some b => some (min b t)) none

/-- Whether the head of a queue may be sent at `ts` (R405, R382). -/
def State.offer (s : State) (p ts : Nat) (next : Option Int) (q : Nat) : Option Offer :=
  match s.headOf p q with
  | none => none
  | some (fid, h) =>
    match s.both fid h with
    | none => none
    | some (c, f) =>
      let d := s.duration p q fid h
      let t := s.launchT p fid h (s.queue p q).head
      let ready := c.complete || s.mayCut p q c f
      let pausedNow := s.paused p (s.prioOf p q)
      let guard := match next with
        | none => true
        | some n => decide (((ts * 1000 + d * nsU : Nat) : Int) ≤ n * 1000)
      let ok := match t with
        | some l =>
          if lateAt l ts then s.fitsAt p q ts d
          else
            let st := max ts l.toNat
            s.fitsAt p q st d && decide (l - ts ≤ (s.obj (O.LAUNCH_LEAD p) * nsU : Nat))
        | none => s.fitsAt p q ts d && guard && s.queueConforms p q && s.portConforms p
      some ⟨q, fid, h, t, ready && !pausedNow && ok⟩

/-- A queue after a selection point: an eligible queue that was held is tagged from V, a queue that may not send is held, and points at which
its shaper did not conform are counted (R362, R366, R380). -/
def State.atPoint (s : State) (p : Nat) (o : Offer) : State :=
  let v := s.vtime p
  let x := s.queue p o.q
  let m := metered (s.tagLen o.fid o.h) (s.overhead p o.q)
  let f1 := tagAdd v (tagInc m (s.weight p o.q))
  let again := o.ok && x.held && x.head.tagged && precedes x.head.f f1
  s.modQueue p o.q (fun y => { y with
    held := !o.ok, shapeHeld := if s.queueConforms p o.q then y.shapeHeld else y.shapeHeld + 1,
    head := if again then { y.head with f := f1, w := s.weight p o.q, m := m } else y.head })

/-- The offer to take: the launch frame with the smallest launch time, otherwise the smallest tag; the lower queue between equals (R363,
R405). -/
def State.best (s : State) (p : Nat) (l : List Offer) : Option Offer :=
  let launch := l.filter (fun o => o.t.isSome)
  if launch.isEmpty then
    l.foldl (fun a o => match a with
      | none => some o
      | some b => if precedes (s.queue p o.q).head.f (s.queue p b.q).head.f then some o else a) none
  else
    launch.foldl (fun a o => match a with
      | none => some o
      | some b => if o.t.getD 0 < b.t.getD 0 then some o else a) none

/-- A frame is handed to the port slot, and the next frame of its queue becomes head (R362, R363, R403). -/
def State.take (s : State) (p : Nat) (o : Offer) : State :=
  let hd := (s.queue p o.q).head
  let s1 := s.modPort p (fun y => { y with sel := some ⟨o.fid, o.h, o.q, hd⟩ })
  let s2 := (s1.modCopy o.fid o.h (fun c => { c with place := .selected })).modQueue p o.q (fun x => { x with frames := x.frames.drop 1 })
  if o.t.isSome then s2.nextHead p o.q (s.vtime p)
  else (s2.setObj (O.VTIME p) hd.f).nextHead p o.q hd.f

/-- The Burin makes a selection for a port (R359 to R368, R405). -/
def State.select (s0 : State) (p : Nat) : State :=
  let s := s0.shaperRefill p
  if !s.selectionPoint p then s
  else
    let ts := s.startAtNext p
    let s1 := s.each (List.range 16) (fun q a => a.declareLate p q ts ((a.queue p q).frames.length + 1))
    let next := s1.nextLaunch p ts
    let offers := (List.range 16).filterMap (s1.offer p ts next)
    let s2 := offers.foldl (fun a o => a.atPoint p o) s1
    let s3 := if offers.isEmpty ∨ s2.portConforms p then s2 else s2.modBurin p (fun b => { b with held := b.held + 1 })
    match s3.best p (offers.filter (·.ok)) with
    | none => s3
    | some o => s3.take p o

end Sys2Proof.Machine
end

