-- ==== Sys2Proof/Machine/Symbols.lean ====
section
/-! DEFINITION. What a lane puts on the line: PAM4 levels (R148, R155, R160), test patterns (R174, R175), and the 257-bit blocks of a span link with
their layouts (R199, R200, R205, R206). A block is a number whose bit i is the block's bit i. -/

namespace Sys2Proof.Machine

/-! Levels. -/

/-- The PAM4 level of a pair of bits, the first one most significant (R148): 00, 01, 11, 10 are levels 0, 1, 2, 3. -/
def grayLevel (a b : Bool) : Nat := 2 * b2n a + b2n (a != b)

/-- The pair of bits of a PAM4 level (R148). -/
def grayBits (n : Nat) : Bool × Bool := (Nat.ble 2 n, n == 1 || n == 2)

/-- The levels of a stream of bits; a last bit without its partner waits for it. -/
def pam4Levels : List Bool → List Nat
  | a :: b :: l => grayLevel a b :: pam4Levels l
  | _ => []

/-- The bits of a stream of levels. -/
def pam4Bits (l : List Nat) : List Bool := l.flatMap (fun n => [(grayBits n).1, (grayBits n).2])

/-- The precoding 1/(1+D) mod 4 after a level sent before (R160). -/
def precode (prev : Nat) : List Nat → List Nat
  | [] => []
  | n :: l => let m := (n + 4 - prev % 4) % 4; m :: precode m l

/-- Inverted polarity maps level n to 3 - n, and in an NRZ mode swaps the two levels (R155). -/
def polar (pam4 inverted : Bool) (l : List Nat) : List Nat := if inverted then l.map (fun n => (if pam4 then 3 else 1) - n) else l

/-- The levels a lane puts at its balls for a stream of bits: coded, precoded where the partner asked, and inverted where TX_INVERT is in force
(R148, R155, R160); in an NRZ mode the bits themselves are the two levels. -/
def sendLevels (pam4 precoded inverted : Bool) (bits : List Bool) : List Nat :=
  polar pam4 inverted (if pam4 then (if precoded then precode 0 (pam4Levels bits) else pam4Levels bits) else bits.map b2n)

/-- The bits of the levels a receiver has decided, with RX_INVERT undone (R148, R155). -/
def takeLevels (pam4 inverted : Bool) (levels : List Nat) : List Bool :=
  let l := polar pam4 inverted levels
  if pam4 then pam4Bits l else l.map (fun n => n == 1)

/-! Test patterns (R174). The polynomials are those of IEEE 802.3 (assumption 83). -/

/-- The earlier bits that make the next bit of a PRBS pattern, counted back, and whether its output is inverted: PRBS7 x^7+x^6+1; PRBS31 x^31+x^28+1,
inverted; PRBS13Q x^13+x^12+x^2+x+1; PRBS31Q as PRBS31. -/
def patternTaps (code : Nat) : List Nat × Bool :=
  if code = 1 then ([7, 6], false) else if code = 2 then ([31, 28], true) else if code = 3 then ([13, 12, 2, 1], false)
  else if code = 4 then ([31, 28], true) else ([], false)

/-- The bits before the next one that a pattern needs. -/
def patternSpan (code : Nat) : Nat := (patternTaps code).1.headD 0

/-- The next bit of a PRBS pattern after the bits `hist`, newest first. -/
def patternNext (code : Nat) (hist : List Bool) : Bool :=
  let t := patternTaps code
  t.1.foldl (fun a k => a != (hist.getD (k - 1) false != t.2)) t.2

/-- `n` bits of a PRBS pattern after the bits `hist`, newest first. -/
def patternRun (code : Nat) : Nat → List Bool → List Bool
  | 0, _ => []
  | n + 1, hist => let b := patternNext code hist; b :: patternRun code n (b :: hist)

/-- The level of SSPRBS at a place of its sequence (R174). -/
def ssprbs (i : Nat) : Nat := Config.ssprbs (i % 65535) % 4

/-- `n` levels or, in an NRZ mode, bits of a pattern as a lane sends them before TX_INVERT (R174): the generator starts from all ones, SSPRBS from its
first symbol. -/
def patternSymbols (code n : Nat) : List Nat :=
  if code = 5 then (List.range n).map ssprbs
  else
    let pam4 := code == 3 || code == 4
    let bits := patternRun code (if pam4 then 2 * n else n) (List.replicate 31 (code == 1 || code == 3))
    if pam4 then pam4Levels bits else bits.map b2n

/-- A stretch of a PRBS pattern: each of the last `n` bits is the one the bits before it make, and those are not the state the pattern never has. -/
def prbsRun (code n : Nat) (bits : List Bool) : Bool :=
  let k := patternSpan code
  let l := bits.drop (bits.length - (n + k))
  Nat.ble (n + k) bits.length && (l.take k).any (fun b => b != (patternTaps code).2) && l.drop k == patternRun code n (l.take k).reverse

/-- 64 symbols in a row follow the pattern of a checker (R175). -/
def checkerClean (code : Nat) (inverted : Bool) (levels : List Nat) : Bool :=
  if code = 5 then
    let l := polar true inverted levels
    let w := l.drop (l.length - 64)
    Nat.ble 64 l.length && (List.range 65535).any (fun i => w == (List.range 64).map (fun k => ssprbs (i + k)))
  else
    let pam4 := code == 3 || code == 4
    prbsRun code (if pam4 then 128 else 64) (takeLevels pam4 inverted levels)

/-! Blocks of a span link (R199). -/

/-- CRC-32 of IEEE 802.3 over the lowest `n` bits of a number, bit 0 first (R199; assumption 84). -/
def crc32Bits (n v : Nat) : Nat :=
  Nat.xor ((List.range n).foldl (fun c i => crcBit 0xEDB88320 (Nat.xor c (b2n (bit v i)))) 0xFFFFFFFF) 0xFFFFFFFF

/-- A data block: header 0 and 256 bits, byte 0 lowest (R199; assumption 84). -/
def dataBlock (bs : Bytes) : Nat := leNat (bs.take 32) * 2

/-- Its CRC-32 closes a control block (R199). -/
def closeBlock (v : Nat) : Nat := v % 2 ^ 225 + crc32Bits 225 v * 2 ^ 225

/-- A control block (R199): header 1, its TYPE, and its fields, each with its lowest bit in the block. -/
def ctlBlock (ty : Nat) (fields : List (Nat × Nat)) : Nat := closeBlock (1 + ty % 256 * 2 + (fields.map (fun f => f.1 * 2 ^ f.2)).foldl (· + ·) 0)

/-- The CRC of a control block or comma is good. -/
def blockGood (b : Nat) : Bool := b / 2 ^ 225 == crc32Bits 225 (b % 2 ^ 225)

/-- An IDLE block (R205). -/
def idleBlock : Nat := ctlBlock 0x01 []
/-- UNIT_END with the SEQ and UCRC of its unit (R205). -/
def unitEnd (seq ucrc : Nat) : Nat := ctlBlock 0x03 [(seq % 4096, 9), (ucrc, 21)]
/-- ACK (R205). -/
def ackBlock (seq : Nat) : Nat := ctlBlock 0x04 [(seq % 4096, 9)]
/-- NAK (R205). -/
def nakBlock (seq : Nat) : Nat := ctlBlock 0x05 [(seq % 4096, 9)]
/-- LANE_DROP (R205). -/
def laneDropBlock (lane restripe replay : Nat) : Nat := ctlBlock 0x06 [(lane % 8, 9), (restripe % 4096, 12), (replay % 4096, 24)]
/-- LANE_ADD (R205). -/
def laneAddBlock (lane restripe : Nat) : Nat := ctlBlock 0x07 [(lane % 8, 9), (restripe % 4096, 12)]
/-- LANE_ACK (R205). -/
def laneAckBlock (acked lane restripe : Nat) : Nat := ctlBlock 0x08 [(acked % 256, 9), (lane % 8, 17), (restripe % 4096, 20)]
/-- SHED_REQ of a width (R205). -/
def shedReqBlock (width restripe token : Nat) : Nat := ctlBlock 0x09 [((width - 1) % 8, 9), (restripe % 4096, 12), (token % 65536, 24)]
/-- SHED_RSP (R205). -/
def shedRspBlock (result width restripe token : Nat) : Nat :=
  ctlBlock 0x0A [(result % 8, 9), ((width - 1) % 8, 12), (restripe % 4096, 15), (token % 65536, 27)]

/-- COMMA with its control TYPE as low byte (R200). -/
def commaWord : Nat := 0x9D3E61A7C05F284B

/-- The comma block (R200). -/
def commaBlock (phase lane width lanesUp : Nat) : Nat :=
  closeBlock (1 + commaWord * 2 + phase * 2 ^ 65 + lane % 8 * 2 ^ 68 + (width - 1) % 8 * 2 ^ 71 + lanesUp % 256 * 2 ^ 74)

/-- A received block is a comma with a good CRC (R201); its PHASE. -/
def isComma (b : Nat) : Bool := field b 64 1 == commaWord && bit b 0 && blockGood b
/-- PHASE of a comma (R200). -/
def commaPhase (b : Nat) : Nat := field b 67 65

/-- Blocks from one comma to the next (R200). -/
def commaEvery : Nat := 16384

/-- One bit of the self-synchronising scrambler 1 + x^39 + x^58 after the scrambled bits `hist`, newest first (R199). -/
def scrambleBit (hist : List Bool) (b : Bool) : Bool := b != (hist.getD 38 false != hist.getD 57 false)

/-- A stream through the scrambler. -/
def scramble (hist : List Bool) : List Bool → List Bool
  | [] => []
  | b :: l => let c := scrambleBit hist b; c :: scramble (c :: hist) l

/-- A scrambled stream through the descrambler, which keeps the scrambled bits. -/
def descramble (hist : List Bool) : List Bool → List Bool
  | [] => []
  | c :: l => scrambleBit hist c :: descramble (c :: hist) l

/-- The bits of a block in the order in which they are sent, header first. -/
def blockBits (b : Nat) : List Bool := (List.range 257).map (bit b)

/-- A block on its lane after the scrambled bits `hist` (R199): the header, and every block but the comma, scrambled. -/
def laneBits (hist : List Bool) (b : Nat) : List Bool :=
  bit b 0 :: (if isComma b then (blockBits b).drop 1 else scramble hist ((blockBits b).drop 1))

/-- The lanes of a set of lanes, ascending. -/
def lanesIn (mask : Nat) : List Nat := (List.range 8).filter (bit mask)

/-- Blocks striped in turn over the lanes in use in ascending order (R206), each beside its lane; a unit begins on the lowest lane (assumption 84). -/
def stripe (lanes : List Nat) (blocks : List Nat) : List (Nat × Nat) := blocks.mapIdx (fun i b => (lanes.getD (i % max 1 lanes.length) 0, b))

/-- The blocks of a retry unit: 31 data blocks and UNIT_END (R206). -/
def unitBlocks (seq : Nat) (data : Bytes) (ucrc : Nat) : List Nat :=
  (List.range 31).map (fun i => dataBlock (slice data (32 * i) 32)) ++ [unitEnd seq ucrc]

end Sys2Proof.Machine
end

