-- ==== Sys2Proof/Machine/Links.lean ====
section
/-! DEFINITION. The bring-up state machine of a port (Link Bring-up and Lane Faults, R183 to R198) and the deep rest of a lane
(R177 to R181). -/

namespace Sys2Proof.Machine

/-- A dictionary request or write that an interlock refuses is counted with its row (R597). -/
def State.interlock (s : State) (row : Nat) : State := (s.bump O.INTERLOCK_REFUSED).setObj O.INTERLOCK_LAST row

/-- A free value from 0 to `n` (assumption 3). -/
def State.drawTo (s : State) (n : Nat) : Nat × State := (Config.freeValue s.free % (n + 1), { s with free := s.free + 1 })

/-- LINK_STATE of a port (R224). -/
def State.link (s : State) (p : Nat) : Nat := s.obj (O.LINK_STATE p)

/-- LOS of a lane. -/
def State.los (s : State) (l : Nat) : Bool := s.flag (O.LOS_STATE l)

/-- LOL of a lane. -/
def State.lol (s : State) (l : Nat) : Bool := s.flag (O.LOL_STATE l)

/-- A port enters a bring-up state (R184). -/
def State.setLink (s : State) (p st : Nat) : State :=
  (s.setObj (O.LINK_STATE p) st).modPort p (fun x => { x with stateAt := s.now })

/-- A lane is in deep rest, on its way into it or out of it. -/
def State.resting (s : State) (l : Nat) : Bool := (s.lane l).restPhase != .out

/-- A lane enters a lane state; where a detector is not evaluated it reads asserted (R166), and where LOL is evaluated it reads asserted while LOS is (R165). -/
def State.setLane (s : State) (l st : Nat) : State :=
  let s1 := s.setObj (O.LANE_STATE l) st
  let s2 := if st = 0 then s1.setObj (O.LOS_STATE l) 1 else s1
  if st = 0 ∨ st = 1 ∨ st = 7 ∨ (st ≠ 5 ∧ s2.los l) then (s2.setObj (O.LOL_STATE l) 1).setObj (O.SNR_NOW l) 0 else s2

/-- Every lane of a port enters a lane state; a lane in FAULT or deep rest keeps its own (R179, R180; assumption 9). -/
def State.setLanes (s : State) (p st : Nat) : State :=
  s.each (s.lanesOf p) (fun l a => if a.resting l || a.obj (O.LANE_STATE l) == 7 then a else a.setLane l st)

/-- Some lane of the port runs a loop or sends a pattern (R176). -/
def State.tested (s : State) (p : Nat) : Bool :=
  s.obj (O.LOOP p) != 0 || (s.lanesOf p).any (fun l => s.obj (O.TX_PATTERN l) != 0)

/-- The port has an enabled hatch list or a queue with launch time enabled (R214, R248). -/
def State.timed (s : State) (p : Nat) : Bool :=
  s.flag (O.HATCH_ENABLE p) || (List.range 16).any (fun q => bit (s.obj (O.LAUNCH_CFG p q)) 0)

/-- The tap set a lane starts its training from (R153, R154, R179): TX_FIR_FIXED, the set kept over a rest, or the preset. -/
def State.firstTaps (s : State) (l : Nat) : Nat :=
  if s.obj (O.TX_FIR_MODE l) = 1 then s.obj (O.TX_FIR_FIXED l)
  else if (s.lane l).kept then s.obj (O.TX_FIR_NOW l)
  else preset (s.obj (O.TX_FIR_INIT l))

/-- A lane takes up the values that wait for its bring-up: polarity, FIR mode, sequence detector (R13, R153 to R155, R161); training
and alignment begin anew, from the kept sets after a rest (R179). -/
def State.startLane (s : State) (l : Nat) : State :=
  let s1 := s.adoptIndex (0x2100 + l)
  (s1.setObj (O.TX_FIR_NOW l) (s1.firstTaps l)).modLane l (fun x =>
    { x with txInverted := s1.flag (O.TX_INVERT l), rxInverted := s1.flag (O.RX_INVERT l),
             seqDet := s1.obj (O.RX_SEQ_DET l) == 0 && isPam4 (s1.obj (O.LANE_MODE l)), kept := false,
             trained := false, partnerTrain := ⟨false, false⟩, sentTrain := none, steady := 0, snrGood := false,
             aligned := false, codeword := none, lastComma := none, missed := 0,
             cap := none, capRuns := 0, capSeen := false, uncorr := [] })

/-- An exit from deep rest begins: PLL supply and calibration (R179). -/
def State.beginExit (s : State) (l : Nat) : State :=
  (s.setLane l 2).modLane l (fun x => { x with restPhase := .pll, restAt := s.now, restHeld := none, pllTries := 1, kept := true })

/-- An aborted exit: the lane returns to DEEP_REST (R181). -/
def State.abortExit (s : State) (l : Nat) : State :=
  (s.setLane l 1).modLane l (fun x => { x with restPhase := .rest, restHeld := none })

/-- The boundary 20 µs into an exit, where PLL calibration starts: a request for rest that came before it aborts the exit there (R179, R181). -/
def State.exitBoundary (s : State) (l : Nat) : State :=
  let x := s.lane l
  if x.restPhase = .pll ∧ x.pllTries = 1 ∧ x.restHeld = some true ∧ x.heldAt < x.restAt + 20 * usU ∧ s.passed x.restAt (20 * usU) then s.abortExit l
  else s

/-- A request for deep rest (R178, R181): it starts the entry, withdraws a held exit, or is held to the next step boundary of an
exit in progress. A lane in FAULT stays there (R180). -/
def State.restEnter (s0 : State) (l : Nat) : State :=
  let s := s0.exitBoundary l
  if s.obj (O.LANE_STATE l) = 7 then s
  else match (s.lane l).restPhase with
  | .out => ((s.setLane l 1).bump32 (O.REST_ENTRIES l)).modLane l (fun x => { x with
      restPhase := .entering, restAt := s.now, restHeld := none, kept := true, alone := 0, aligned := false, codeword := none, lastComma := none, missed := 0 })
  | .entering => s.modLane l (fun x => { x with restHeld := none })
  | .rest => s
  | .pll => s.modLane l (fun x => { x with restHeld := some true, heldAt := s.now })
  | .cal => s.modLane l (fun x => { x with restHeld := some true, heldAt := s.now })

/-- An exit request (R179, R181): it starts the exit, is held while an entry runs, or withdraws a held request for rest. -/
def State.restExit (s0 : State) (l : Nat) : State :=
  let s := s0.exitBoundary l
  match (s.lane l).restPhase with
  | .out => s
  | .entering => s.modLane l (fun x => { x with restHeld := some false })
  | .rest => s.beginExit l
  | .pll => s.modLane l (fun x => { x with restHeld := none })
  | .cal => s.modLane l (fun x => { x with restHeld := none })

/-- The entry completes; a held exit starts at once (R181). The same report ends an exit that a request for rest aborts at its first step boundary. -/
def State.restEntryDone (s0 : State) (l : Nat) : State :=
  let s := s0.exitBoundary l
  if (s.lane l).restPhase ≠ .entering then s
  else if (s.lane l).restHeld = some false then s.beginExit l
  else s.modLane l (fun x => { x with restPhase := .rest })

/-- The PLL locks: the next step, or the abort of the exit (R179, R181). -/
def State.pllLock (s : State) (l : Nat) : State :=
  if (s.lane l).restPhase ≠ .pll then s
  else if (s.lane l).restHeld = some true then s.abortExit l
  else s.modLane l (fun x => { x with restPhase := .cal })

/-- A lane enters FAULT with its cause; it leaves only when its port is reconfigured or turned off (R180). -/
def State.laneFault (s : State) (l cause : Nat) : State :=
  ((s.setLane l 7).setObj (O.LANE_FAULT_CAUSE l) cause).modLane l (fun x => { x with restPhase := .out, restHeld := none })

/-- The PLL has not locked within 500 µs: three attempts, then FAULT (R180). -/
def State.pllTimeout (s : State) (l : Nat) : State :=
  let x := s.lane l
  if x.restPhase ≠ .pll ∨ !s.passed x.restAt (500 * usU) then s
  else if x.restHeld = some true then s.abortExit l
  else if x.pllTries < 3 then s.modLane l (fun y => { y with pllTries := y.pllTries + 1, restAt := s.now })
  else ((((s.laneFault l 1).bump32 (O.REST_EXIT_FAIL l)).raise (tileOf l) 0x22 2 l)).life 6 1

/-- A lane begins to train while its port is ACTIVE (R212, R221). -/
def State.trainAlone (s : State) (l : Nat) : State :=
  ((s.startLane l).setLane l 3).modLane l (fun x => { x with alone := 1, aloneAt := s.now })

/-- Calibration ends: the lane trains from its kept sets while its port runs, alone where the port is ACTIVE, and is OFF while the port is DISABLED
(R13, R179, R186). -/
def State.calDone (s : State) (l : Nat) : State :=
  if (s.lane l).restPhase ≠ .cal then s
  else if (s.lane l).restHeld = some true then s.abortExit l
  else
    let link := match s.portOf l with
      | some p => s.link p
      | none => 0
    let s1 := s.modLane l (fun x => { x with restPhase := .out, restHeld := none })
    if link = 0 then s1.setLane l 0 else if link = 6 then s1.trainAlone l else (s1.startLane l).setLane l 3

/-- Whole microseconds of L from an instant to now. -/
def State.usSince (s : State) (i : Nat) : Nat := s.L / usU - (i - s.lStart) / usU

/-- TX_LPI_US takes the microseconds spent in LPI since it was last brought up to date (R527). -/
def State.accountLpi (s : State) (p : Nat) : State :=
  if !(s.port p).lpi then s
  else (s.pcnt p 25 (s.usSince (s.port p).lpiFrom)).modPort p (fun x => { x with lpiFrom := s.now })

/-- PAUSED_US of a priority takes the microseconds paused since it was last brought up to date (R527). -/
def State.accountPause (s : State) (p prio : Nat) : State :=
  if !bit (s.obj (O.PAUSED_NOW p)) prio then s
  else
    let upto := min s.now (tget 0 (s.port p).pauseEnd prio)
    let us := (upto - s.lStart) / usU - (tget 0 (s.port p).pauseFrom prio - s.lStart) / usU
    (s.pcnt p (130 + 4 * prio) us).modPort p (fun x => { x with pauseFrom := tput 0 x.pauseFrom prio upto })

/-- The time counters of a port are brought up to date before they are read (R527). -/
def State.accountPort (s : State) (p : Nat) : State := (s.accountLpi p).each (List.range 8) (fun i a => a.accountPause p i)

/-- What a port holds only while it is ACTIVE is dropped: FEC, speed, duplex, lanes up, span and shedding state; WIDTH_NOW reads the width of
its mode (R224, R258). -/
def State.clearLink (s : State) (p : Nat) : State :=
  let s1 := ((((((s.accountLpi p).setObj (O.FEC_NOW p) 0).setObj (O.SPEED_NOW p) 0).setObj (O.DUPLEX_NOW p) 0).setObj (O.LANES_UP p) 0)
    |>.setObj (O.SHED_PARTNER p) 0).setObj (O.WIDTH_NOW p) (s.mode p).width
  let s2 := s1.each (s1.lanesOf p) (fun l a => a.modLane l (fun x => { x with alone := 0, aloneTries := 0, dropped := false }))
  s2.modPort p (fun x => { x with
    stable := false, partner := none, sparing := false, shedOk := false, minWidth := 1, partnerCap := none,
    txSeq := 0, replay := [], resend := [], rxSeq := 0, nakSent := false, rxSinceAck := 0, txRecords := [], txPart := [],
    txLanes := 0, rxLanes := 0, txNext := none, rxNext := none, txHold := false, addOwed := none, rxRecords := [], rxPart := [],
    laneChange := none, shedOut := none, shedAgreed := none, shedOwed := none, shedTx := [], relock := false, lastLoad := 0, lastWin := 0,
    lpi := false, lpiWake := none, hdWait := false, collisions := 0 })

/-- The OUI-tagged pages, the technology and EEE that an Ethernet port advertises under Clause 73 (R189, R215, R248): the code field holds SHED 1 and version 0b001. -/
def State.advertise (s : State) (p : Nat) : State :=
  if (s.mode p).kind = 0 ∧ s.force (O.AN_ENABLE p) ≠ 0 then s.emit (.advert p (s.obj (O.PORT_MODE p)) (s.force (O.EEE_ENABLE p) != 0 && Nat.ble 4 (s.mode p).lane) 5 (s.obj (O.SHED_OUI p) % 2 ^ 24) 3) else s

/-- A lane takes part in its port's bring-up (R13, R179, R182): LANE_REST keeps it in deep rest or puts it there; a lane in rest for another cause
leaves it. -/
def State.joinLane (s : State) (l : Nat) : State :=
  if s.flag (O.LANE_REST l) then (if s.resting l then s else (s.startLane l).restEnter l)
  else if s.resting l then s.restExit l
  else s.startLane l

/-- A port enters RX_DETECT: a bring-up begins, with the values that waited for it, over all its lanes (R184, R13, R189). -/
def State.toRxDetect (s : State) (p : Nat) : State :=
  let s1 := (((s.clearLink p).adoptIndex (0x2000 + p)).modPort p (fun x => { x with
    stackEn := s.flag O.STACK_ENABLE, stackId := s.obj O.STACK_ID })).setLink p 1
  ((s1.each (s1.lanesOf p) (fun l a => a.joinLane l)).setLanes p 3).advertise p

/-- The cause of a failed or aborted attempt is recorded (R184, R192). -/
def State.lastFail (s : State) (p cause : Nat) : State := s.setObj (O.LAST_FAIL p) cause

/-- A LINK_FAIL event with its cause (R184, R603). -/
def State.linkFail (s : State) (p cause : Nat) : State := s.raiseSev (tileOf p) 0x30 1 p (kindSev 0x30) false cause

/-- The back-off before jitter, in ms (R195). -/
def backoffMs (lo hi n : Nat) : Nat := if 20 ≤ n then hi else min (lo * 2 ^ (n - 1)) hi

/-- The back-off time drawn after `n` failed attempts (R195). -/
def State.drawBackoff (s : State) (p n : Nat) : Nat × State :=
  let d := backoffMs (s.obj (O.BACKOFF_MIN p)) (s.obj (O.BACKOFF_MAX p)) n
  let j := s.drawTo (d * 250)
  (s.now + d * msU + j.1 * usU, j.2)

/-- A port enters BACKOFF with a cause: the count of failed attempts rises, and the back-off time is drawn (R184, R195). -/
def State.enterBackoff (s : State) (p cause : Nat) : State :=
  let n := s.obj (O.ATTEMPTS p) + 1
  let s1 := (((s.clearLink p).bump32 (O.ATTEMPTS p)).lastFail p cause).linkFail p cause |>.retrainBin (tileOf p) cause
  let d := s1.drawBackoff p n
  let s2 := (d.2.setLink p 7).setLanes p 3
  s2.modPort p (fun x => { x with backoffEnd := d.1, backoffLos := (s2.lanesOf p).any s2.los })

/-- A port leaves ACTIVE (R185, R360); units of a span link that no ACK covered are lost (R632). -/
def State.leaveActive (s : State) (p : Nat) : State :=
  ((((s.unselect p).bump (O.LINK_DOWNS p)).retrainBin (tileOf p) 0).add O.STACK_UNITS_LOST (s.port p).replay.length).modPort p (fun x => { x with exitAt := s.now })

/-- The count of consecutive failed attempts starts again (R196). -/
def State.clearAttempts (s : State) (p : Nat) : State := s.setObj (O.ATTEMPTS p) 0

/-- A port falls from ACTIVE: to RX_DETECT after LINK_STABLE, otherwise to BACKOFF with cause LINK_FLAP (R185). -/
def State.linkDown (s : State) (p : Nat) : State :=
  let held := s.passed (s.port p).activeAt (s.obj (O.LINK_STABLE p) * msU)
  let s1 := s.leaveActive p
  if held then (s1.clearAttempts p).toRxDetect p else s1.enterBackoff p 10

/-- The lane state of a lane whose port is DISABLED (R186). -/
def State.disabledLane (s : State) (p l : Nat) : State :=
  if s.resting l || s.obj (O.LANE_STATE l) == 7 then s
  else s.setLane l (if s.obj (O.LOOP p) != 0 || s.obj (O.TX_PATTERN l) != 0 then 6 else 0)

/-- A port goes to DISABLED from any state (R184). -/
def State.toDisabled (s : State) (p : Nat) : State :=
  let s1 := if s.link p = 6 then s.leaveActive p else s
  let s2 := (s1.clearLink p).setLink p 0
  s2.each (s2.lanesOf p) (fun l a => a.disabledLane p l)

/-- A port runs bring-up while its MAC is enabled and every lane is at NONE and DATA; otherwise it is DISABLED (R184, R176). -/
def State.refreshPort (s : State) (p : Nat) : State :=
  if !s.portUp p then s
  else if s.flag (O.MAC_ENABLE p) && !s.tested p then
    if s.link p = 0 then (s.clearAttempts p).toRxDetect p else s
  else s.toDisabled p

/-- The taps of a lane in FIR mode TRAINED go back to the preset (R192). -/
def State.setTaps (s : State) (l : Nat) : State := if s.force (O.TX_FIR_MODE l) = 1 then s else s.setObj (O.TX_FIR_NOW l) (preset (s.force (O.TX_FIR_INIT l)))

/-- An attempt is abandoned (R192, R193): presets restored, adaptation discarded, the cause recorded, and RX_DETECT entered without
penalty. -/
def State.abortAttempt (s : State) (p cause : Nat) : State :=
  let s1 := if cause = 11 then s.bump (O.ABORT_LOS p) else s
  let s2 := s1.each (s1.lanesOf p) (fun l a =>
    ((((a.setObj (O.RX_CTLE l) 0).setObj (O.RX_FFE l) 0).setObj (O.RX_DFE l) 0).modLane l (fun x => { x with kept := false })).setTaps l)
  (s2.lastFail p cause).toRxDetect p

/-- A port is in a state from TRAINING to CAP_EXCHANGE (R192, R193). -/
def State.attempting (s : State) (p : Nat) : Bool := 2 ≤ s.link p && s.link p ≤ 5

/-- A state's timeout has run out (R184, R187). -/
def State.timedOut (s : State) (p st key : Nat) : Bool := s.link p == st && s.passed (s.port p).stateAt (s.force key * msU)

/-- A pair of next pages advertises shedding: the OUI held in SHED_OUI, SHED 1 and version 0b001 (R215). -/
def State.pagesShed (s : State) (p : Nat) (x : Partner) : Bool :=
  match x.page with
  | some (oui, code) => oui == s.obj (O.SHED_OUI p) % 2 ^ 24 && code % 16 == 3
  | none => false

/-- A lane asks its partner for precoding (R160). -/
def State.asksPrecode (s : State) (l : Nat) : Bool :=
  isPam4 (s.obj (O.LANE_MODE l)) &&
  (s.force (O.RX_PRECODE_REQ l) == 2 || (s.force (O.RX_PRECODE_REQ l) == 0 && 32 < absI (s.objS 32 (O.RX_DFE l))))

/-- The lane's receiver is ready: three updates in a row have moved no FFE tap by more than one (R190). -/
def Lane.ready (x : Lane) : Bool := Nat.ble 3 x.steady

/-- The lane is in link training: with its port, or alone (R190, R212). -/
def State.training (s : State) (l : Nat) : Bool :=
  s.obj (O.LANE_STATE l) == 3 && ((s.lane l).alone == 1 || (match s.portOf l with | some p => s.link p == 2 | none => false))

/-- The training control field goes to the partner when it changes (R160, R190). -/
def State.sayTrain (s : State) (l : Nat) : State :=
  let c := (s.asksPrecode l, (s.lane l).ready)
  if !s.training l || (s.lane l).sentTrain == some c then s
  else (s.modLane l (fun x => { x with sentTrain := some c, precodeAsk := c.1 })).emit (.trainControl l c.1 c.2)

/-- BIT_LOCK is reached (R184): LOL deasserted on every lane, and a good SNR window on each unless SNR_ACCEPT is 0. -/
def State.bitLockCheck (s : State) (p : Nat) : State :=
  let good := fun l => !s.lol l && (s.force (O.SNR_ACCEPT p) == 0 || (s.lane l).snrGood)
  if s.link p = 3 ∧ (s.lanesOf p).all good then s.setLink p 4 else s

/-- A port enters BIT_LOCK (R184): windows before its entry do not count, and its data stream begins (R188, R200). -/
def State.toBitLock (s : State) (p : Nat) : State :=
  let s1 := s.each (s.lanesOf p) (fun l a => a.modLane l (fun x => { x with snrGood := false }))
  ((s1.setLink p 3).modPort p (fun x => { x with streamAt := s.now, commaNum := 0, timeSent := 0 })).bitLockCheck p

/-- A port enters TRAINING (R184, R190): each lane's run of steady updates begins. -/
def State.toTraining (s : State) (p : Nat) : State :=
  let s1 := s.setLink p 2
  s1.each (s1.lanesOf p) (fun l a => (a.modLane l (fun x => { x with steady := 0, sentTrain := none, partnerTrain := ⟨false, false⟩ })).sayTrain l)

/-- A partner is detected (R188, R189, R673): to TRAINING, SGMII to BIT_LOCK; a highest common denominator that is not the configured mode
fails the attempt; training-frame lock needs a signal and clock lock on every lane. Training starts from the presets (R153). -/
def State.partnerFound (s : State) (p : Nat) (x : Partner) : State :=
  let m := s.mode p
  let an := m.kind == 0 && s.force (O.AN_ENABLE p) != 0
  if s.link p ≠ 1 then s
  else if m.kind = 1 then (if s.los p then s else s.toBitLock p)
  else if an && x.hcd != s.obj (O.PORT_MODE p) then s.enterBackoff p 3
  else if !an && (s.lanesOf p).any (fun l => s.los l || s.lol l) then s
  else ((s.setObj (O.SHED_PARTNER p) (b2n (an && s.pagesShed p x))).modPort p (fun y => { y with partner := some x })).toTraining p

/-- A timeout that ends in one cause (R184). -/
def State.stateTimeout (s : State) (p st key cause : Nat) : State := if s.timedOut p st key then s.enterBackoff p cause else s

/-- RXDET_TIMEOUT (R184); an SGMII partner whose signal is there has been detected at that instant (R187, R188). -/
def State.rxdetTimeout (s : State) (p : Nat) : State :=
  if !s.timedOut p 1 (O.RXDET_TIMEOUT p) then s
  else if (s.mode p).kind = 1 ∧ !s.los p then s.toBitLock p
  else s.enterBackoff p (if (s.lanesOf p).any s.los then 1 else 2)

/-- BITLOCK_TIMEOUT (R184); success comes first (R187). -/
def State.bitlockTimeout (s : State) (p : Nat) : State :=
  let s1 := s.bitLockCheck p
  if s1.timedOut p 3 (O.BITLOCK_TIMEOUT p) then s1.enterBackoff p (if (s1.lanesOf p).all (fun l => !s1.lol l) then 6 else 5) else s1

/-- One step of one tap at the partner's request, or its refusal (R190): at limit, or equalization limit. -/
def State.coeffStep (s : State) (l tap : Nat) (up : Bool) : State :=
  let v := s.obj (O.TX_FIR_NOW l)
  if firStepOut v tap up then s.emit (.trainStatus l 1)
  else if !firBalanced (firStep v tap up) then s.emit (.trainStatus l 2)
  else (s.setObj (O.TX_FIR_NOW l) (firStep v tap up)).emit (.trainStatus l 0)

/-- A lane in training answers the partner's coefficient request (R153, R154, R190). -/
def State.coeffRequest (s : State) (l : Nat) (req : CoeffReq) : State :=
  if !s.training l ∨ s.force (O.TX_FIR_MODE l) = 1 then s
  else match req with
    | .preset k =>
      if 1 ≤ k ∧ k ≤ 3 then (s.setObj (O.TX_FIR_NOW l) (preset k)).emit (.trainStatus l 0) else s.emit (.trainStatus l 3)
    | .inc tap => s.coeffStep l tap true
    | .dec tap => s.coeffStep l tap false

/-- Training is complete on a lane (R191): its own receiver is ready, and the partner's status shows receiver ready. -/
def State.laneTrained (s : State) (l : Nat) : Bool := s.training l && (s.lane l).ready && (s.lane l).partnerTrain.ready

/-- A trained lane takes up the partner's request for precoding in PAM4 modes (R160). -/
def State.endTraining (s : State) (l : Nat) : State :=
  (s.setObj (O.TX_PRECODE_NOW l) (b2n ((s.lane l).partnerTrain.precode && isPam4 (s.obj (O.LANE_MODE l))))).modLane l (fun x =>
    { x with trained := true, precodeAsk := s.asksPrecode l })

/-- TRAINING ends when training is complete on every lane (R184, R191): to BIT_LOCK. -/
def State.trainCheck (s : State) (p : Nat) : State :=
  if s.link p = 2 ∧ (s.lanesOf p).all s.laneTrained then (s.each (s.lanesOf p) (fun l a => a.endTraining l)).toBitLock p else s

/-- A lane that trains alone is ACTIVE once its training is complete (R179, R212). -/
def State.aloneCheck (s : State) (l : Nat) : State :=
  if (s.lane l).alone = 1 ∧ s.laneTrained l then ((s.endTraining l).setLane l 4).modLane l (fun x => { x with alone := 0, aloneTries := 0 }) else s

/-- The delays that hold for a port at a width narrower than its mode (R231): those of the mode of the same kind and lane mode, where one is
defined. -/
def effMode (code width : Nat) : Nat :=
  let m := modeOf code
  ((List.range 26).find? (fun c => (modeOf c).kind == m.kind && (modeOf c).lane == m.lane && (modeOf c).width == width)).getD code

/-- The timestamp corrections of a port (R233). -/
def State.setCorr (s : State) (p width speed : Nat) : State :=
  let code := s.obj (O.PORT_MODE p)
  let d := delays (effMode code width) (fecOf code (s.force (O.FEC_MODE p))) speed
  (s.setObj (O.TS_RX_CORR p) (d.1 + s.obj (O.DESKEW_PS p))).setObj (O.TS_TX_CORR p) d.2

/-- Aligned and deskewed on every lane: to CAP_EXCHANGE (R184, R233): on a span link every lane is aligned on its commas and holds codeword lock
(R201, R202), and more skew than it tolerates fails the attempt (R203). The same report ends the relock of an Ethernet width change (R219). -/
def State.symbolLock (s : State) (p deskew skew : Nat) : State :=
  let m := s.mode p
  let dk := if m.width < 2 then 0 else deskew
  if s.link p = 6 ∧ (s.port p).relock then
    ((s.setObj (O.DESKEW_PS p) dk).setCorr p (s.obj (O.WIDTH_NOW p)) 1000).modPort p (fun x => { x with relock := false })
  else if s.link p ≠ 4 then s
  else if m.kind = 2 ∧ !(s.lanesOf p).all (fun l => (s.lane l).aligned && (s.lane l).codeword.isSome) then s
  else if m.kind = 2 ∧ 128 < skew then s.enterBackoff p 7
  else ((s.setObj (O.DESKEW_PS p) dk).setCorr p m.width 1000).setLink p 5

/-- The port enters ACTIVE (R184): LINK_UPS counts, and the running rate, FEC, width and duplex are shown. -/
def State.enterActive (s : State) (p speed : Nat) (half : Bool) : State :=
  let code := s.obj (O.PORT_MODE p)
  let m := s.mode p
  let s1 := ((s.bump (O.LINK_UPS p)).setLink p 6).setLanes p 4
  let s2 := ((s1.setObj (O.FEC_NOW p) (fecOf code (s.force (O.FEC_MODE p)))).setObj (O.SPEED_NOW p) speed).setObj (O.DUPLEX_NOW p) (b2n half)
  let s3 := (s2.setObj (O.WIDTH_NOW p) m.width).setObj (O.LANES_UP p) (if m.kind = 2 then 2 ^ m.width - 1 else 0)
  (s3.setCorr p m.width speed).modPort p (fun x => { x with activeAt := s.now, shedAt := s.now, idleFrom := s.now, stable := false })

/-- SGMII_SPEED as a speed in Mb/s; 0 for FROM_PHY (R258). -/
def sgmiiSpeed (code : Nat) : Nat := if code = 1 then 10 else if code = 2 then 100 else if code = 3 then 1000 else 0

/-- CAP_EXCHANGE completes (R184). On Ethernet no local or remote fault has been received for 1 ms; SGMII takes the partner's speed and duplex after its link timer of
1.6 ms while the link bit is set, unless the objects fix them (R188); half duplex at 1,000 Mb/s, or resolved against a hatch list or launch time, fails the
attempt (R238, R241). -/
def State.capDone (s : State) (p speed : Nat) (half : Bool) (us : Nat) (linkBit : Bool) : State :=
  let m := s.mode p
  if s.link p ≠ 5 then s
  else if m.kind = 1 then
    let fixed := sgmiiSpeed (s.force (O.SGMII_SPEED p))
    let sp := if fixed = 0 then speed else fixed
    let dup := s.force (O.DUPLEX_CFG p)
    let hd := dup == 1 || (dup == 2 && half)
    if us < 1600 ∨ !linkBit then s
    else if hd && (sp == 1000 || s.timed p) then s.enterBackoff p 9
    else s.enterActive p sp hd
  else if us < 1000 then s
  else s.enterActive p m.mbps false

/-- The partner's DME for 1 ms during an attempt of an Ethernet port with AN_ENABLE (R193). -/
def State.partnerRestart (s : State) (p : Nat) : State :=
  if s.attempting p && (s.mode p).kind == 0 && s.force (O.AN_ENABLE p) != 0 then s.abortAttempt p 12 else s

/-- A lane that trains alone has not finished within TRAIN_TIMEOUT: it backs off with its own count of attempts (R212). -/
def State.aloneTimeout (s : State) (p l : Nat) : State :=
  let x := s.lane l
  if x.alone ≠ 1 ∨ !s.passed x.aloneAt (s.force (O.TRAIN_TIMEOUT p) * msU) then s
  else
    let d := s.drawBackoff p (x.aloneTries + 1)
    d.2.modLane l (fun y => { y with alone := 2, aloneTries := x.aloneTries + 1, aloneEnd := d.1 })

/-- TRAIN_TIMEOUT (R184), and that of lanes that train alone (R212). -/
def State.trainTimeout (s : State) (p : Nat) : State :=
  if s.link p = 6 then s.each (s.lanesOf p) (fun l a => a.aloneTimeout p l) else s.stateTimeout p 2 (O.TRAIN_TIMEOUT p) 4

/-- The back-off time elapses (R184), or that of lanes that train alone (R212). -/
def State.backoffExpiry (s : State) (p : Nat) : State :=
  if s.link p = 7 ∧ (s.port p).backoffEnd ≤ s.now then s.toRxDetect p
  else if s.link p = 6 then
    s.each (s.lanesOf p) (fun l a => if (a.lane l).alone = 2 ∧ (a.lane l).aloneEnd ≤ a.now then (a.trainAlone l).sayTrain l else a)
  else s

/-- BACKOFF ends early when LOS ends on every lane after having been asserted during it (R197). -/
def State.backoffEarly (s : State) (p : Nat) : State :=
  if s.link p = 7 ∧ (s.port p).backoffLos ∧ (s.lanesOf p).all (fun l => !s.los l) then s.toRxDetect p else s

/-- The port has been ACTIVE for LINK_STABLE: the count of failed attempts starts again (R196). -/
def State.linkStable (s : State) (p : Nat) : State :=
  if s.link p = 6 ∧ s.passed (s.port p).activeAt (s.obj (O.LINK_STABLE p) * msU) then
    (s.clearAttempts p).modPort p (fun x => { x with stable := true })
  else s

/-- BACKOFF_LEFT (R224). -/
def State.backoffLeft (s : State) (p : Nat) : Nat :=
  if s.link p = 7 then ceilDiv ((s.port p).backoffEnd - s.now) msU else 0

/-- The kind of LPI a port may use now: 0 none, 1 fast wake, 2 deep sleep (R248). -/
def State.eeeKind (s : State) (p : Nat) : Nat :=
  let code := s.obj (O.PORT_MODE p)
  let shedding := s.obj (O.SHED_MODE p) == 1 && s.flag (O.SHED_PARTNER p)
  if s.link p ≠ 6 ∨ s.force (O.EEE_ENABLE p) = 0 ∨ s.timed p ∨ shedding then 0
  else if 1 ≤ code ∧ code ≤ 12 then 1
  else if 13 ≤ code ∧ code ≤ 16 then (match (s.port p).partner with | some x => if x.eee && s.force (O.AN_ENABLE p) != 0 then 2 else 0 | none => 0)
  else 0

/-- EEE_TW_TX in ns, of the kind of LPI the port is in or may use (R249; assumption 8). -/
def State.eeeTw (s : State) (p : Nat) : Nat :=
  let k := if (s.port p).lpi then (s.port p).lpiKind else s.eeeKind p
  if k = 1 then 500 else if k = 2 then Config.twSysTx (s.obj (O.PORT_MODE p)) % 2 ^ 32 else 0

end Sys2Proof.Machine
end

