-- ==== Sys2Proof/Machine/Span.lean ====
section
/-! DEFINITION. Span links (R199 to R212): alignment on commas, the CAP exchange, retry units, lane sparing and rejoin; and lane shedding on
Ethernet and span links (R214 to R223). -/

namespace Sys2Proof.Machine

/-- The port is a Denmas span link (R226). -/
def State.isSpan (s : State) (p : Nat) : Bool := (s.mode p).kind == 2

/-- A running span link. -/
def State.spanUp (s : State) (p : Nat) : Bool := s.isSpan p && s.link p == 6

/-! Retry units (R205 to R208). -/

/-- Bytes of data in a retry unit: 31 blocks of 256 bits (R199, R206). -/
def unitBytes : Nat := 992

/-- Units the replay buffer holds (R207). -/
def replayUnits : Nat := 510

/-- The UCRC of a unit (R205). -/
def unitCrc (data : Bytes) : Nat := crc32 data

/-- The record type's place in the order of precedence (R618): TIME, then HELLO and DICT, then FRAME. -/
def recordRank (ty : Nat) : Nat := if ty = 2 then 0 else if ty = 3 ∨ ty = 4 then 1 else 2

/-- A record of the span byte stream (R617): its 8-byte header and its payload padded to 8 bytes. -/
def spanRecord (ty : Nat) (payload : Bytes) : Bytes :=
  bytesOf [ty, 0] ++ natLe payload.length 2 ++ bytesOf [0, 0, 0, 0] ++ padTo payload (ceilDiv payload.length 8 * 8)

/-- A record takes its place behind those of its own precedence (R618). -/
def placeRecord (r : Bytes) : List Bytes → List Bytes
  | [] => [r]
  | x :: xs => if recordRank (byteAt r 0) < recordRank (byteAt x 0) then r :: x :: xs else x :: placeRecord r xs

/-- A record waits to be sent on a span port. -/
def State.sendRecord (s : State) (p ty : Nat) (payload : Bytes) : State :=
  s.modPort p (fun x => { x with txRecords := placeRecord (spanRecord ty payload) x.txRecords })

/-- The records that fill a unit, record after record until `room` bytes are taken; what is left over of the last one. -/
def fillUnit (room : Nat) : List Bytes → Bytes × Bytes × List Bytes
  | [] => ([], [], [])
  | r :: rs =>
    if room = 0 then ([], [], r :: rs)
    else if r.length ≤ room then
      let rest := fillUnit (room - r.length) rs
      (r ++ rest.1, rest.2.1, rest.2.2)
    else (r.take room, r.drop room, rs)

/-! Lane sets (R206, R210, R212, R220). -/

/-- A control block goes out on every lane of a set (R205). -/
def State.sendControl (s : State) (p lanes block : Nat) : State := s.emit (.control p lanes block)

/-- The next unit the port sends (R210): the first to be resent, or the next new one. -/
def Port.nextUnit (x : Port) : Nat :=
  match x.resend with
  | (q, _) :: _ => q
  | [] => x.txSeq

/-- A unit at or after another in the order of SEQ modulo 4,096. -/
def seqFrom (q r : Nat) : Bool := Nat.blt ((q + 4096 - r % 4096) % 4096) 2048

/-- A lane can carry data (R221, R201): ACTIVE, and on a span link aligned. -/
def State.laneReady (s : State) (p l : Nat) : Bool :=
  (s.obj (O.LANE_STATE l) == 4 || s.obj (O.LANE_STATE l) == 5) && (!s.isSpan p || (s.lane l).aligned)

/-- Every lane of a set can carry data. -/
def State.setReady (s : State) (p mask : Nat) : Bool := (lanesIn mask).all (fun i => s.laneReady p (p + i))

/-- A dropped lane carries data again (R212). -/
def State.addLane (s : State) (p lane : Nat) : State :=
  let s1 := s.setObjBit (O.LANES_UP p) lane true
  ((s1.setObj (O.WIDTH_NOW p) (popcount 8 (s1.obj (O.LANES_UP p)))).setLane (p + lane) 4).modLane (p + lane) (fun x => { x with dropped := false })

/-- A lane addition is done once both sides have restriped at their RESTRIPE units (R212). -/
def State.stripeDone (s : State) (p : Nat) : State :=
  let x := s.port p
  match x.laneChange with
  | some (l, false) =>
    if x.txNext.isNone && x.rxNext.isNone && x.addOwed.isNone then (s.addLane p l).modPort p (fun y => { y with laneChange := none }) else s
  | _ => s

/-- The transmit side reaches its RESTRIPE unit: the next set holds from there, unless the partner's answer or a lane is still awaited (R212, R220). -/
def State.restripeTx (s : State) (p : Nat) : State :=
  let x := s.port p
  match x.txNext with
  | some (r, m) =>
    if x.resend.isEmpty && seqFrom x.txSeq r && !x.txHold && s.setReady p m then
      (s.modPort p (fun y => { y with txLanes := m, txNext := none })).stripeDone p
    else s
  | none => s

/-- A new unit waits: the transmit side has reached a RESTRIPE unit and may not pass it yet. -/
def Port.txWaits (x : Port) : Bool :=
  match x.txNext with
  | some (r, _) => seqFrom x.txSeq r
  | none => false

/-- A unit goes out over the lanes in use (R206). -/
def State.putUnit (s : State) (p q : Nat) (d : Bytes) : State :=
  s.emit (.unit p q d (stripe (lanesIn (s.port p).txLanes) (unitBlocks q d (unitCrc d))))

/-- The transmitter sends its next unit (R206, R207): one to be resent first, otherwise a new one of the records that wait, filled with zeros,
which are FILL records (R617). None is new while the replay buffer is full; while a change of lanes waits for its RESTRIPE unit, units of fill go out too. -/
def State.unitTransmit (s0 : State) (p : Nat) : State :=
  let s := s0.restripeTx p
  let x := s.port p
  if !s.spanUp p then s
  else match x.resend with
    | (q, d) :: rest => (s.modPort p (fun y => { y with resend := rest })).putUnit p q d
    | [] =>
      if x.txWaits ∨ replayUnits ≤ x.replay.length ∨ (x.txPart = [] ∧ x.txRecords = [] ∧ x.txNext = none) then s
      else
        let head := x.txPart.take unitBytes
        let more := fillUnit (unitBytes - head.length) x.txRecords
        let part := if x.txPart.length ≤ unitBytes then more.2.1 else x.txPart.drop unitBytes
        let data := padTo (head ++ more.1) unitBytes
        (s.modPort p (fun y => { y with
          txSeq := (x.txSeq + 1) % 4096, replay := x.replay ++ [(x.txSeq, data)], txPart := part, txRecords := more.2.2 })).putUnit p x.txSeq data

/-- The records of a unit's data from an offset on, after the part of one that began before it (R617): a FILL record takes the rest of its data block, a
reserved TYPE the rest of the unit. Answered are the records and the part that goes on in the next unit. -/
def unitRecords (data : Bytes) : Nat → Nat → Bytes → List (Nat × Bytes) × Bytes
  | 0, _, _ => ([], [])
  | n + 1, off, part =>
    if data.length ≤ off then ([], part)
    else
      let head := part ++ slice data off (8 - part.length)
      let ty := byteAt head 0
      if part = [] ∧ ty = 0 then unitRecords data n ((off / 32 + 1) * 32) []
      else if part = [] ∧ 4 < ty then ([], [])
      else
        let len := leAt head 2 2
        let need := 8 + ceilDiv len 8 * 8 - part.length
        if data.length - off < need then ([], part ++ data.drop off)
        else
          let rest := unitRecords data n (off + need) []
          ((ty, slice (part ++ slice data off need) 8 len) :: rest.1, rest.2)

/-- The set of lanes a unit may come in on: the present one, or the next one from its RESTRIPE unit on (R210). -/
def Port.takesLanes (x : Port) (lanes : Nat) : Bool :=
  lanes == x.rxLanes || (match x.rxNext with | some (_, m) => lanes == m | none => false)

/-- The receive side has accepted a unit: at the partner's RESTRIPE unit the next set holds (R210, R212, R220). -/
def State.restripeRx (s : State) (p seq : Nat) : State :=
  match (s.port p).rxNext with
  | some (r, m) => if seqFrom seq r then (s.modPort p (fun y => { y with rxLanes := m, rxNext := none })).stripeDone p else s
  | none => s

/-- A unit arrives (R207): the next in order and intact is accepted, its bytes join the record stream, and it is acknowledged at least once in 64. A unit accepted before is
nothing new; any other is discarded, and NAK names the first one needed. -/
def State.unitReceived (s : State) (p seq : Nat) (data : Bytes) (ucrc lanes : Nat) : State :=
  let x := s.port p
  if !s.spanUp p then s
  else if data.length = unitBytes ∧ unitCrc data = ucrc ∧ seq = x.rxSeq ∧ x.takesLanes lanes then
    let r := unitRecords data 125 0 x.rxPart
    let s1 := (s.modPort p (fun y => { y with
      rxSeq := (x.rxSeq + 1) % 4096, nakSent := false, rxSinceAck := if x.rxSinceAck = 63 then 0 else x.rxSinceAck + 1,
      rxRecords := x.rxRecords ++ r.1, rxPart := r.2 })).restripeRx p seq
    if x.rxSinceAck = 63 then s1.sendControl p x.txLanes (ackBlock seq) else s1
  else if unitCrc data = ucrc ∧ seq ≠ x.rxSeq ∧ !seqFrom seq x.rxSeq then s
  else if !x.nakSent ∨ seq = x.rxSeq then
    (s.modPort p (fun y => { y with nakSent := true })).sendControl p x.txLanes (nakBlock x.rxSeq)
  else s

/-- The oldest record of a span port's stream is taken if it is this one (R208, R617). -/
def State.takeRecord (s : State) (p ty : Nat) (payload : Bytes) : Option State :=
  match (s.port p).rxRecords with
  | r :: rest => if r = (ty, payload) then some (s.modPort p (fun y => { y with rxRecords := rest })) else none
  | [] => none

/-- An ACK covers every unit up to the one it names (R207). -/
def State.ackReceived (s : State) (p seq : Nat) : State :=
  let x := s.port p
  if !s.spanUp p ∨ !x.replay.any (fun u => u.1 == seq) then s
  else
    let kept := (x.replay.dropWhile (fun u => u.1 != seq)).drop 1
    s.modPort p (fun y => { y with replay := kept, resend := x.resend.filter (fun u => kept.any (fun v => v.1 == u.1)) })

/-- The transmitter resends from a unit onward (R207, R210). -/
def State.resendFrom (s : State) (p seq : Nat) : State :=
  s.modPort p (fun y => { y with resend := y.replay.dropWhile (fun u => u.1 != seq) })

/-- A NAK is counted, and the units from the named one are sent again (R207). -/
def State.nakReceived (s : State) (p seq : Nat) : State :=
  if s.spanUp p then (s.bump (O.RETRY_COUNT p)).resendFrom p seq else s

/-- What a record of a span port does, if it is the oldest of the port's stream (R208, R617). -/
def State.onRecord (s : State) (p ty : Nat) (payload : Bytes) (f : State → State) : State :=
  match s.takeRecord p ty payload with
  | some a => f a
  | none => s

/-! Sparing (R209 to R212). -/

/-- A lane of a span link is dropped: counted, reported, and no longer carrying data (R210); with REJOIN AUTO it retrains alone by the sequence of R179 (R212). -/
def State.dropLane (s : State) (p l : Nat) : State :=
  let s1 := ((s.bump (O.SPARE_EVENTS p)).bump32 (O.SPAN_DROPS l)).setObjBit (O.LANES_UP p) (l - p) false
  let s2 := (s1.setObj (O.WIDTH_NOW p) (popcount 8 (s1.obj (O.LANES_UP p)))).raise (tileOf p) 0x23 2 l |>.retrainBin (tileOf p) 14
  let s3 := (s2.modLane l (fun x => { x with dropped := true, aligned := false, codeword := none, lastComma := none, missed := 0 })).modPort p (fun x => { x with
    txLanes := s1.obj (O.LANES_UP p), txNext := none, txHold := false, shedOut := none, shedAgreed := none })
  if s3.obj (O.REJOIN p) = 1 then s3.beginExit l else s3

/-- Whether a drop leaves the port up (R211). -/
def State.canDrop (s : State) (p : Nat) : Bool :=
  (s.port p).sparing && (s.port p).minWidth ≤ popcount 8 (s.obj (O.LANES_UP p)) - 1

/-- A receiver declares a span lane failed with a cause (R209): the lane is dropped with LANE_DROP, or the port leaves ACTIVE (R210, R211). RESTRIPE is the
first unit it sends on the reduced set, REPLAY the first it needs again. -/
def State.spanLaneFailed (s : State) (p l cause : Nat) : State :=
  if !bit (s.obj (O.LANES_UP p)) (l - p) then s
  else if s.canDrop p then
    let s1 := ((s.setObj (O.SPAN_DROP_CAUSE l) cause).dropLane p l).modPort p (fun x => { x with laneChange := some (l - p, true) })
    s1.sendControl p (s1.port p).txLanes (laneDropBlock (l - p) (s.port p).nextUnit (s.port p).rxSeq)
  else s.linkDown p

/-- LANE_DROP arrives (R210): the lane is dropped with a cause the message does not name (assumption 3), units are sent again from REPLAY on the reduced set, the
partner's come in on it from RESTRIPE, and LANE_ACK names the next unit. -/
def State.laneDrop (s : State) (p lane restripe replay : Nat) : State :=
  if !s.spanUp p ∨ !bit (s.obj (O.LANES_UP p)) lane then s
  else if s.canDrop p then
    let d := s.drawTo 4
    let s1 := (((d.2.setObj (O.SPAN_DROP_CAUSE (p + lane)) d.1).dropLane p (p + lane)).resendFrom p replay).modPort p (fun x => { x with
      rxNext := some (restripe, x.txLanes) })
    s1.sendControl p (s1.port p).txLanes (laneAckBlock 6 lane (s1.port p).nextUnit)
  else s.linkDown p

/-- A RESTRIPE unit ahead of the next one, far enough for the answer to come: which one the spec leaves open (R212, R220; assumption 3). -/
def State.drawUnit (s : State) (p : Nat) : Nat × State :=
  let d := s.drawTo (replayUnits - 1)
  (((s.port p).txSeq + d.1) % 4096, d.2)

/-- A lane that LANE_ADD names is back on both sides: the partner's units come in on it from RESTRIPE, LANE_ACK names the unit from which this side's go out
on it (R212). -/
def State.answerAdd (s : State) (p lane restripe : Nat) : State :=
  let x := s.port p
  let wide := setBit x.txLanes lane true
  let own := match x.txNext with | some (r, _) => r | none => x.nextUnit
  let s1 := s.modPort p (fun y => { y with
    laneChange := some (lane, false), addOwed := none, rxNext := some (restripe, wide), txHold := false, txLanes := if x.txNext.isSome then y.txLanes else wide })
  s1.sendControl p wide (laneAckBlock 7 lane own)

/-- A dropped lane has trained and aligned to the port's commas: the side that finished first sends LANE_ADD, the other answers the one it has received
(R212). -/
def State.spanRejoin (s : State) (l : Nat) : State :=
  match s.portOf l with
  | none => s
  | some p =>
    if s.spanUp p ∧ (s.lane l).dropped ∧ s.obj (O.REJOIN p) = 1 ∧ s.laneReady p l then
      match (s.port p).addOwed, (s.port p).laneChange with
      | some (k, r), _ => if k = l - p then s.answerAdd p k r else s
      | none, none =>
        let d := s.drawUnit p
        let wide := setBit (s.port p).txLanes (l - p) true
        (d.2.modPort p (fun x => { x with laneChange := some (l - p, false), txNext := some (d.1, wide), txHold := true })).sendControl p wide
          (laneAddBlock (l - p) d.1)
      | none, some _ => s
    else s

/-- LANE_ADD arrives: both sides restripe over the lane at their named units once it is back here too (R212). -/
def State.laneAdd (s : State) (p lane restripe : Nat) : State :=
  if s.spanUp p ∧ (s.lane (p + lane)).dropped then
    if s.laneReady p (p + lane) then s.answerAdd p lane restripe else s.modPort p (fun x => { x with addOwed := some (lane, restripe) })
  else s

/-- LANE_ACK completes a drop, an addition or a width change at the partner's RESTRIPE unit (R210, R212). -/
def State.laneAck (s : State) (p acked lane restripe : Nat) : State :=
  let x := s.port p
  if !s.spanUp p then s
  else match x.laneChange with
    | some (l, true) =>
      if l = lane ∧ acked = 6 then s.modPort p (fun y => { y with laneChange := none, rxNext := some (restripe, y.txLanes) }) else s
    | some (l, false) =>
      if l = lane ∧ acked = 7 then
        s.modPort p (fun y => { y with txHold := false, rxNext := some (restripe, setBit y.rxLanes lane true) })
      else s
    | none =>
      match x.shedAgreed with
      | some r => if acked = 9 ∨ acked = 10 then s.modPort p (fun y => { y with rxNext := some (restripe, 2 ^ r.width - 1) }) else s
      | none => s

/-- A block where a comma is expected or was found on a span lane (R201, R202): aligned after two commas 16,384 blocks apart with good CRCs, with codeword lock from the
first aligned one, which is block 4·PHASE of its codeword; alignment is lost after two misses in a row. -/
def State.comma (s : State) (l block bits : Nat) : State :=
  let x := s.lane l
  match s.portOf l with
  | none => s
  | some p =>
    if !s.isSpan p then s
    else if isComma bits then
      let al := x.aligned || (match x.lastComma with | some b => block == b + commaEvery | none => false)
      let cw := if x.codeword.isSome then x.codeword else if al then some ((block + 20 - 4 * commaPhase bits % 20) % 20) else none
      s.modLane l (fun y => { y with aligned := al, codeword := cw, lastComma := some block, missed := 0 })
    else if x.aligned ∧ x.missed = 1 then
      let s1 := s.modLane l (fun y => { y with aligned := false, codeword := none, lastComma := none, missed := 0 })
      if s1.link p = 6 then s1.spanLaneFailed p l 3 else s1
    else s.modLane l (fun y => { y with lastComma := if x.aligned then x.lastComma else none, missed := if x.aligned then 1 else 0 })

/-- The period of a lane's commas in units: 16,384 blocks of 257 × 544/514 bits (R200, R202). -/
def commaPeriod (laneMode : Nat) : Nat := commaEvery * (if laneMode = 1 then 128 else 256) * nsU / 100

/-- Commas a span port has sent on each lane since its data stream began; the first is the 16,384th block (R200; assumption 84). -/
def State.commasSent (s : State) (p : Nat) : Nat :=
  if s.isSpan p && Nat.ble 3 (s.link p) && Nat.ble (s.link p) 6 then (s.now - (s.port p).streamAt) / commaPeriod (s.mode p).lane else 0

/-- The comma block a port sends as its `n`th on a lane (R200, R202). -/
def State.commaOut (s : State) (p l n : Nat) : Nat := commaBlock (n % 5) (l - p) (s.obj (O.WIDTH_NOW p)) (s.obj (O.LANES_UP p))

/-- The commas that have become due go out at the same block count on every lane of the port (R200). -/
def State.sendCommas (s : State) (p : Nat) : State :=
  let have' := (s.port p).commaNum
  let s1 := s.each ((List.range (s.commasSent p - have')).map (· + have' + 1)) (fun n a =>
    a.each (a.lanesOf p) (fun l b => b.emit (.comma l (b.commaOut p l n))))
  s1.modPort p (fun x => { x with commaNum := max have' (s.commasSent p) })

/-! CAP exchange (R204, R616). -/

/-- A CAP block names another mode or width, or the stack fields do not match (R204, R616). -/
def State.capMismatch (s : State) (p : Nat) (c : Cap) : Bool :=
  c.mode != (s.mode p).lane || c.width != (s.mode p).width || !c.en || !(s.port p).stackEn || c.stackId != (s.port p).stackId

/-- The link is exchanged on this lane: two identical partner blocks, with SEEN set (R204). -/
def Lane.capDone (x : Lane) : Bool := 2 ≤ x.capRuns && x.capSeen

/-- A side sets SEEN once it has received two identical blocks (R204). -/
def State.capOwnSeen (s : State) (p : Nat) : Bool := (s.lanesOf p).any (fun l => Nat.ble 2 (s.lane l).capRuns)

/-- The CAP block a port sends (R204, R616). -/
def State.capOwn (s : State) (p : Nat) : Cap :=
  { version := 1, mode := (s.mode p).lane, width := (s.mode p).width, sparing := s.force (O.SPARING p) != 0, shed := true, minWidth := s.force (O.MIN_WIDTH p),
    seen := s.capOwnSeen p, en := (s.port p).stackEn, member := s.force O.STACK_MEMBER, priority := s.obj O.STACK_PRIORITY, stackId := (s.port p).stackId }

/-- CAP blocks go out on every lane (R204). -/
def State.sendCap (s : State) (p : Nat) : State := s.each (s.lanesOf p) (fun l a => a.emit (.cap l (s.capOwn p)))

/-- Aligned and deskewed on every lane; a span link then sends its CAP blocks (R184, R204). -/
def State.symbolLocked (s : State) (p deskew skew : Nat) : State :=
  let s1 := s.symbolLock p deskew skew
  if s1.isSpan p ∧ s.link p = 4 ∧ s1.link p = 5 then s1.sendCap p else s1

/-- A CAP block arrives in CAP_EXCHANGE (R204): a mismatch fails the attempt at once; otherwise the run of identical blocks grows, and the second sets SEEN. -/
def State.capBlock (s : State) (l : Nat) (c : Cap) : State :=
  match s.portOf l with
  | none => s
  | some p =>
    if !s.isSpan p ∨ s.link p ≠ 5 then s
    else if s.capMismatch p c then s.enterBackoff p 9
    else
      let x := s.lane l
      let same := match x.cap with
        | some b => b == c
        | none => false
      let s1 := s.modLane l (fun y => { y with cap := some c, capRuns := if same then y.capRuns + 1 else 1, capSeen := c.seen })
      if s1.capOwnSeen p && !s.capOwnSeen p then s1.sendCap p else s1

/-- The exchange is complete: some lane holds two identical blocks with SEEN set (R204). -/
def State.capReady (s : State) (p : Nat) : Option Cap :=
  ((s.lanesOf p).find? (fun l => (s.lane l).capDone)).bind (fun l => (s.lane l).cap)

/-- The span link enters ACTIVE with what both sides set, over all its lanes; Clemal's own SHED bit is always set (R204, R211; assumption 12). -/
def State.spanActive (s : State) (p : Nat) (c : Cap) : State :=
  let all := 2 ^ (s.mode p).width - 1
  (s.enterActive p (s.mode p).mbps false).modPort p (fun x => { x with
    sparing := s.force (O.SPARING p) != 0 && c.sparing, shedOk := c.shed,
    minWidth := max (s.force (O.MIN_WIDTH p)) c.minWidth, partnerCap := some c, txLanes := all, rxLanes := all })

/-- CAP_EXCHANGE completes on any link kind (R184, R204). -/
def State.capExchangeDone (s : State) (p speed : Nat) (half : Bool) (us : Nat) (linkBit : Bool) : State :=
  if s.link p = 5 ∧ s.isSpan p then
    match s.capReady p with
    | some c => s.spanActive p c
    | none => s
  else s.capDone p speed half us linkBit

/-- CAPX_TIMEOUT (R184); success comes first (R187). -/
def State.capxTimeout (s : State) (p : Nat) : State :=
  if s.timedOut p 5 (O.CAPX_TIMEOUT p) ∧ s.isSpan p ∧ (s.capReady p).isSome then s.capExchangeDone p 0 false 0 false
  else s.stateTimeout p 5 (O.CAPX_TIMEOUT p) 8

/-! Lane shedding (R214 to R223). -/

/-- The data rate of `w` lanes in Mb/s: bits per µs (R216). -/
def State.capOf (s : State) (p w : Nat) : Nat := w * laneMbps (s.mode p).lane

/-- The partner's side allows shedding (R214). -/
def State.shedPartner (s : State) (p : Nat) : Bool :=
  if s.isSpan p then (s.port p).shedOk else s.flag (O.SHED_PARTNER p)

/-- A port runs lane shedding (R214). -/
def State.shedding (s : State) (p : Nat) : Bool :=
  s.obj (O.SHED_MODE p) == 1 && s.shedPartner p && !s.timed p && !s.tested p && s.link p == 6 &&
  (s.port p).laneChange.isNone && (s.lanesOf p).all (fun l => !(s.lane l).dropped)

/-- A width change is requested or agreed (R223, R597). -/
def State.widthChanging (s : State) (p : Nat) : Bool :=
  let x := s.port p
  x.shedOut.isSome || x.shedAgreed.isSome || x.shedOwed.isSome || x.relock

/-- A width change, or a span lane drop or rejoin (R597). -/
def State.laneWork (s : State) (p : Nat) : Bool :=
  s.widthChanging p || (s.port p).laneChange.isSome || (s.lanesOf p).any (fun l => (s.lane l).dropped)

/-- The widths below the mode's that a port may shed to (R216), rising. -/
def State.shedWidths (s : State) (p : Nat) : List Nat :=
  let w := (s.mode p).width
  if s.isSpan p then ((List.range w).filter (fun k => max 1 (s.port p).minWidth ≤ k && k ≤ popcount 8 (s.obj (O.LANES_UP p))))
  else [1, 2, 4].filter (fun k => k < w && effMode (s.obj (O.PORT_MODE p)) k != s.obj (O.PORT_MODE p))

/-- The load condition of a shed to `w` over a window of `us` µs in which `bits` were moved (R216). -/
def State.fits (s : State) (p w bits us : Nat) : Bool := bits * 100 ≤ s.force (O.SHED_FILL p) * s.capOf p w * us

/-- A port narrower than the width of its mode (R223). -/
def State.narrow (s : State) (p : Nat) : Bool := s.link p == 6 && s.obj (O.WIDTH_NOW p) < (s.mode p).width

/-- The payload of an Ethernet shedding message (R218), in its MAC frame. -/
def State.shedFrame (s : State) (p op token width result : Nat) : Bytes :=
  natBe 0x035356000001 6 ++ natLe (s.obj (O.PORT_MAC p)) 6 ++ natBe 0x88B5 2 ++
  bytesOf [0x53, op] ++ natBe token 2 ++ bytesOf [width, result] ++ List.replicate 40 0

/-- A shedding message goes out at a frame boundary (R218): at once while no frame is in transmission. -/
def State.shedPut (s : State) (p : Nat) (fr : Bytes) : State :=
  if (s.burin p).tx.isSome then s.modPort p (fun x => { x with shedTx := x.shedTx ++ [fr] }) else s.emit (.line p fr true)

/-- A request for a width goes to the partner (R217, R218, R205); the lanes to be added leave deep rest meanwhile (R221). On a span link it names the unit from which the new
width would hold (R220). -/
def State.shedRequest (s : State) (p w : Nat) (widen : Bool) : State :=
  if s.widthChanging p ∨ s.now < (s.port p).shedQuiet ∨ s.laneWork p then s
  else
    let d := s.draw 16
    let u := if s.isSpan p then d.2.drawUnit p else (0, d.2)
    let r : ShedReq := ⟨widen, w, d.1, u.1⟩
    let s1 := u.2.modPort p (fun x => { x with shedOut := some r })
    let s2 := if widen then s1.each (s1.lanesOf p) (fun l a => a.restExit l) else s1
    if s.isSpan p then
      (s2.modPort p (fun x => { x with txNext := some (u.1, 2 ^ w - 1), txHold := true })).sendControl p (s.port p).txLanes (shedReqBlock w r.restripe r.token)
    else s2.shedPut p (s2.shedFrame p (if widen then 3 else 1) r.token w 0)

/-- The port asks for its whole width back while SHED_MODE is OFF (R223). -/
def State.widenBack (s : State) (p : Nat) : State :=
  if s.obj (O.SHED_MODE p) = 0 ∧ s.narrow p then s.shedRequest p (s.mode p).width true else s

/-- A response goes to the partner (R218, R205). -/
def State.shedAnswer (s : State) (p : Nat) (r : ShedReq) (result : Nat) : State :=
  if s.isSpan p then s.sendControl p (s.port p).txLanes (shedRspBlock result r.width (s.port p).nextUnit r.token)
  else s.shedPut p (s.shedFrame p (if r.widen then 4 else 2) r.token r.width result)

/-- A width change is agreed; the switch follows 2 µs of idle on Ethernet, after the frame in transmission (R219), and the RESTRIPE units on a span link (R220). -/
def State.shedAgree (s : State) (p : Nat) (r : ShedReq) : State :=
  s.modPort p (fun x => { x with shedAgreed := some r, shedOut := none, shedOwed := none,
                                 switchAt := s.now + if (s.mode p).kind = 2 then 0 else 2 * usU })

/-- The frame in transmission is over: the shedding messages that wait go out, and the idle before an agreed switch begins (R218, R219). -/
def State.shedFlush (s : State) (p : Nat) : State :=
  let x := s.port p
  let s1 := x.shedTx.foldl (fun a fr => a.emit (.line p fr true)) s
  s1.modPort p (fun y => { y with shedTx := [], switchAt := if x.shedAgreed.isSome && !s.isSpan p then s.now + 2 * usU else y.switchAt })

/-- Frames wait while an Ethernet port idles before its switch and until its receiver has relocked (R219). -/
def State.shedHolds (s : State) (p : Nat) : Bool := !s.isSpan p && ((s.port p).shedAgreed.isSome || (s.port p).relock)

/-- The end of a sub-window: a widen when the link is too full (R216). -/
def State.shedSubwindow (s : State) (p sent rcvd : Nat) : State :=
  let us := s.force (O.SHED_WINDOW p)
  let high := s.force (O.WIDEN_HIGH p)
  let w := s.obj (O.WIDTH_NOW p)
  let s1 := (s.adopt (O.WIDEN_HIGH p)).widenBack p
  if s.shedding p ∧ w < (s.mode p).width ∧ high * s.capOf p w * us < max sent rcvd * 1000 then s1.shedRequest p (s.mode p).width true
  else s1

/-- The end of a whole window: a shed to the narrowest width that carries the load (R216). -/
def State.shedWindow (s : State) (p sent rcvd : Nat) : State :=
  let us := s.force (O.SHED_WINDOW p)
  let load := max sent rcvd
  let target := (s.shedWidths p).find? (fun w => w < s.obj (O.WIDTH_NOW p) && s.fits p w load us)
  let due := s.shedding p ∧ s.passed (s.port p).shedAt (s.obj (O.SHED_HOLD p) * msU)
  let s1 := ((s.adopt (O.SHED_WINDOW p)).adopt (O.SHED_FILL p)).modPort p (fun x => { x with lastLoad := load, lastWin := us })
  match target with
  | some w => if due then s1.shedRequest p w false else s1
  | none => s1

/-- Some lane that a widen to a width would add is in FAULT (R217). -/
def State.addFault (s : State) (p w : Nat) : Bool :=
  (List.range w).any (fun i => Nat.ble (s.obj (O.WIDTH_NOW p)) i && s.obj (O.LANE_STATE (p + i)) == 7)

/-- The result code for a partner's request on its own merits (R217; assumption 10 for a port that does not shed). -/
def State.shedJudge (s : State) (p : Nat) (r : ShedReq) : Nat :=
  if r.widen then (if s.addFault p r.width then 2 else 0)
  else if s.tested p ∨ !s.shedding p then 2
  else if (s.shedWidths p).contains r.width && s.fits p r.width (s.port p).lastLoad (s.port p).lastWin then 0 else 1

/-- Every lane below a width can carry data. -/
def State.lanesAwake (s : State) (p w : Nat) : Bool := (List.range w).all (fun i => s.laneReady p (p + i))

/-- A partner's request is accepted (R219, R220): on a span link its units come in on the new width from its RESTRIPE, and this side's go out on it from the next one. -/
def State.shedAccept (s : State) (p : Nat) (r : ShedReq) : State :=
  let s1 := (s.shedAnswer p r 0).shedAgree p r
  if s.isSpan p then s1.modPort p (fun x => { x with rxNext := some (r.restripe, 2 ^ r.width - 1), txNext := none, txHold := false, txLanes := 2 ^ r.width - 1 })
  else s1

/-- The answer to a widen request, once the lanes to be added are ACTIVE and no other change is under way (R217, R221). -/
def State.shedOwedCheck (s : State) (p : Nat) : State :=
  match (s.port p).shedOwed with
  | none => s
  | some r =>
    if s.addFault p r.width then (s.modPort p (fun x => { x with shedOwed := none })).shedAnswer p r 2
    else if (s.port p).shedAgreed.isNone && !(s.port p).relock && s.lanesAwake p r.width then s.shedAccept p r
    else s

/-- A partner's request (R217): judged, and set against an own shed request by the tokens. -/
def State.shedReceived (s : State) (p : Nat) (r : ShedReq) : State :=
  if s.link p ≠ 6 then s
  else
    let code := s.shedJudge p r
    if r.widen then
      if code ≠ 0 then s.shedAnswer p r code
      else ((s.each (s.lanesOf p) (fun l a => a.restExit l)).modPort p (fun x => { x with shedOwed := some r })).shedOwedCheck p
    else
      let s0 := if code = 0 then s.shedAccept p r else s.shedAnswer p r code
      match (s.port p).shedOut with
      | none => if (s.port p).shedAgreed.isSome ∨ (s.port p).shedOwed.isSome ∨ (s.port p).relock then s.shedAnswer p r 2 else s0
      | some o =>
        if o.widen then s0
        else if r.token = o.token then
          (s.modPort p (fun x => { x with shedOut := none, txNext := none, txHold := false, shedQuiet := s.now + s.force (O.SHED_WINDOW p) * usU })).shedAnswer p r 3
        else if r.token < o.token then s.shedAnswer p r 3
        else s0

/-- The partner's response to the request that carries its token (R217, R218); on a span link it names the unit from which the partner's come in on the new
width (R220). -/
def State.shedResponse (s : State) (p token result restripe : Nat) : State :=
  match (s.port p).shedOut with
  | none => s
  | some o =>
    if o.token ≠ token then s
    else if result = 0 then
      let s1 := s.shedAgree p o
      if s.isSpan p then s1.modPort p (fun x => { x with txHold := false, rxNext := some (restripe, 2 ^ o.width - 1) }) else s1
    else ((s.bump (O.SHED_DECLINED p)).modPort p (fun x => { x with shedOut := none, txNext := none, txHold := false })).widenBack p

/-- The agreed width can take effect (R219, R220): on Ethernet 2 µs of idle after the last frame; on a span link both sides have passed their RESTRIPE units. -/
def State.switchDue (s : State) (p : Nat) : Bool :=
  let x := s.port p
  if s.isSpan p then x.txNext.isNone && x.rxNext.isNone else (s.burin p).tx.isNone && Nat.ble x.switchAt s.now

/-- The agreed width takes effect (R219 to R222): freed lanes enter DEEP_REST, and an Ethernet receiver relocks. -/
def State.shedSwitch (s : State) (p : Nat) : State :=
  let x := s.port p
  match x.shedAgreed with
  | none => s
  | some r =>
    if s.link p ≠ 6 ∨ !s.switchDue p ∨ (r.widen ∧ !s.lanesAwake p r.width) then s
    else
      let s1 := s.each (s.lanesOf p) (fun l a => if l - p < r.width ∨ a.resting l then a else a.restEnter l)
      let s2 := ((s1.setObj (O.WIDTH_NOW p) r.width).bump (O.WIDTH_CHANGES p)).raise (tileOf p) 0x31 1 p
      let s3 := if s.isSpan p then s2.setObj (O.LANES_UP p) (2 ^ r.width - 1) else s2
      ((s3.modPort p (fun y => { y with shedAgreed := none, shedAt := s.now, switchAt := s.now, relock := !s.isSpan p })).shedOwedCheck p).widenBack p

/-- SYMBOL_LOCK_DONE: alignment in bring-up, or the relock after a width change, when a change that waited for it goes on (R184, R219, R223). -/
def State.lockDone (s : State) (p deskew skew : Nat) : State :=
  let s1 := s.symbolLocked p deskew skew
  if s.link p = 6 ∧ (s.port p).relock then (s1.shedOwedCheck p).widenBack p else s1

/-- The receiver has not relocked in time: bring-up restarts at RX_DETECT as a failed attempt (R219; assumption 11). -/
def State.shedRelockTimeout (s : State) (p : Nat) : State :=
  if s.link p = 6 ∧ (s.port p).relock ∧ s.passed (s.port p).switchAt (s.force (O.SYMLOCK_TIMEOUT p) * msU) then
    ((((s.leaveActive p).bump32 (O.ATTEMPTS p)).lastFail p 13).linkFail p 13).toRxDetect p
  else s

end Sys2Proof.Machine
end

