-- ==== Sys2Proof/Machine/TimeBase.lean ====
section
/-! DEFINITION. The time base (Time Base and Time Domains; Timestamping and Precision Time, path checks): masters, domain states, replicas, Saddle
switchover, re-epochs, the PPS and 10 MHz signals, and the path checks. Domains are 0 A, 1 B, 2 L. -/

namespace Sys2Proof.Machine

/-- The other of A and B. -/
def otherDom (d : Nat) : Nat := 1 - d

/-- What a master tick takes in and gives back: the sum `acc`, the phase left and the change of time beyond one microsecond
(R419). -/
def tickStep (slew : Nat) (f acc phase corr : Int) : Int × Int × Int :=
  let cap : Int := slew * 1000
  let a := acc + (f + corr) * 65536000
  let d := tdiv a 1000000000000
  let room := tdiv ((cap - (absI f)) * 65536) 1000000000
  let p := if phase < 0 then - min (absI phase) room else min (absI phase) room
  (a - d * 1000000000000, phase - p, d + p)

/-- The role of the package in time across a stack is MEMBER (R444). -/
def State.timeMember (s : State) : Bool := s.obj O.STACK_TIME_ROLE == 2

/-- The correction a master takes in while REF10M_IN, its base, is lost (R422). -/
def State.refCorr (s : State) (base : Nat) : Int :=
  if base = 1 ∧ s.obj O.REF_STATE = 0 then s.objS 32 O.REF_OFFSET else 0

/-- The shadow of a held domain ticks with the steering written since the hold began (R472). -/
def State.shadowTick (s : State) (d : Nat) (h : Hold) : Hold :=
  let phase := (s.dom d).phaseNew.getD h.phaseLeft
  let r := tickStep (s.obj (O.SLEW_MAX d)) (s.objS 64 (O.FREQ_ADJ d)) h.acc phase (s.refCorr (s.dom d).base)
  { h with time := wrapTime (h.time + 65536000 + r.2.2), tickAt := s.L, acc := r.1, phaseLeft := r.2.1,
           freq := s.objS 64 (O.FREQ_ADJ d) }

/-- HOLD_DEV of a domain takes the shadow's time minus the master's (R472). -/
def State.noteDev (s : State) (d : Nat) : State :=
  match (s.dom d).hold with
  | none => s
  | some h => s.setObjS 64 (if d = 0 then O.HOLD_DEV_A else O.HOLD_DEV_B) ((h.time : Int) - (s.dom d).time)

/-- The first whole microsecond of L at least 2 µs from now (R425). -/
def State.effectAt (s : State) : Nat := ceilDiv (s.L + 2 * usU) usU * usU

/-- A LOCKED domain is declared lost with a cause; the change waits for its instant (R424, R425). -/
def State.declareLost (s : State) (d cause : Nat) : State :=
  if s.domState d ≠ 1 ∨ (s.dom d).changes.any (fun c => !c.lock) then s
  else s.modDom d (fun x => { x with changes := x.changes ++ [⟨false, cause, s.effectAt⟩] })

/-- A hold ends: its shadow is discarded, and FREQ_ADJ reads the value the master ticked with (R477). -/
def State.endHold (s : State) (d : Nat) : State :=
  match (s.dom d).hold with
  | none => s
  | some _ =>
    ((s.noteDev d).setObjBit O.HOLD_STATE d false).setObjS 64 (O.FREQ_ADJ d) (s.dom d).freq
      |>.modDom d (fun x => { x with hold := none, phaseNew := none })

/-- A path verdict is recorded, and reported as a TIME_PATH event: severity 2 and a root for a loss, 1 for a release (R474, R599,
R603). -/
def State.verdict (s : State) (d v : Nat) : State :=
  ((s.setObj O.PATH_VERDICT v).setObj O.PATH_VERDICT_DOM d).raiseSev 0 0x57 8 d (if v = 1 then 1 else 2) (v != 1)

/-- A path check declares a loss: the verdict is recorded, the hold ends, and the domain is declared lost with cause PATH (R474). -/
def State.pathLoss (s : State) (d v : Nat) : State := ((s.verdict d v).endHold d).declareLost d 5

/-- The detectors of a domain's ports start again in LEARN (R470, R477). -/
def State.relearn (s : State) (p : Nat) : State :=
  ({ s with paths := tput {} s.paths p { learn := s.obj (O.PATH_LEARN p) } }).setObj (O.PATH_STATE p) 0

/-- A domain becomes LOCKED (R423). After a PATH loss its detectors are in LEARN (R477). -/
def State.becomeLocked (s : State) (d : Nat) : State :=
  let s1 := if s.obj (O.LOST_CAUSE d) = 5 ∧ s.domState d = 2 then
      s.each ((List.range s.variant.ports).filter (fun p => s.obj (O.PATH_DOMAIN p) == d + 1)) (fun p a => a.relearn p)
    else s
  ((s1.setObj (O.DOM_STATE d) 1).modDom d (fun x => { x with lockedAt := s.L, steerAt := s.L })).endRoots 0
    (fun r => r.kind == 0x57 && r.src == d)

/-- A LOCKED domain becomes LOST: the cause, the count, the event, and PHASE_LEFT 0 (R423, R424). -/
def State.becomeLost (s : State) (d cause : Nat) : State :=
  if s.domState d ≠ 1 then s
  else
    let s1 := ((((s.endHold d).setObj (O.DOM_STATE d) 2).setObj (O.LOST_CAUSE d) cause).bump32 (O.LOSSES d)).raise 0 0x50 8 d
    let s2 := (s1.setObjS 64 (O.PHASE_LEFT d) 0).modDom d (fun x => { x with phaseNew := none })
    if cause = 5 then s2.life 15 1 else s2

/-- The other domain of one that became LOST: while held, it is LOST in the same decision step, DOUBLE_LOST (R477). -/
def State.lostWhileHeld (s : State) (o : Nat) : State :=
  if (s.dom o).hold.isSome then ((s.verdict o 4).endHold o).becomeLost o 5 else s

/-- A declared change of a domain's state takes effect (R425). -/
def State.applyChange (s : State) (d : Nat) (c : StateChange) : State :=
  let s1 := s.modDom d (fun x => { x with changes := x.changes.filter (· ≠ c) })
  if c.lock then (if s1.domState d = 1 then s1 else s1.becomeLocked d)
  else if s1.domState d = 1 then (s1.becomeLost d c.cause).lostWhileHeld (otherDom d)
  else s1

/-- The changes of a domain that are due: recoveries (`lock`) or losses. -/
def State.due (s : State) (d : Nat) (lock : Bool) : List StateChange :=
  (s.dom d).changes.filter (fun c => c.lock == lock && c.instant ≤ s.L)

/-- Every due change of a domain takes effect, recoveries before losses (R425, R432). -/
def State.applyDue (s : State) (d : Nat) : State :=
  let s1 := (s.due d true).foldl (fun a c => a.applyChange d c) s
  (s1.due d false).foldl (fun a c => a.applyChange d c) s1

/-- Every due change of both domains takes effect, recoveries before losses (R432). -/
def State.applyAllDue (s : State) : State :=
  let s1 := (s.due 0 true).foldl (fun a c => a.applyChange 0 c) s
  let s2 := (s1.due 1 true).foldl (fun a c => a.applyChange 1 c) s1
  let s3 := (s2.due 0 false).foldl (fun a c => a.applyChange 0 c) s2
  (s3.due 1 false).foldl (fun a c => a.applyChange 1 c) s3

/-- The tick of a master whose configuration pair is not complementary: on OSC, FREQ_ADJ 0, PHASE_LEFT 0, SLEW_MAX 5,000, and the domain declared
lost as DOM_SRC = FAILED does (R584). -/
def State.tickMismatch (s : State) (d : Nat) : State :=
  let s1 := s.modDom d (fun x => { x with
    time := wrapTime (x.time + 65536000), tickAt := s.L, acc := 0, freq := 0, slew := 5000, base := 0, phaseNew := none })
  let s2 := ((s1.setObjS 64 (O.PHASE_LEFT d) 0).setObjS 64 (O.RATE_NOW d) 0).setObj (O.DOM_SRC d) 2
  (s2.mismatch 0 4).declareLost d 1

/-- 50 ppm of a microsecond, by which the clock of a replica's island or REF10M_IN may be fast against T0's oscillator (R429, R443). -/
def fastest : Nat := 3277

/-- A master may tick: at a whole microsecond of L on T0's oscillator, or a microsecond of REF10M_IN after its last tick (R419, R422). -/
def State.tickDue (s : State) (d : Nat) : Bool :=
  let x := s.dom d
  if x.base = 1 ∧ s.obj O.REF_STATE = 1 ∧ !s.timeMember then Nat.ble (x.tickAt + usU) (s.L + fastest)
  else s.wholeUs && Nat.blt x.tickAt s.L

/-- A master of A or B ticks: while held with the steering of the hold's start, otherwise adopting what was written since the last
tick (R419, R420, R451, R472). A member's copy ticks at its servo's rate (R444). -/
def State.masterTick (s : State) (d : Nat) : State :=
  let x := s.dom d
  if !s.tickDue d then s
  else if !s.pairOk (.steer d) then s.tickMismatch d
  else if s.timeMember then
    let r := tickStep 100000 x.rate x.acc 0 0
    s.modDom d (fun y => { y with time := wrapTime (y.time + 65536000 + r.2.2), tickAt := s.L, acc := r.1 })
  else
    let held := x.hold.isSome
    let slew := s.obj (O.SLEW_MAX d)
    let base := s.obj (O.DOM_BASE d)
    let f := if held then x.freq else s.objS 64 (O.FREQ_ADJ d)
    let ph := s.objS 64 (O.PHASE_LEFT d)
    let phase := if held then 0 else x.phaseNew.getD ph
    let r := tickStep slew f x.acc phase (s.refCorr base)
    let s1 := s.modDom d (fun y => { y with
      time := wrapTime (y.time + 65536000 + r.2.2), tickAt := s.L, acc := r.1, freq := f, slew := slew, base := base,
      hold := y.hold.map (s.shadowTick d), phaseNew := none })
    let s2 := s1.setObjS 64 (O.PHASE_LEFT d) (if held then ph else r.2.1)
    (s2.setObjS 64 (O.RATE_NOW d) (tdiv (r.2.2 * 1000000000000) 65536000)).noteDev d

/-- DOM_SRC = OK: a LOCKED domain's watchdog is fed; another domain is declared LOCKED (R423, R451). -/
def State.srcOk (s : State) (d : Nat) : State :=
  let s1 := s.setObj (O.DOM_SRC d) 1
  if s.domState d = 1 then s1.modDom d (fun x => { x with steerAt := s.L })
  else s1.modDom d (fun x => { x with changes := x.changes ++ [⟨true, 0, s.effectAt⟩] })

/-- DOM_SRC = FAILED: a LOCKED domain is declared lost with cause HOST (R424). -/
def State.srcFailed (s : State) (d : Nat) : State := (s.setObj (O.DOM_SRC d) 2).declareLost d 1

/-- A domain is steered, which feeds its watchdog (R424). -/
def State.steered (s : State) (d : Nat) : State := s.modDom d (fun x => { x with steerAt := s.L })

/-- A write of PHASE_ADJ: a jump report on a LOCKED domain (R475), or the phase that the next tick of the master or of its shadow takes
(R420, R472). -/
def State.phaseAdj (s : State) (d : Nat) (v : Int) : State :=
  let s1 := (s.setObjS 64 (O.PHASE_ADJ d) v).steered d
  let lim : Int := s.obj (if d = 0 then O.JUMP_LIMIT_A else O.JUMP_LIMIT_B) * 65536
  if s.domState d = 1 ∧ lim < (absI v) then
    ((s1.bump32 O.JUMPS).raise 0 0x56 8 d).pathLoss d (if v < 0 then 5 else 6)
  else s1.modDom d (fun x => { x with phaseNew := some v })

/-- B minus A of the two masters is measured, and its least and greatest values kept (R431). -/
def State.measureDiff (s : State) : State :=
  let diff : Int := (s.masterNow 1 : Int) - s.masterNow 0
  ((s.setObjS 64 O.DIFF_BA diff).setObjS 64 O.DIFF_BA_MIN (min diff (s.objS 64 O.DIFF_BA_MIN))).setObjS 64 O.DIFF_BA_MAX
    (max diff (s.objS 64 O.DIFF_BA_MAX))

/-- Whether the decision switches away from the active domain `x`: on failure, on request, or reverting (R432). -/
def State.wantsSwitch (s : State) (x : Nat) : Bool :=
  let y := otherDom x
  (s.domState x == 2 && s.domState y == 1) ||
  (s.obj O.SADDLE_REQ == y + 1 && s.domState x != 0 && s.domState y == 1) ||
  (s.obj O.SADDLE_MODE == y + 1 && s.domState x == 1 && s.domState y == 1 &&
    (s.dom y).lockedAt + s.obj O.REVERT_HOLD * secU ≤ s.L)

/-- The presented time switches to domain `y` with O chosen so that P is continuous (R432). -/
def State.switchTo (s : State) (y : Nat) : State :=
  let o : Int := (s.presented 0 : Int) - s.masterNow y
  ((((s.setObjS 64 O.PRES_OFFSET o).setObj O.ACTIVE_DOMAIN y).bump32 O.SWITCHOVERS).setObj O.LAST_SWITCH_L (ts96 s.L)).raise 0 0x52 8 y
    |>.life 14 1

/-- O after one slew step toward 0 (R432). -/
def slewStep (slew : Nat) (o : Int) : Int :=
  let step : Int := (slew * 65536 / 1000000 : Nat)
  if (absI o) ≤ step then 0 else if 0 < o then o - step else o + step

/-- PRES_STATE follows the active domain and O; an entry to HOLDOVER is counted and reported (R432, R435). -/
def State.setPres (s : State) : State :=
  let x := s.active
  if s.domState x ≠ 1 then
    let s1 := s.setObj O.PRES_STATE 2
    if s.obj O.PRES_STATE = 2 then s1 else ((s1.bump32 O.HOLDOVER_ENTRIES).raise 0 0x53 8 x).life 13 1
  else s.setObj O.PRES_STATE (if s.offsetO = 0 then 0 else 1)

/-- A decision is made once at each whole microsecond of L (R432). -/
def State.decideDue (s : State) : Bool := s.wholeUs && (s.L == 0 || s.pLastAt != s.L)

/-- The decision after the switch: O is slewed while the active domain is LOCKED and no switch was made (R432). -/
def State.decideRest (s : State) (switched : Bool) : State :=
  let x := s.active
  let s1 := if s.domState x = 1 ∧ switched = false then
      s.setObjS 64 O.PRES_OFFSET (slewStep (s.dom x).slew s.offsetO) else s
  let s2 := s1.setPres
  { s2 with pLast := s2.presented 0, pLastAt := s2.L }

/-- The safe choice of the active domain when its pair is not complementary (R584). -/
def State.forceActive (s : State) : State :=
  let x := if s.domState 0 = 1 then 0 else if s.domState 1 = 1 then 1 else 0
  let o : Int := (s.pLast : Int) + (s.L - s.pLastAt : Nat) - s.masterNow x
  (((s.setObjS 64 O.PRES_OFFSET o).setObj O.ACTIVE_DOMAIN x).restorePair .active).mismatch 0 4

/-- The procedure of R432 at a whole microsecond. A member follows the upstream active domain and O (R444). -/
def State.decide (s : State) : State :=
  if s.timeMember then ({ s with pLast := s.presented 0, pLastAt := s.L }).setPres
  else if !s.pairOk .active then ((s.forceActive).setObj O.SADDLE_REQ 0).decideRest true
  else
    let x := s.active
    let sw := s.wantsSwitch x
    let s1 := s.setObj O.SADDLE_REQ 0
    let s2 := if sw then s1.switchTo (otherDom x) else s1
    s2.decideRest sw

/-- A re-epoch takes place: the master and every replica of the domain take the new value, PHASE_LEFT becomes 0, the generation rises, a hold of
the domain ends without verdict, and O becomes 0 if the domain is active (R437, R438, R477). Ticks go on where they stood, and a marker on its way carries the new
time. -/
def State.doReepoch (s : State) (d v : Nat) : State :=
  let old : Int := (s.masterNow 1 : Int) - s.masterNow 0
  let s1 := s.endHold d
  let step : Int := (v : Int) - s.masterNow d
  let atTick := fun (tick : Nat) => wrapTime ((v : Int) - (s.L - tick : Nat))
  let s2 := s1.modDom d (fun x => { x with time := atTick x.tickAt, phaseNew := none })
  let reps := s2.replicas.map (fun e => if e.1 % 4 = d then (e.1, { e.2 with
    time := atTick e.2.tickAt, sent := e.2.sent.map (fun y => wrapTime ((y : Int) + step)) }) else e)
  let s3 := ({ s2 with replicas := reps, reepoch := none }).setObjS 64 (O.PHASE_LEFT d) 0
  let s4 := ((s3.setObj (O.DOM_GEN d) ((s.obj (O.DOM_GEN d) + 1) % 4)).setObj O.REEPOCH_STATE 0).setObj O.REEPOCH_CMD 0
  let new : Int := (s4.masterNow 1 : Int) - s4.masterNow 0
  let s5 := if (s4.dom (otherDom d)).hold.isSome then s4.setObjS 64 O.HOLD_D0 (s4.objS 64 O.HOLD_D0 + (new - old)) else s4
  let s6 := if s.active = d then s5.setObjS 64 O.PRES_OFFSET 0 else s5
  (s6.setObjS 64 O.DIFF_BA new).raise 0 0x54 8 d

/-- A pending re-epoch whose instant has come takes place. -/
def State.reepochDue (s : State) : State :=
  match s.reepoch with
  | some (d, i, v) => if i ≤ s.L then s.doReepoch d (wrapTime (v + (s.L - i) : Nat)) else s
  | none => s

/-- Why a write of REEPOCH_CMD naming a domain is refused: REEPOCH_AT less than 20 µs away or on a fraction of a microsecond
(R436). -/
def State.reepochRefused (s : State) : Bool :=
  let i := unitsOf96 (s.obj O.REEPOCH_AT)
  i < s.L + 20 * usU || i % usU != 0

/-- A write of REEPOCH_CMD schedules or cancels a re-epoch (R436). -/
def State.reepochCmd (s : State) (v : Nat) : State :=
  let s1 := s.setObj O.REEPOCH_CMD v
  if v = 0 then { s1.setObj O.REEPOCH_STATE 0 with reepoch := none }
  else { s1.setObj O.REEPOCH_STATE 1 with
    reepoch := some (v - 1, unitsOf96 (s.obj O.REEPOCH_AT), unitsOf96 (s.obj O.REEPOCH_TIME)) }

/-! Replicas. -/

/-- A replica island starts: its three replicas enter ACQUIRE (R429). -/
def State.startReplica (s : State) (rep : Nat) : State :=
  s.each [0, 1, 2] (fun d a => a.modReplica rep d (fun r => { r with
    running := true, state := 0, time := a.L, tickAt := a.L, rate := 0, integ := 0, acc := 0, good := 0, bad := 0, missed := 0, seen := false,
    sent := none, delayAt := none }))

/-- A replica island stops. -/
def State.stopReplica (s : State) (rep : Nat) : State :=
  s.each [0, 1, 2] (fun d a => a.modReplica rep d (fun _ => {}))

/-- The tile of a replica. -/
def repTile (rep : Nat) : Nat := if rep < 8 then rep else tileOf (rep - 8)

/-- The replicas a tile's time unit sends its marker to: its port slots, and from T0 the other tiles (R426). -/
def State.markerTargets (s : State) (t : Nat) : List Nat :=
  (if t = 0 then (s.tileList.filter (· ≠ 0)) else []) ++ (portsOf t).map (· + 8)

/-- A time unit sends a marker and its message at a whole microsecond of L (R426). -/
def State.timeMarker (s : State) (t : Nat) : State :=
  if !s.wholeUs then s
  else
    let s1 := s.each (s.markerTargets t) (fun r a => a.each [0, 1, 2] (fun d b =>
      if (b.replica r d).running then b.modReplica r d (fun x => { x with sent := some (s.timeAt t d) }) else b))
    s1.emit (.marker t (s.timeAt t 0) (s.timeAt t 1) (s.timeAt t 2) (s.domState 0) (s.domState 1) s.active s.offsetO)

/-- A replica enters FAULT: counted on its tile and reported by the tile or the port (R429). -/
def State.replicaFault (s : State) (rep d : Nat) : State :=
  let t := repTile rep
  let s1 := (s.modReplica rep d (fun r => { r with state := 2, good := 0, bad := 0, missed := 0 })).bump32 (O.REPLICA_FAULTS t)
  (s1.tileLife t 4).raise t 0x51 (if rep < 8 then 10 else 1) (if rep < 8 then rep else rep - 8)

/-- The servo of R428 for an error `e`. -/
def Replica.update (r : Replica) (e : Int) : Replica :=
  if r.state = 0 ∧ 262144 < (absI e) then { r with time := wrapTime ((r.time : Int) + e), integ := 0 }
  else
    let i := r.integ + e * 12
    { r with integ := i, rate := clampI (-100000000) 100000000 (e * 763 + i) }

/-- The counts of R429 for an error `e`: markers good or bad in a row. -/
def Replica.counts (r : Replica) (e : Int) : Replica :=
  { r with good := if (absI e) < 131072 then r.good + 1 else 0, bad := if 262144 < (absI e) then r.bad + 1 else 0 }

/-- A replica moves its path delay toward the measured one, by at most 1,024 units (R427). -/
def Replica.moveDelay (r : Replica) : Replica :=
  { r with delay := r.delay + clampI (-1024) 1024 (r.delayTo - r.delay) }

/-- A marker reaches a replica (R427 to R429): the phase detector resolves 1/64 ns. -/
def State.replicaMarker (s : State) (rep d arrival : Nat) : State :=
  let r := (s.replica rep d).moveDelay
  match r.running, r.sent with
  | true, some v =>
    let e : Int := ((v : Int) + r.delay) - r.at (arrival / 1024 * 1024)
    let r1 := { (r.update e).counts e with sent := none, seen := true }
    let s1 := s.modReplica rep d (fun _ => r1)
    let s2 := if rep < 8 then s1.setObjS 32 (if d = 0 then O.SERVO_ERR_A rep else if d = 1 then O.SERVO_ERR_B rep
      else O.SERVO_ERR_L rep) e else s1
    let s3 := if s2.pairOk (.replicaActive rep) then s2
      else if r.stale then (s2.restorePair (.replicaActive rep)).modReplica rep d (fun x => { x with stale := false })
      else (s2.mismatch (repTile rep) 4).modReplica rep d (fun x => { x with stale := true })
    if r1.state = 0 ∧ 16 ≤ r1.good ∨ r1.state = 2 ∧ 1000 ≤ r1.good then
      (s3.modReplica rep d (fun x => { x with state := 1, good := 0, bad := 0 })).endRoots (repTile rep)
        (fun z => z.kind == 0x51 && z.cls == 10 && rep < 8)
    else if r1.state = 1 ∧ 4 ≤ r1.bad then s3.replicaFault rep d
    else s3
  | _, _ => s

/-- A replica advances by one microsecond of its island's reference, which lies within 50 ppm of the master's base, at its servo's rate, and counts a marker that did not come
(R428, R429). -/
def State.replicaTick (s : State) (rep d : Nat) : State :=
  let r := s.replica rep d
  if !r.running ∨ s.L + fastest < r.tickAt + usU then s
  else
    let k := tickStep 100000 r.rate r.acc 0 0
    let missed := if r.seen then 0 else r.missed + 1
    let s1 := s.modReplica rep d (fun x => { x with
      time := wrapTime (x.time + 65536000 + k.2.2), tickAt := s.L, acc := k.1, seen := false, missed := missed })
    if r.state = 1 ∧ 4 ≤ missed then s1.replicaFault rep d else s1

/-- The path delay of a time link is measured, as the receiving replica enters ACQUIRE and again every second (R427). -/
def State.pathDelay (s : State) (rep delay : Nat) : State :=
  s.each [0, 1, 2] (fun d a => a.modReplica rep d (fun r =>
    if r.running && (match r.delayAt with | some i => Nat.ble (i + secU) s.L | none => true) then
      { r with delayTo := delay, delay := if r.delayAt.isNone then delay else r.delay, delayAt := some s.L }
    else r))

/-! PPS and the 10 MHz reference. -/

/-- A correction in picoseconds as units, truncated (R454). -/
def psUnits (ps : Int) : Int := tdiv (ps * 65536) 1000

/-- T0 stands within 1 ns of a second boundary of P, advanced by PPS_OUT_CORR, that it has not yet driven (R439). -/
def State.atSecond (s : State) : Bool :=
  let x := wrapTime ((s.presented 0 : Int) + psUnits (s.objS 32 O.PPS_OUT_CORR)) % secU
  (Nat.ble x nsU || Nat.ble (secU - nsU) x) && (match s.ppsLast with | some i => Nat.blt (i + 2 * nsU) s.now | none => true)

/-- A second boundary of P, advanced by PPS_OUT_CORR: PPS_OUT rises for PPS_OUT_WIDTH, or a pulse that would overlap is skipped
(R439, R440). The PPS objects come into force here. -/
def State.ppsPulse (s : State) : State :=
  let s1 := { ((s.adopt O.PPS_OUT_ENABLE).adopt O.PPS_OUT_WIDTH).adopt O.PPS_OUT_CORR with ppsLast := some s.now }
  if !s.atSecond then s
  else if !s1.flag O.PPS_OUT_ENABLE then s1
  else match s1.ppsOut with
    | some _ => s1.bump32 O.PPS_OUT_SKIPPED
    | none => { s1 with ppsOut := some (s.now + s1.obj O.PPS_OUT_WIDTH * usU) }

/-- A value referred to the ball of PPS_IN, at 1/64 ns (R441). -/
def State.ppsValue (s : State) (d : Nat) : Nat :=
  ts96 (wrapTime ((s.masterNow d / 1024 * 1024 : Nat) - psUnits (s.objS 32 O.PPS_IN_CORR)))

/-- A rising edge of PPS_IN (R441, R442). -/
def State.ppsEdgeIn (s : State) : State :=
  match s.ppsEdge with
  | some e =>
    if s.now < e + 500 * msU then s.bump32 O.PPS_IN_GLITCH else capture
  | none => capture
where
  /-- A qualified edge is captured in A, B and L while PPS_IN_ENABLE is true. -/
  capture : State :=
    let s1 := { s with ppsEdge := some s.now }
    if !s.flag O.PPS_IN_ENABLE then s1
    else (((s1.setObj O.PPS_IN_A (s.ppsValue 0)).setObj O.PPS_IN_B (s.ppsValue 1)).setObj O.PPS_IN_L (s.ppsValue 2)).bump32 O.PPS_IN_SEQ

/-- A 1 ms window of REF10M_IN ends (R443, R422). -/
def State.refWindow (s0 : State) (edges : Bool) (offset : Int) : State :=
  let s := { s0 with refAt := some s0.now }
  if (match s0.refAt with | some i => Nat.blt s0.now (i + msU) | none => false) then s0
  else if edges = false ∨ 50000000 < (absI offset) then
    let s1 := { s with refBad := s.refBad + 1, refGood := 0 }
    if s.obj O.REF_STATE = 1 ∧ 2 ≤ s1.refBad then
      let s2 := ((s1.setObj O.REF_STATE 0).bump32 O.REF_LOSSES).raise 0 0x55 0 4
      s2.each [0, 1] (fun d a => if (a.dom d).base = 1 then a.declareLost d 4 else a)
    else s1
  else
    let s1 := ({ s with refBad := 0, refGood := s.refGood + 1 }).setObjS 32 O.REF_OFFSET offset
    if 100 ≤ s1.refGood then s1.setObj O.REF_STATE 1 else s1

/-! Path checks. -/

/-- T0 handles a path step declared for domain `d` (R471). -/
def State.pathStep (s : State) (d : Nat) : State :=
  let o := otherDom d
  if s.domState d ≠ 1 then s
  else if (s.dom o).hold.isSome then ((s.pathLoss d 4).pathLoss o 4)
  else if (s.dom d).hold.isSome then s
  else if s.domState o ≠ 1 then s.pathLoss d 3
  else
    let x := s.dom d
    let h : Hold := ⟨x.time, x.tickAt, x.acc, x.phaseNew.getD (s.objS 64 (O.PHASE_LEFT d)), x.freq,
      s.now + s.obj O.PATH_HOLD * msU⟩
    ((s.modDom d (fun y => { y with hold := some h, phaseNew := none })).setObj O.HOLD_D0 (s.obj O.DIFF_BA)).setObjBit O.HOLD_STATE d true

/-- A path detector's state. -/
def State.path (s : State) (p : Nat) : PathDet := tget {} s.paths p

/-- A path detector changed. -/
def State.modPath (s : State) (p : Nat) (f : PathDet → PathDet) : State := { s with paths := tmod {} s.paths p f }

/-- A write of PATH_SAMPLE feeds the port's detector (R470). -/
def State.pathSample (s : State) (p : Nat) (v : Int) : State :=
  let s0 := s.setObjS 64 (O.PATH_SAMPLE p) v
  let x := s.path p
  if s.obj (O.PATH_STATE p) = 0 then
    let x1 := { x with sum := x.sum + v, n := x.n + 1 }
    let s1 := s0.modPath p (fun _ => x1)
    if x1.n = x.learn then (s1.setObjS 64 (O.PATH_BASE p) (tdiv x1.sum x1.n)).setObj (O.PATH_STATE p) 1 else s1
  else
    let base := s.objS 64 (O.PATH_BASE p)
    let dev := v - base
    if (s.obj (O.PATH_STEP_NS p) * 65536 : Nat) < (absI dev) then
      if s.obj (O.PATH_STEP_COUNT p) ≤ x.run + 1 then
        let s1 := ((s0.bump32 (O.PATH_STEPS p)).setObjS 64 (O.PATH_LAST_STEP p) dev).relearn p
        if s.obj (O.PATH_DOMAIN p) = 0 then s1 else s1.pathStep (s.obj (O.PATH_DOMAIN p) - 1)
      else s0.modPath p (fun y => { y with run := y.run + 1 })
    else (s0.modPath p (fun y => { y with run := 0 })).setObjS 64 (O.PATH_BASE p) (base + tdiv dev 16)

/-- The verdict at the end of a hold (R473). -/
def State.holdVerdict (s : State) (d : Nat) : State :=
  match (s.dom d).hold with
  | none => s
  | some h =>
    if s.now < h.endAt then s
    else
      let dev : Int := (h.time : Int) - (s.dom d).time
      let diff := s.objS 64 O.DIFF_BA
      let pred := if d = 0 then diff - dev else diff + dev
      if (s.obj O.DIFF_STEP_NS * 65536 : Nat) < absI (pred - s.objS 64 O.HOLD_D0) then s.pathLoss d 2
      else
        let phase := dev + (s.dom d).phaseNew.getD h.phaseLeft
        (((s.noteDev d).modDom d (fun x => { x with hold := none, phaseNew := none })).setObjS 64 (O.PHASE_LEFT d) phase
          |>.setObjBit O.HOLD_STATE d false).verdict d 1

/-- The watchdog of a LOCKED domain has run out (R424). -/
def State.watchdogDue (s : State) (d : Nat) : Bool :=
  s.domState d == 1 && s.obj (O.DOM_WATCHDOG d) != 0 && (s.dom d).steerAt + s.obj (O.DOM_WATCHDOG d) * msU ≤ s.L

/-- A watched LOCKED domain has gone 1,100 ms without a qualified PPS_IN edge, counted from its entry to LOCKED or the last edge
(R424; assumption 7). -/
def State.ppsLossDue (s : State) (d : Nat) : Bool :=
  s.domState d == 1 && s.flag (O.DOM_PPS_WATCH d) &&
    max ((s.dom d).lockedAt + s.lStart) (s.ppsEdge.getD 0) + 1100 * msU ≤ s.now

/-- Refusals of time-base writes by other objects' values: `a` holds the values after the write or its group (R421, R433,
R436). -/
def timeConflict (s a : State) (key v : Nat) : Nat :=
  let freqBad := fun d => decide ((a.obj (O.SLEW_MAX d) * 1000 : Nat) < absI (a.objS 64 (O.FREQ_ADJ d)))
  if (key = O.FREQ_ADJ 0 ∨ key = O.SLEW_MAX 0) ∧ freqBad 0 ∨ (key = O.FREQ_ADJ 1 ∨ key = O.SLEW_MAX 1) ∧ freqBad 1 then 0x09
  else if (key = O.DOM_BASE 0 ∨ key = O.DOM_BASE 1) ∧ v = 1 ∧ s.obj O.REF_STATE ≠ 1 then 0x09
  else if key = O.SADDLE_REQ ∧ v ≠ 0 ∧ (s.domState (v - 1) ≠ 1 ∨ s.domState s.active = 0) then 0x09
  else if key = O.REEPOCH_CMD ∧ v ≠ 0 ∧ a.reepochRefused then 0x05
  else 0

end Sys2Proof.Machine
end

