-- ==== Sys2Proof/Machine/Lanes.lean ====
section
/-! DEFINITION. Serial lanes (R147 to R182) as their port sees them: detectors, quality measures, transmit taps, loops, patterns, checker, and
the lane events that take a port down. -/

namespace Sys2Proof.Machine

/-- Lane states in which LANE_LOS and LANE_LOL are raised (R166): WAKING, TRAINING, ACTIVE, LOOP. -/
def lanesReport (st : Nat) : Bool := st == 2 || st == 3 || st == 4 || st == 6

/-- A lane that is back in training while its port is ACTIVE starts again when it loses its signal or lock (R212). -/
def State.aloneLost (s : State) (l : Nat) : State :=
  let x := s.lane l
  if x.alone = 1 ∨ (x.dropped ∧ s.obj (O.LANE_STATE l) = 4) then s.trainAlone l else s

/-- What losing the signal or the lock of a lane does to its port (R185, R192, R210, R213). -/
def State.laneLost (s : State) (l cause : Nat) : State :=
  match s.portOf l with
  | none => s
  | some p =>
    if s.link p = 6 then
      if s.isSpan p ∧ bit (s.obj (O.LANES_UP p)) (l - p) then s.spanLaneFailed p l cause
      else if !s.isSpan p ∧ l - p < s.obj (O.WIDTH_NOW p) ∧ lanesReport (s.obj (O.LANE_STATE l)) then s.linkDown p
      else s.aloneLost l
    else if s.attempting p ∧ cause = 1 then s.abortAttempt p 11
    else s

/-- A time object rounded up to the 10 ns at which the detector evaluates (R162). -/
def losTime (ns : Nat) : Nat := ceilDiv ns 10 * 10

/-- LOS asserts (R162, R165, R166): the amplitude has stayed below LOS_ASSERT_MV for LOS_ASSERT_TIME. `mv` is the largest of the last `ns` ns. -/
def State.losAssert (s : State) (l mv ns : Nat) : State :=
  let st := s.obj (O.LANE_STATE l)
  if st = 0 ∨ s.los l ∨ s.obj (O.LOS_ASSERT_MV l) ≤ mv ∨ ns < losTime (s.obj (O.LOS_ASSERT_TIME l)) then s
  else
    let s1 := (s.setObj (O.LOS_STATE l) 1).bump (O.LOS_COUNT l)
    let s2 := if st = 5 then s1 else (s1.setObj (O.LOL_STATE l) 1).setObj (O.SNR_NOW l) 0
    let s3 := (if lanesReport st then s2.raise (tileOf l) 0x20 2 l else s2).modLane l (fun x => { x with lostAt := some s.now, snrGood := false })
    let s4 := match s3.portOf l with
      | some p => if s3.link p = 7 then s3.modPort p (fun x => { x with backoffLos := true }) else s3
      | none => s3
    if st = 5 then s4 else s4.laneLost l 1

/-- LOS deasserts (R162): the amplitude has stayed at or above LOS_DEASSERT_MV for LOS_DEASSERT_TIME, where `mv` is the smallest of the last `ns` ns. The root
ends (R603), and a back-off may end early (R197). -/
def State.losDeassert (s : State) (l mv ns : Nat) : State :=
  if s.obj (O.LANE_STATE l) = 0 ∨ !s.los l ∨ mv < s.obj (O.LOS_DEASSERT_MV l) ∨ ns < losTime (s.obj (O.LOS_DEASSERT_TIME l)) then s
  else
    let s1 := (s.setObj (O.LOS_STATE l) 0).endRoots (tileOf l) (fun r => r.kind == 0x20 && r.src == l)
    match s1.portOf l with
    | some p => s1.backoffEarly p
    | none => s1

/-- A window of the clock recovery with its offset beyond LOL_PPM or more than four cycle slips (R164). -/
def State.windowBad (s : State) (l : Nat) (w : CdrWindow) : Bool :=
  Decidable.decide (((s.obj (O.LOL_PPM l) * 100 : Nat) : Int) < absI w.ppm) || Nat.blt 4 w.slips

/-- The last `n` windows are there and all meet a test. -/
def lastWindows (n : Nat) (f : CdrWindow → Bool) (l : List CdrWindow) : Bool := Nat.ble n l.length && (l.drop (l.length - n)).all f

/-- LOL asserts while LOS is deasserted, after two bad windows in a row (R164 to R166; assumption 85). -/
def State.lolAssert (s : State) (l : Nat) (ws : List CdrWindow) : State :=
  if !lanesReport (s.obj (O.LANE_STATE l)) ∨ s.los l ∨ s.lol l ∨ !lastWindows 2 (s.windowBad l) ws then s
  else
    let s1 := (((s.setObj (O.LOL_STATE l) 1).setObj (O.SNR_NOW l) 0).bump (O.LOL_COUNT l)).raise (tileOf l) 0x21 2 l
    (s1.modLane l (fun x => { x with lostAt := some s.now, snrGood := false })).laneLost l 2

/-- LOL deasserts after eight clean windows in a row (R164), only while LOS is deasserted. -/
def State.lolDeassert (s : State) (l : Nat) (ws : List CdrWindow) : State :=
  if !lanesReport (s.obj (O.LANE_STATE l)) ∨ s.los l ∨ !s.lol l ∨ !lastWindows 8 (fun w => !s.windowBad l w) ws then s
  else
    let s1 := (s.setObj (O.LOL_STATE l) 0).modLane l (fun x => { x with lolClearAt := s.now })
    match s1.portOf l with
    | some p => s1.bitLockCheck p
    | none => s1

/-- A window of 2^24 symbols ends (R167): SNR_NOW, and SNR_MIN when neither LOS nor LOL asserted in it; a good window may complete BIT_LOCK
(R184). `start` is the window's first instant. -/
def State.snrWindow (s : State) (l snr start : Nat) : State :=
  let x := s.lane l
  let ok := match x.lostAt with
    | some u => Nat.blt u start
    | none => true
  if s.lol l then s
  else
    let s1 := s.setObj (O.SNR_NOW l) (snr % 65536)
    let s2 := if ok then s1.setObj (O.SNR_MIN l) (min (s1.obj (O.SNR_MIN l)) (snr % 65536)) else s1
    match s2.portOf l with
    | none => s2
    | some p =>
      if s2.link p = 3 ∧ ok ∧ max (s2.port p).stateAt x.lolClearAt ≤ start ∧ s2.force (O.SNR_ACCEPT p) ≤ snr then
        (s2.modLane l (fun y => { y with snrGood := true })).bitLockCheck p
      else s2

/-- RX_FFE from its taps −3 to +20: the main cursor is 64, and in NRZ modes only taps −1 to +6 are active (R156, R157, R159). -/
def ffeBytes (pam4 : Bool) (taps : List Int) : Nat :=
  (List.range 24).foldl (fun a i =>
    let v : Int := if i = 3 then 64 else if pam4 || (2 ≤ i && i ≤ 9) then clampI (-64) 63 (taps.getD i 0) else 0
    a + ofS 8 v * 256 ^ i) 0

/-- RX_FFE with the taps that an NRZ mode leaves inactive read as 0 (R156). -/
def nrzMask (v : Nat) : Nat := if v = 0 then 0 else ffeBytes false ((List.range 24).map (fun i => toS 8 (octet v i)))

/-- Training may now be complete on a lane that trains alone, or on every lane of the port (R191, R212); a widen request that waited for the lane is answered (R221). -/
def State.trained (s : State) (l : Nat) : State :=
  let s1 := (s.sayTrain l).aloneCheck l
  match s1.portOf l with
  | some p => (s1.trainCheck p).shedOwedCheck p
  | none => s1

/-- An adaptation update (R158): while LOL is deasserted and adaptation is CONTINUOUS; a change to FROZEN lets the update in progress complete.
Three updates in a row with no FFE tap moved by more than one make the receiver ready (R190). -/
def State.adaptUpdate (s : State) (l : Nat) (ctle : Nat) (ffe : List Int) (dfe : Int) : State :=
  let st := s.obj (O.LANE_STATE l)
  let want := s.obj (O.RX_ADAPT l) == 1
  let s0 := s.modLane l (fun x => { x with frozen := want })
  if s.lol l ∨ (s.lane l).frozen ∨ !(st == 3 || st == 4 || st == 5 || st == 6) then s0
  else
    let old := s.obj (O.RX_FFE l)
    let new := ffeBytes (isPam4 (s.obj (O.LANE_MODE l))) ffe
    let still := (List.range 24).all (fun i => absI (toS 8 (octet new i) - toS 8 (octet old i)) ≤ 1)
    ((((s0.setObj (O.RX_CTLE l) (min ctle 15)).setObj (O.RX_FFE l) new).setObjS 32 (O.RX_DFE l) (clampI (-64) 63 dfe)).modLane l (fun x =>
      { x with steady := if still then x.steady + 1 else 0 })).trained l

/-- TRAINING_COMPLETE: the partner's status on each lane of the port (R160, R191). -/
def State.trainingDone (s : State) (p : Nat) (status : List PartnerTrain) : State :=
  s.each (s.lanesOf p) (fun l a =>
    match status[l - p]? with
    | some x => if a.training l then (a.modLane l (fun y => { y with partnerTrain := x })).trained l else a
    | none => a)

/-- A port whose FEC is an RS code (R168). -/
def State.rsFec (s : State) (p : Nat) : Bool :=
  let f := fecOf (s.obj (O.PORT_MODE p)) (s.force (O.FEC_MODE p))
  f == 3 || f == 4

/-- A codeword completes on a port (R168): each lane with symbols in it counts it. The lanes are those listed, with the symbols corrected on
each. Four uncorrectable codewords within 1 µs fail a span lane (R209). -/
def State.fecCodeword (s : State) (p : Nat) (corr : List LaneSym) (uncorr : Bool) : State :=
  if !s.rsFec p then s
  else
    let s1 := corr.foldl (fun a c =>
      let l := p + c.lane
      if !(a.lanesOf p).contains l then a
      else if uncorr then
        ((a.bump (O.FEC_HIST_UNCORR l)).life (96 + l) 1).modLane l (fun x => { x with
          uncorr := s.now :: x.uncorr.filter (fun i => s.now ≤ i + usU), uncSec := true })
      else ((a.bump (O.FEC_HIST l (min c.corr 15))).add (O.FEC_SYM_CORR l) c.corr).modLane l (fun x => { x with fecSec := x.fecSec + c.corr })) s
    if uncorr ∧ s.isSpan p then
      corr.foldl (fun a c => if a.link p = 6 ∧ 4 ≤ (a.lane (p + c.lane)).uncorr.length then a.spanLaneFailed p (p + c.lane) 4 else a) s1
    else s1

/-- HIST_CLEAR (R170). -/
def State.histClear (s : State) (l : Nat) : State :=
  (((s.each (List.range 16) (fun i a => a.setObj (O.FEC_HIST l i) 0)).setObj (O.FEC_HIST_UNCORR l) 0).setObj (O.FEC_SYM_CORR l) 0).setObj
    (O.SNR_MIN l) 0xFFFF

/-- A write of TX_FIR_FIXED (R154): at once while FIXED is in force, otherwise at the next bring-up. -/
def State.firFixed (s : State) (l v : Nat) : State :=
  let s1 := s.setObj (O.TX_FIR_FIXED l) v
  if s.force (O.TX_FIR_MODE l) = 1 ∧ s.obj (O.LANE_STATE l) ≠ 0 then s1.setObj (O.TX_FIR_NOW l) v else s1

/-- The port of a lane is brought down or up again after a loop or pattern changes (R176). -/
def State.testChanged (s : State) (l : Nat) : State :=
  match s.portOf l with
  | none => s
  | some p =>
    let s1 := s.refreshPort p
    if s1.link p = 0 then s1.each (s1.lanesOf p) (fun i a => a.disabledLane p i) else s1

/-- The conflict of a LOOP or TX_PATTERN write on lane `l` (R176, R597): a lane state that takes none, interlock rows 1 and 4. The answer
is the result code and the interlock row. -/
def State.testConflict (s : State) (l v : Nat) : Nat × Nat :=
  match s.portOf l with
  | none => (0x09, 0)
  | some p =>
    let st := s.obj (O.LANE_STATE l)
    if (s.lanesOf p).any (fun i => s.obj (O.LANE_STATE i) == 2 || (s.lane i).restPhase == .entering) then (0x0A, 4)
    else if v ≠ 0 ∧ s.laneWork p then (0x0A, 1)
    else if st = 0 ∨ st = 1 ∨ st = 7 then (0x09, 0)
    else (0, 0)

/-- RX_CHECKER (R175): both counts and CHK_LOCK are cleared. -/
def State.checker (s : State) (l v : Nat) : State :=
  (((s.setObj (O.RX_CHECKER l) v).setObj (O.CHK_LOCK l) 0).setObj (O.CHK_ERRORS l) 0).setObj (O.CHK_BITS l) 0

/-- The checker locks after 64 error-free symbols in a row of its pattern, with RX_INVERT undone (R155, R175). -/
def State.chkGain (s : State) (l : Nat) (levels : List Nat) : State :=
  if s.obj (O.RX_CHECKER l) = 0 ∨ !checkerClean (s.obj (O.RX_CHECKER l)) (s.lane l).rxInverted levels then s else s.setObj (O.CHK_LOCK l) 1

/-- The checker reports the bits compared and those in error since its last report, which count while it is locked; it drops lock when 1,024 errors lie within
65,536 bits (R175; assumption 13). -/
def State.chkLoss (s : State) (l bits errs within : Nat) : State :=
  if !s.flag (O.CHK_LOCK l) then s
  else
    let s1 := (s.add (O.CHK_BITS l) bits).add (O.CHK_ERRORS l) errs
    if 1024 ≤ within ∧ within ≤ 65536 then s1.setObj (O.CHK_LOCK l) 0 else s1

/-- LANE_REST is written (R178, R179). -/
def State.laneRest (s : State) (l : Nat) (rest : Bool) : State :=
  let s1 := s.setObj (O.LANE_REST l) (b2n rest)
  if rest then s1.restEnter l else s1.restExit l

/-- The conflict of LANE_REST = true (R178, R597): the lane's port must have its MAC disabled; interlock row 3. -/
def State.restConflict (s : State) (l : Nat) : Nat × Nat :=
  match s.portOf l with
  | none => (0x09, 0)
  | some p =>
    if s.obj (O.LOOP p) ≠ 0 ∨ s.obj (O.TX_PATTERN l) ≠ 0 then (0x0A, 3)
    else if s.flag (O.MAC_ENABLE p) then (0x09, 0)
    else (0, 0)

/-- Calibration ends on a lane, which says so to its partner once it trains (R179, R190). -/
def State.laneCalDone (s : State) (l : Nat) : State := (s.calDone l).sayTrain l

/-- The third PLL timeout faults the lane; a widen request that waited for it is declined (R180, R217). -/
def State.lanePllTimeout (s : State) (l : Nat) : State :=
  let s1 := s.pllTimeout l
  match s1.portOf l with
  | some p => s1.shedOwedCheck p
  | none => s1

/-- A lane supply stands at `mv` for `ns`: below 92 % of its nominal for 1 µs, VDDA_HV 1,200 mV or VDDA_LANE 900 mV, it puts every lane of a port that is not off in
FAULT (R654, R657). -/
def State.supplyDip (s : State) (hv : Bool) (mv ns : Nat) : State :=
  if (if hv then 1200 else 900) * 92 ≤ mv * 100 ∨ ns < 1000 then s
  else
  let lanes := (List.range s.variant.ports).filter (fun l => (s.portOf l).isSome)
  let s1 := s.each lanes (fun l a => a.laneFault l 3)
  s1.each (List.range s.variant.ports) (fun p a => if a.link p = 6 then a.linkDown p else a)

/-- The PCS loses alignment-marker or codeword lock, or synchronisation, on a lane of an Ethernet or SGMII port (R185). -/
def State.pcsLost (s : State) (p : Nat) : State := if s.link p = 6 ∧ !s.isSpan p ∧ !(s.port p).relock then s.linkDown p else s

/-- LPI: the port asks for it when its queues have been empty and nothing sent for EEE_IDLE (R249). -/
def State.lpiEntry (s : State) (p : Nat) (busy : Bool) : State :=
  let k := s.eeeKind p
  if k = 0 ∨ busy ∨ (s.port p).lpi ∨ !s.passed (s.port p).idleFrom (s.obj (O.EEE_IDLE p) * usU) then s
  else
    let s1 := (s.pcnt p 24 1).modPort p (fun x => { x with lpi := true, lpiKind := k, lpiWake := none, lpiFrom := s.now })
    if k = 2 then s1.setLanes p 5 else s1

/-- LPI is left when a frame is admitted or a pause frame is due; the frame waits EEE_TW_TX (R249). -/
def State.lpiLeave (s : State) (p : Nat) : State :=
  if !(s.port p).lpi ∨ (s.port p).lpiWake.isSome then s
  else s.modPort p (fun x => { x with lpiWake := some (s.now + s.eeeTw p * nsU) })

/-- A port that may no longer use LPI leaves it (R248): a hatch list, a launch queue or lane shedding has come into force. -/
def State.eeeCheck (s : State) (p : Nat) : State := if s.eeeKind p = 0 then s.lpiLeave p else s

/-- The wake time is over (R249); TX_LPI_US takes the whole microseconds of L spent (R527). -/
def State.lpiWakeDone (s : State) (p : Nat) : State :=
  match (s.port p).lpiWake with
  | none => s
  | some i =>
    if s.now < i then s
    else
      ((s.accountLpi p).setLanes p 4).modPort p (fun x => { x with lpi := false, lpiWake := none, idleFrom := s.now })

end Sys2Proof.Machine
end

