-- ==== Sys2Proof/Machine/Basin.lean ====
section
/-! DEFINITION. The Basin (R337 to R356): admission profiles, admission of a copy to its queue, completion of a frame in the Basin, samples, and
the queue statistics record. -/

namespace Sys2Proof.Machine

/-- A tile is in service: TILE_STATE reads RUN, and it is not stopping (R146, R561). -/
def State.runs (s : State) (t : Nat) : Bool := s.obj (O.TILE_STATE t) == 1 && s.obj (O.TILE_PSTEP t) == 0

/-- The steps of a lifecycle change have begun (R607). -/
def State.lcRuns (s : State) : Bool :=
  match s.lc with
  | some c => c.begun
  | none => false

/-- A tile's control block serves: the tile is in service or isolated (R590), stops with the whole package (R572, R607), or only T0's datapath restarts
(R646). -/
def State.up (s : State) (t : Nat) : Bool :=
  s.runs t || s.obj (O.TILE_STATE t) == 4 || (s.obj (O.TILE_STATE t) == 1 && (s.sleepEntry || s.lcRuns)) ||
    (t == 0 && s.obj (O.TILE_STATE 0) == 0 && (s.tile 0).coming == .recover)

/-- A tile's profile of a destination (R344). -/
def State.profileOf (s : State) (d : Dst) : Nat :=
  let i := match d with
    | .port p q => octet (s.obj (O.ADMIT_PROFILE p)) q
    | .afi t ch => octet (s.obj (O.AFI_PROFILE t)) ch
    | .ring t _ => s.obj (O.RING_PROFILE t)
    | .recirc => 0
  s.obj (O.ADMIT_PROFILE_REC d.tile (i % 32))

/-- MIN_CELLS of a profile; receive rings have none (R344). -/
def minCells (prof : Nat) (d : Dst) : Nat :=
  match d with
  | .ring _ _ => 0
  | _ => octets prof 0 4

/-- A frame is lossless (R345). -/
def State.lossless (s : State) (f : Frame) : Bool :=
  match f.src with
  | .port p => s.obj (O.FC_MODE p) == 2 && bit (s.obj (O.PFC_PRIOS p)) f.prio || s.obj (O.FC_MODE p) == 1 && bit (s.obj (O.FC_DIR p)) 1
  | _ => false

/-- What an admission test looks at (R346): the queue's depth and shared cells, its profile, the pools' cells used and sizes. -/
structure Test where
  depth  : Nat
  shared : Nat
  minC   : Nat
  prof   : Nat
  minUsed : Nat
  minPool : Nat
  sharedUsed : Nat
  sharedSize : Int
  headUsed : Nat
  headPool : Nat
deriving DecidableEq, Repr

/-- The limit on a queue's shared cells for a colour (R346). -/
def Test.limit (x : Test) (colour : Nat) : Int :=
  let a := octet x.prof 0x10
  let m : Int := octets x.prof (4 + 4 * colour) 4
  if a = 0 then m else min m (tdiv (a * (x.sharedSize - x.sharedUsed)) 16)

/-- The admission of a frame (R346): to the minimum (0), shared (1) or headroom (2) pool, or its refusal. -/
def Test.poolFor (x : Test) (lossless : Bool) (colour : Nat) : Option Nat :=
  if x.depth < x.minC ∧ x.minUsed < x.minPool then some 0
  else if lossless then
    if x.sharedUsed < x.sharedSize then some 1 else if x.headUsed < x.headPool then some 2 else none
  else if x.shared < x.limit colour ∧ x.sharedUsed < x.sharedSize then some 1 else none

/-- What the test of a destination sees now. -/
def State.test (s : State) (d : Dst) : Test :=
  let t := d.tile
  let q := s.qstat d.qkey
  ⟨q.depth, q.shared, minCells (s.profileOf d) d, s.profileOf d, s.obj (O.MIN_USED t), s.obj (O.MIN_POOL t), s.obj (O.SHARED_USED t),
    s.sharedOf t, s.obj (O.HEADROOM_USED t), s.obj (O.HEADROOM_POOL t)⟩

/-- A copy that is refused admission is counted and gone (R346, R348, R527, R529). -/
def State.refuse (s : State) (fid h : Nat) (c : Copy) (lossless : Bool) : State :=
  let s1 := s.modQstat c.dst.qkey (fun x =>
    if lossless then { x with headroom := x.headroom + 1 } else { x with drop := bumpAt x.drop c.colour })
  let s2 := match c.dst with
    | .port p q => s1.pcnt p (67 + 4 * q) 1
    | _ => s1
  let s3 := if c.kind = 2 then s2.bump (O.MIRROR_DROP c.dst.tile) else s2
  (s3.evc c.dst.tile 5 c.dst.qnum 1).lose fid h 4

/-- A frame found no free cell: every copy of it is ended, and the tile counts an integrity fault (R343). -/
def State.skidTrunc (s : State) (fid t : Nat) : State :=
  ((((s.bump (O.SKID_TRUNC t)).raise t 0x15 0 0).integrityFault t).endFrame fid)

/-- Flits wait on a receive channel. -/
def State.afiWaits (s : State) (t ch : Nat) : Bool :=
  !(tget [] s.afiQueues (2 * t + ch)).isEmpty || (s.afi t ch).ctx.any (fun e => e.2.isSome)

/-- A frame joins an AFI host queue; flits that wait on an idle channel begin to wait now (R104). -/
def State.joinAfi (s : State) (t ch fid h : Nat) : State :=
  let s1 := if s.afiWaits t ch then s else s.modAfi t ch (fun a => { a with noCredit := s.now, stalled := false })
  { s1 with afiQueues := tmod [] s1.afiQueues (2 * t + ch) (· ++ [(fid, h)]) }

/-- An admitted copy takes its place in its queue (R358). -/
def State.seat (s : State) (fid h : Nat) (d : Dst) : State :=
  let s1 := s.modCopy fid h (fun c => { c with place := .queued })
  match d with
  | .port p q => (s1.enqueue p q fid h).lpiLeave p
  | .afi t ch => s1.joinAfi t ch fid h
  | .ring t r => { s1 with ringQueues := tmod [] s1.ringQueues (2048 * t + r) (· ++ [(fid, h)]) }
  | .recirc => s1

/-- The queue of a destination is empty. -/
def State.queueEmpty (s : State) (d : Dst) : Bool :=
  match d with
  | .port p q => (s.queue p q).frames.isEmpty
  | .afi t ch => (tget [] s.afiQueues (2 * t + ch)).isEmpty
  | .ring t r => (tget [] s.ringQueues (2048 * t + r)).isEmpty
  | .recirc => true

/-- An admitted copy: it joins its frame's cells in the Basin, or takes its first cell (R339, R346, R348). -/
def State.accept (s : State) (fid h : Nat) (c : Copy) (f : Frame) (pool : Nat) : State :=
  let t := c.dst.tile
  let x := s.hold fid t
  let s0 := if x.users.isEmpty then { s with holds := tput {} s.holds (8 * fid + t) { x with pool := pool } } else s
  match s0.growHold fid t (max 1 x.banks.length) with
  | none => s.skidTrunc fid t
  | some s1 =>
    let s2 := { s1 with holds := tmod {} s1.holds (8 * fid + t) (fun y => { y with users := y.users ++ [h] }) }
    let s3 := s2.modQstat c.dst.qkey (fun y => { y with admitted := bumpAt y.admitted c.colour })
    let whole := f.lastSeg && Nat.ble (c.need f) (s1.hold fid t).banks.length
    let s4 := (s3.modCopy fid h (fun y => { y with
      pool := pool, cells := 0, admitAt := s.now, complete := whole, alone := s.queueEmpty c.dst })).countCells fid t
    (if whole then s4.passAll fid h else s4).seat fid h c.dst

/-- Whether a destination exists and takes frames. -/
def State.open (s : State) (d : Dst) : Bool :=
  match d with
  | .port p _ => s.portUp p
  | _ => true

/-- A copy stands at its egress tile: it was made there, or the col link it is on leads there (R36). -/
def atEgress (c : Copy) (f : Frame) : Bool :=
  match c.place with
  | .arrived => c.dst != .recirc && f.src.tile == c.dst.tile
  | .link u k => neighbour u k == c.dst.tile
  | _ => false

/-- No copy of an earlier frame of the same feed, bound for the same queue, stands where this copy stands (R23, R44). -/
def State.copyInTurn (s : State) (c : Copy) (f : Frame) : Bool :=
  s.copies.all (fun e => match e.2, s.frame (e.1 / 64) with
    | some d, some g => !(g.feed == f.feed && Nat.blt g.seq f.seq && d.dst == c.dst && d.place == c.place)
    | _, _ => true)

/-- A cell of a frame fails its CRC at a port, an AFI channel, a ring's engine or a col link of a tile: the failure is counted and reported, and every copy of the
frame is ended (R587). -/
def State.cellFails (s : State) (fid t cls src : Nat) : State := (s.cellCrcFail t cls src).endFrame fid

/-- A copy reaches the Basin of its egress tile (R36, R346); a Basin with no bank group on takes nothing (R557). -/
def State.basinAdmit (s0 : State) (fid h : Nat) : State :=
  match s0.both fid h with
  | none => s0
  | some (c, f) =>
    if !atEgress c f ∨ !s0.copyInTurn c f then s0
    else
      let s := if Nat.ble f.segments 1 then s0.passAll fid h else s0
      let ll := s.lossless f
      if !s.open c.dst then s.lose fid h 6
      else if field (s.obj (O.PD_ON c.dst.tile)) 46 39 = 0 then (s.bump (O.UNREACH_DROP c.dst.tile)).lose fid h 6
      else match (s.test c.dst).poolFor ll c.colour with
        | some pool => s.accept fid h c f pool
        | none => s.refuse fid h c ll

/-- The most cells a frame takes in a tile's Basin: what the longest of the copies that hold them there needs (R338, R348). -/
def State.mostCells (s : State) (fid t : Nat) : Nat :=
  (s.hold fid t).users.foldl (fun a h => match s.both fid h with
    | some (c, f) => max a (c.need f)
    | none => a) 0

/-- Cells of a frame that still arrives have been written to a tile's Basin, `n` so far (R342, R346, R348). -/
def State.cellsWritten (s : State) (fid t n : Nat) : State :=
  let m := min n (s.mostCells fid t)
  if m ≤ (s.hold fid t).banks.length then s
  else match s.growHold fid t m with
    | none => s.skidTrunc fid t
    | some s1 => s1.countCells fid t

/-- The cells written so far of the frames still arriving, as a command tells them: frame, tile and cells (R346). -/
def State.cellsNow (s : State) (l : List (Nat × Nat × Nat)) : State := l.foldl (fun a e => a.cellsWritten e.1 e.2.1 e.2.2) s

/-- The last segment of a copy is written to the Basin: the rest of its cells are taken, a provisional tag is corrected, a frame in
transmission is charged and held against MAX_FRAME, and a head frame is held against the open runs of its gate (R342, R367, R372, R236, R390). -/
def State.frameComplete (s : State) (fid h : Nat) : State :=
  match s.both fid h with
  | none => s
  | some (c, f) =>
    let t := c.dst.tile
    if !f.lastSeg ∨ c.complete ∨ !(s.hold fid t).users.contains h then s
    else
      match s.growHold fid t (max (c.need f) (s.hold fid t).banks.length) with
      | none => s.skidTrunc fid t
      | some s1 =>
        let s2 := ((s1.countCells fid t).modCopy fid h (fun y => { y with complete := true })).passAll fid h
        match c.dst with
        | .port p q => (((s2.correctTag p q fid h (c.len f)).chargeTx p).checkOversize p q)
        | _ => s2

/-! Group enables (R340, R341). -/

/-- The sum of MIN_CELLS over the queues that count (R344). -/
def State.minSum (s : State) (t : Nat) : Nat :=
  let ports := (portsOf t).filter s.portUp
  let sumQ := fun (p : Nat) => ((List.range 16).map (fun q => octets (s.profileOf (.port p q)) 0 4)).foldl (· + ·) 0
  (ports.map sumQ).foldl (· + ·) 0 + octets (s.profileOf (.afi t 0)) 0 4 + octets (s.profileOf (.afi t 1)) 0 4

/-- A bank group holds no cell any more (R340). -/
def State.groupEmpty (s : State) (t g : Nat) : State := if s.groupUse t g = 0 then s.setObjBit (O.GROUPS_EMPTY t) g true else s

/-! Samples (R351, R352). -/

/-- The depth bin (R352). -/
def depthBin (d : Nat) : Nat := if d = 0 then 0 else min 15 (Nat.log2 d + 1)

/-- The delay bin of a queue that is not empty (R352). -/
def delayBin (ns : Nat) : Nat := if ns < 128 then 1 else min 15 (Nat.log2 ns - 5)

/-- A 32-bit bin advanced by one; it saturates. -/
def satBin (t : Tbl Nat) (i : Nat) : Tbl Nat := tmod 0 t i (fun v => min (v + 1) (2 ^ 32 - 1))

/-- The frames of a queue, head first. -/
def State.framesOf (s : State) (d : Dst) : List (Nat × Nat) :=
  match d with
  | .port p q => (s.queue p q).frames
  | .afi t ch => tget [] s.afiQueues (2 * t + ch)
  | .ring t r => tget [] s.ringQueues (2048 * t + r)
  | .recirc => []

/-- One sample of a queue (R351, R352). -/
def State.sampleOf (s : State) (d : Dst) (x : QStat) : QStat :=
  let bin := match (s.framesOf d).head?.bind (fun x => s.copy x.1 x.2) with
    | some c => delayBin ((s.now - c.admitAt) / nsU)
    | none => 0
  { x with samples := x.samples + 1, depthHist := satBin x.depthHist (depthBin x.depth), delayHist := satBin x.delayHist bin }

/-- The queues of a tile that are sampled, by their numbers, rising (R351, R355). -/
def State.sampled (s : State) (t : Nat) : List Dst :=
  ((portsOf t).filter s.portUp).flatMap (fun p => (List.range 16).map (fun q => Dst.port p q)) ++
  [Dst.afi t 0, Dst.afi t 1] ++ (List.range 2048).map (fun r => Dst.ring t r)

/-- Queues of a tile are sampled (R351). -/
def State.takeSample (s : State) (t : Nat) (which : Nat → Bool) : State :=
  ((s.sampled t).filter (fun d => which d.qkey)).foldl (fun a d => a.modQstat d.qkey (s.sampleOf d)) s

/-- A sample instant of a tile in RUN (R351). -/
def State.queueSample (s : State) (t : Nat) : State :=
  if !s.runs t ∨ s.L % (s.obj (O.SAMPLE_INTERVAL t) * usU) ≠ 0 then s
  else (s.takeSample t (fun _ => true)).modTile t (fun x => { x with sampledAt := some s.now })

/-! The record (R354, R355). -/

/-- A queue's statistics set to 0: counts, histograms and maxima (R354); its occupancy stays. -/
def QStat.cleared (now : Nat) (x : QStat) : QStat := { depth := x.depth, shared := x.shared, clearedAt := some now }

/-- QSTAT_CLEAR (R354): a sample of the same instant is taken after the clear. -/
def State.qstatClear (s : State) (t v : Nat) : State :=
  let which := fun (key : Nat) => if v = 0xFFFF then key / 65536 == t else key == 65536 * t + v
  let s1 := (s.qstats.filter (fun e => which e.1)).foldl (fun a e => a.modQstat e.1 (QStat.cleared s.now)) s
  if (s.tile t).sampledAt = some s.now then s1.takeSample t which else s1

/-- The greatest depth reached (R353): the depth of now counts, but in the cycle of a clear (R354). -/
def QStat.greatest (now : Nat) (x : QStat) : Nat := if x.clearedAt = some now then x.depthMax else max x.depthMax x.depth

/-- QSTAT: the record of a queue (R355). -/
def QStat.record (now : Nat) (x : QStat) : Bytes :=
  let u64 := fun (l : List Nat) => l.flatMap (fun v => natLe v 8)
  let hist := fun (h : Tbl Nat) => (List.range 16).flatMap (fun i => natLe (tget 0 h i) 4)
  natLe x.depth 4 ++ natLe (x.greatest now) 4 ++ u64 x.admitted ++ u64 x.drop ++ u64 [x.headroom, x.samples] ++ hist x.depthHist ++ hist x.delayHist ++
  natLe x.delayMax 4 ++ natLe 0 4

/-- Refusals of Basin writes: `a` holds the values after the write or its group (R341, R344). -/
def basinConflict (a : State) (t key v : Nat) : Nat :=
  let prof := fun (i : Nat) => key == O.ADMIT_PROFILE_REC t i
  if (key = O.GROUPS_EN t ∨ key = O.MIN_POOL t ∨ key = O.HEADROOM_POOL t) ∧ a.sharedOf t < 0 then 0x09
  else if (List.range 32).any prof ∧ (octets v 4 4 < octets v 8 4 ∨ octets v 8 4 < octets v 0x0C 4) then 0x09
  else if ((List.range 32).any prof ∨ key = O.AFI_PROFILE t ∨ key = O.MIN_POOL t ∨ (portsOf t).any (fun p => key == O.ADMIT_PROFILE p)
      ∨ (portsOf t).any (fun p => key == O.PORT_MODE p)) ∧ a.obj (O.MIN_POOL t) < a.minSum t then 0x09
  else 0

end Sys2Proof.Machine
end

