-- ==== Sys2Proof/Machine/Events.lean ====
section
/-! DEFINITION. The event aggregator (R599 to R603), event records and messages (R90 to R96), and the frames of the field-bus node (R132 to R134). -/

namespace Sys2Proof.Machine

/-! Field-bus frames. -/

/-- The fields of a Zwiwa message (R134). -/
structure ZwMsg where
  auth   : Bool := false
  client : Nat := 0
  seq    : Nat := 0
  op     : Nat := 0
  sub    : Nat := 0
  idx    : Nat := 0
  last   : Bool := true
  frag   : Nat := 0
  result : Nat := 0
  data   : Bytes := []
  fresh  : Nat := 0

/-- Message bytes 0x00 to 0x33 (R134). -/
def ZwMsg.body (m : ZwMsg) : Bytes :=
  bytesOf [b2n m.auth * 128 + m.client % 128, m.seq, m.op, m.sub] ++ natLe m.idx 2 ++ bytesOf [b2n m.last * 128 + m.frag % 16, m.data.length, m.result, 0] ++
    padTo (m.data.take 38) 38 ++ natLe m.fresh 4

/-- The 64-byte message with its tag (R134). -/
def ZwMsg.bytes (m : ZwMsg) (tag : Bytes) : Bytes := m.body ++ padTo (tag.take 8) 8 ++ natLe 0 4

/-- The node's identity in force (R122, R132). -/
def State.node (s : State) : Nat := s.force O.ZW_NODE_ID

/-- The field-bus node sends and listens: T0's control block runs and ZW_ENABLE is set (R122, R635). -/
def State.zwOn (s : State) : Bool := s.up 0 && s.flag O.ZW_ENABLE && !s.asleep

/-- BUS_OFF_RECOVERY: the node is back on the bus; the bus-off it comes from is counted with it (R122, R131). -/
def State.busRecovered (s : State) : State := if s.zwOn then s.bump32 O.ZW_BUS_OFF else s

/-- A frame of the node without a session (R132). -/
def State.zwSend (s : State) (func : Nat) (m : ZwMsg) (tag : Bytes := []) : State :=
  if s.zwOn then s.emit (.zwiwa (func * 128 + s.node) (m.bytes tag)) else s

/-- Whether a fatal fault is present (R592, R638): a tile isolated, held after a supply fault or failed at its start, or a fatal lifecycle mismatch. -/
def State.fatalFault (s : State) : Bool :=
  s.lcFatal || s.tileList.any (fun t => s.obj (O.TILE_STATE t) == 4 || (s.tile t).supplyFault || (s.tile t).failed)

/-- LC_STATE[2:0] (R102, R584, R607, R636): not valid in reset, before T0 is in service after a reset, during a lifecycle change and in a fatal
mismatch. -/
def State.lcPins (s : State) : Nat :=
  if !s.pwrOk || !s.porstN || s.lcFatal || s.lcRuns || !(s.asleep || s.up 0) then 0 else s.obj O.LC_STATE

/-- TILE_READY (R146, R561, R607). -/
def State.tileReady (s : State) : Nat := ofBits (s.tileList.filter s.runs)

/-- The HEARTBEAT data (R132). The lifecycle code in byte 0 is the one the pins show, so 0 during a lifecycle change and in a fatal mismatch (DESIGN CHOICE,
assumption 80). -/
def State.heartbeatData (s : State) : Bytes := bytesOf [s.lcPins, s.tileReady, b2n s.fatalFault]

/-- A HEARTBEAT is due (R133): its data has changed, which a start or a wake of T0 always does, or its period has passed. -/
def State.heartbeatDue (s : State) : Bool :=
  s.hbLast != some s.heartbeatData || (s.obj O.ZW_HEARTBEAT != 0 && s.passed s.hbAt (s.obj O.ZW_HEARTBEAT * msU))

/-- HEARTBEAT. -/
def State.heartbeat (s : State) : State :=
  if !s.zwOn || !s.heartbeatDue then s
  else { s.zwSend 7 { data := s.heartbeatData } with hbLast := some s.heartbeatData, hbAt := s.now }

/-! Records. -/

/-- The phase of a record by its number: 1 on the first pass (R91). -/
def passPhase (n size : Nat) : Nat := if n / size % 2 = 0 then 1 else 0

/-- An event record (R91). -/
def State.record (s : State) (t : Nat) (e : AggEntry) : Bytes :=
  let n := s.obj (O.EVT_PRODUCER t)
  natLe (e.kind + t * 2 ^ 16 + e.sev * 2 ^ 28 + passPhase n (s.tile t).evt.size * 2 ^ 31) 4 ++ natLe (e.src % 2 ^ 24 + e.cls * 2 ^ 24) 4 ++
    natLe (min e.count (2 ^ 32 - 1)) 4 ++ natLe (n % 2 ^ 16 + b2n e.root * 2 ^ 17 + e.tag * 2 ^ 24) 4 ++ natLe e.first 8 ++ natLe e.last 8

/-- A closed entry goes out on the field bus: a FAULT frame for a fatal fault, and an EVENT frame from severity ZW_EVENT_MIN up (R132), always for
TILE_WAKE_FAULT (R567). -/
def State.busEvent (s : State) (t : Nat) (e : AggEntry) : State :=
  let m : ZwMsg := { data := s.record t e }
  let s1 := if e.sev = 3 then s.zwSend 1 m else s
  if s.obj O.ZW_EVENT_MIN ≤ e.sev ∨ e.kind = 0x02 then s1.zwSend 6 m else s1

/-- An interrupt message of a tile's event channel (R94). -/
def State.evtMessage (s : State) (t : Nat) : State :=
  let v := (s.tile t).evt
  (s.emit (.message t v.rid (s.obj (O.EVT_MSI_ADDR t)) (s.obj (O.EVT_MSI_DATA t)))).modTile t (fun x => { x with
    evt := { x.evt with holdoff := true, endAt := s.now + s.obj (O.EVT_HOLDOFF t) * usU, owed := false } })

/-- A record causes a message, now or when the hold-off ends (R94). -/
def State.evtNotify (s : State) (t : Nat) : State :=
  let v := (s.tile t).evt
  if v.holdoff ∧ s.now < v.endAt then s.modTile t (fun x => { x with evt := { x.evt with owed := true } }) else s.evtMessage t

/-- EVT_HOLDOFF_END (R94). -/
def State.evtHoldoffEnd (s : State) (t : Nat) : State :=
  let v := (s.tile t).evt
  if !v.holdoff ∨ s.now < v.endAt then s
  else if v.owed then s.evtMessage t
  else s.modTile t (fun x => { x with evt := { x.evt with holdoff := false } })

/-- The ring has a free slot (R93). -/
def State.ringRoom (s : State) (t : Nat) : Bool :=
  Nat.blt ((s.obj (O.EVT_PRODUCER t) + 2 ^ 32 - s.obj (O.EVT_CONSUMER t)) % 2 ^ 32) (s.tile t).evt.size

/-- A record is written: its body, then its header, and its message (R92, R94). -/
def State.writeEvent (s : State) (t : Nat) (e : AggEntry) : State :=
  let v := (s.tile t).evt
  let n := s.obj (O.EVT_PRODUCER t)
  let d := s.record t e
  let at' := v.base + 32 * (n % v.size)
  let s1 := (s.emit (.eventWrite t v.rid (at' + 4) (d.drop 4))).emit (.eventWrite t v.rid at' (d.take 4))
  (s1.setObj (O.EVT_PRODUCER t) ((n + 1) % 2 ^ 32)).evtNotify t

/-- The oldest closed entry of a tile, with those before and after it. -/
def oldestClosed : List AggEntry → Option (AggEntry × List AggEntry)
  | [] => none
  | e :: rest => if e.closed then some (e, rest) else (oldestClosed rest).map (fun r => (r.1, e :: r.2))

/-- EVT_RECORD_WRITE: the oldest closed entry is written once the ring has room (R93, R600). -/
def State.recordWrite (s : State) (t : Nat) : State :=
  match oldestClosed (s.tile t).agg with
  | none => s
  | some (e, rest) =>
    if s.flag (O.EVT_ENABLE t) ∧ s.ringRoom t then (s.writeEvent t e).modTile t (fun x => { x with agg := rest }) else s

/-- EVT_ENABLE is written false: the entries that waited for their records are released (R602). -/
def State.evtStop (s : State) (t : Nat) : State := s.modTile t (fun x => { x with agg := x.agg.filter (fun e => !e.closed) })

/-- EVT_ENABLE written true: the ring settings are adopted, and producer index, PHASE and SEQ begin again (R96). -/
def State.evtStart (s : State) (t : Nat) : State :=
  (s.setObj (O.EVT_PRODUCER t) 0).modTile t (fun x => { x with
    evt := { x.evt with base := s.obj (O.EVT_RING_BASE t), size := s.obj (O.EVT_RING_SIZE t), rid := s.obj (O.EVT_RID t) } })

/-! The aggregator. -/

/-- An entry has a report's key (R600). -/
def AggEntry.is (e : AggEntry) (kind cls src : Nat) : Bool := e.kind == kind && e.cls == cls && e.src == src

/-- The entry a report opens (R600, R612). -/
def State.entryOf (s : State) (t : Nat) (r : Report) (closed : Bool) : AggEntry :=
  ⟨r.kind, r.cls, r.src, r.sev, 1, r.ts, r.ts, r.tag, r.root, r.born, s.obj (O.AGG_WINDOW t) * usU, closed⟩

/-- A report takes an entry; one that finds all 256 in use is lost (R602). -/
def State.openEntry (s : State) (t : Nat) (r : Report) (closed : Bool) : State :=
  if 256 ≤ (s.tile t).agg.length then s.bump (O.EVT_RING_DROP t)
  else s.modTile t (fun x => { x with agg := x.agg ++ [s.entryOf t r closed] })

/-- A fatal report becomes a record at once (R601); without a free slot it waits as a closed entry (R93). -/
def State.fatalReport (s : State) (t : Nat) (r : Report) : State :=
  let e := s.entryOf t r true
  let s1 := s.busEvent t e
  if !s.flag (O.EVT_ENABLE t) then s1
  else if s.ringRoom t then s1.writeEvent t e else s1.openEntry t r true

/-- The open entry with a key closes: it goes out on the field bus, and waits for its record; while EVT_ENABLE is false it is released (R600, R602). -/
def State.closeEntry (s : State) (t : Nat) (e : AggEntry) : State :=
  (s.busEvent t e).modTile t (fun x => { x with
    agg := if s.flag (O.EVT_ENABLE t) then x.agg.map (fun y => if y = e then { y with closed := true } else y) else x.agg.filter (· != e) })

/-- The open entry of a key. -/
def State.openOf (s : State) (t kind cls src : Nat) : Option AggEntry := (s.tile t).agg.find? (fun e => !e.closed && e.is kind cls src)

/-- A report merges into an open entry. -/
def State.mergeReport (s : State) (t : Nat) (e : AggEntry) (r : Report) : State :=
  (s.bump (O.AGG_MERGED t)).modTile t (fun x => { x with
    agg := x.agg.map (fun y => if y = e then { y with count := y.count + 1, last := r.ts } else y) })

/-- A report is handled: suppressed, written at once when fatal, merged into an entry open at its instant, or given an entry of its own (R600 to R603). -/
def State.takeReport (s : State) (t : Nat) (r : Report) : State :=
  if r.suppressed then s.bump (O.AGG_SUPPRESSED t)
  else if r.sev = 3 then s.fatalReport t r
  else
    match s.openOf t r.kind r.cls r.src with
    | none => s.openEntry t r false
    | some e => if e.tag / 16 = r.tag / 16 ∧ r.born < e.openAt + e.window then s.mergeReport t e r else (s.closeEntry t e).openEntry t r false

/-- EVENT_REPORT: the oldest report of a tile is handled. -/
def State.eventReport (s : State) (t : Nat) : State :=
  match (s.tile t).reports with
  | [] => s
  | r :: rest => (s.modTile t (fun x => { x with reports := rest })).takeReport t r

/-- AGG_ENTRY_CLOSE: AGG_WINDOW has passed since the entry's FIRST (R600, R612). -/
def State.aggClose (s : State) (t kind cls src : Nat) : State :=
  match s.openOf t kind cls src with
  | some e => if s.passed e.openAt e.window then s.closeEntry t e else s
  | none => s

/-- ROOT_DISTRIBUTE: a root of tile `from'`, or its end, reaches another tile (R603). -/
def State.rootDistribute (s : State) (t from' kind cls src : Nat) (start : Bool) : State :=
  let mine := fun (r : Root) => r.tile == from' && r.kind == kind && r.cls == cls && r.src == src
  let there := (s.tile from').roots.find? mine
  match there with
  | some r =>
    if start then (if r.stopAt.isNone then s.addRoot t ⟨from', kind, cls, src, none⟩ else s)
    else if r.stopAt.isSome then s.endRoots t mine else s
  | none => if start then s else s.endRoots t mine

end Sys2Proof.Machine
end

