-- ==== Sys2Proof/Machine/Budget.lean ====
section
/-! DEFINITION. Activity budgets (R594 to R596): activities are 0 SCRUB, 1 COUNTER_SWEEP, 2 ETCH_COMMIT, 3 PS_CHECKPOINT, 4 DMA_SWEEP, 5 DICT_BULK;
resources 0 BASIN, 1 TABLE, 2 FABRIC. Work that one command carries through in several periods takes its units here: the instants of those periods are not
modelled, their waits are counted. -/

namespace Sys2Proof.Machine

/-- The budget of an activity on a resource in a period (R594, R613). -/
def State.budget (s : State) (t act res : Nat) : Nat := octets (s.force (O.BUDGET t act)) (2 * res) 2

/-- What is left of it in the period. -/
def State.budgetLeft (s : State) (t act res : Nat) : Nat := s.budget t act res - tget 0 (s.tile t).budgetUsed (4 * act + res)

/-- Budget is used. -/
def State.spend (s : State) (t act res n : Nat) : State :=
  s.modTile t (fun x => { x with budgetUsed := tmod 0 x.budgetUsed (4 * act + res) (· + n) })

/-- What an activity has used in the period is set. -/
def State.setUsed (s : State) (t act res n : Nat) : State :=
  s.modTile t (fun x => { x with budgetUsed := tput 0 x.budgetUsed (4 * act + res) n })

/-- A unit is ready that the budget left does not cover: the period counts once (R596). -/
def State.budgetWait (s : State) (t act : Nat) : State :=
  if tget false (s.tile t).waited act then s
  else (s.bump (O.BUDGET_WAIT t act)).modTile t (fun x => { x with waited := tput false x.waited act true })

/-- Further periods in which an activity waited. -/
def State.budgetWaits (s : State) (t act n : Nat) : State :=
  if n = 0 then s else (s.budgetWait t act).add (O.BUDGET_WAIT t act) (n - 1)

/-- `n` units of one FABRIC transfer each: what the period does not cover goes to the next periods (R594, R596). -/
def State.sweep (s : State) (t act n : Nat) : State :=
  let left := s.budgetLeft t act 2
  let full := s.budget t act 2
  if n ≤ left ∨ full = 0 then s.spend t act 2 n
  else
    let waits := ceilDiv (n - left) full
    (s.budgetWaits t act waits).setUsed t act 2 (n - left - (waits - 1) * full)

/-- Units of TABLE cycles and FABRIC transfers, in order: budget left of each in the last period, and the periods begun (R594). -/
def loadUnits (fullT fullF : Nat) : List (Nat × Nat) → Nat × Nat × Nat → Nat × Nat × Nat
  | [], x => x
  | (c, f) :: rest, (lt, lf, n) =>
    if c ≤ lt ∧ f ≤ lf then loadUnits fullT fullF rest (lt - c, lf - f, n) else loadUnits fullT fullF rest (fullT - c, fullF - f, n + 1)

/-- The units of an etch's loading on a tile (R594). -/
def State.loadBudget (s : State) (t : Nat) (units : List (Nat × Nat)) : State :=
  let fT := s.budget t 2 1
  let fF := s.budget t 2 2
  let r := loadUnits fT fF units (s.budgetLeft t 2 1, s.budgetLeft t 2 2, 0)
  ((s.budgetWaits t 2 r.2.2).setUsed t 2 1 (fT - r.1)).setUsed t 2 2 (fF - r.2.1)

/-- A period begins, once at a whole microsecond: budgets written since come into force, and nothing is used (R594, R613). -/
def State.budgetPeriod (s : State) (t : Nat) : State :=
  if !s.wholeUs ∨ (s.tile t).periodAt = s.now + 1 then s
  else
    let s1 := (s.each (List.range 6) (fun i a => a.adopt (O.BUDGET t i))).adopt (O.MAINT_SHARE t)
    s1.modTile t (fun x => { x with budgetUsed := [], waited := [], periodAt := s.now + 1 })

/-- Capacity per µs of a resource (R593). -/
def capacity (res : Nat) : Nat := if res = 0 then 14400 else if res = 1 then 1200 else 600

/-- Largest unit cost of an activity on a resource; 0 where it does not use it (R594). -/
def unitCost (act res : Nat) : Nat :=
  if act = 0 then (if res = 2 then 0 else 1) else if act = 2 then (if res = 1 then 128 else if res = 2 then 15 else 0) else if res = 2 then 1 else 0

/-- The refusal of a budget record (R595, R613): RESERVED_ENC, RANGE, or 0. -/
def budgetCheck (act v : Nat) : Nat :=
  let bad := fun (res : Nat) =>
    let b := octets v (2 * res) 2
    if unitCost act res = 0 then b != 0 else Nat.blt b (unitCost act res) && !(act == 0 && b == 0)
  if octets v 6 2 ≠ 0 then 0x06 else if bad 0 || bad 1 || bad 2 then 0x05 else 0

/-- The refusal of a MAINT_SHARE value (R593, R613). -/
def shareCheck (v : Nat) : Nat :=
  if octet v 3 ≠ 0 then 0x06 else if 25 < octet v 0 ∨ 100 < octet v 1 ∨ 50 < octet v 2 then 0x05 else 0

/-- The budgets of a tile exceed its maintenance share on some resource, judged on the values after the write or its group (R595). -/
def budgetConflict (a : State) (t : Nat) : Bool :=
  (List.range 3).any (fun res =>
    let sum := ((List.range 6).map (fun i => octets (a.obj (O.BUDGET t i)) (2 * res) 2)).foldl (· + ·) 0
    Nat.blt (octet (a.obj (O.MAINT_SHARE t)) res * capacity res) (sum * 100))

end Sys2Proof.Machine
end

