-- ==== Sys2Proof/Machine/Checksum.lean ====
section
/-! DEFINITION. Internet checksums over the headers of a parse: the fill-in for a host frame (R250), the codes of a receive check (R251), and the
upkeep of a UDP checksum when a PTP message changes (R252). -/

namespace Sys2Proof.Machine

/-- The sum of 16-bit words in network order; an odd last byte is the high byte of a word. -/
def wordsSum : Bytes → Nat
  | [] => 0
  | [a] => a.toNat * 256
  | a :: b :: t => a.toNat * 256 + b.toNat + wordsSum t

/-- One's complement folding to 16 bits. -/
def fold16 (n : Nat) : Nat := if n = 0 then 0 else (n - 1) % 65535 + 1

/-- The checksum of a sum. -/
def cksum (sum : Nat) : Nat := 65535 - fold16 sum

/-- A TCP or UDP checksum as sent: a UDP checksum of 0 is sent as all ones. -/
def cksumL4 (udp : Bool) (sum : Nat) : Nat := if udp && cksum sum == 0 then 0xFFFF else cksum sum

/-- A frame with a 16-bit field written; bytes past its end are not. -/
def put16 (fr : Bytes) (off v : Nat) : Bytes := (patch fr off (natBe v 2)).take fr.length

/-- The IPv4 or IPv6 header of a level. -/
def Walk.ip (w : Walk) (inner : Bool) : Option Hdr :=
  match w.hdr 4 inner with
  | some h => some h
  | none => w.hdr 5 inner

/-- The TCP or UDP header of a level. -/
def Walk.l4 (w : Walk) (inner : Bool) : Option Hdr :=
  match w.hdr 7 inner with
  | some h => some h
  | none => w.hdr 8 inner

/-- The end of an IP packet. -/
def ipEnd (fr : Bytes) (h : Hdr) : Nat := if h.node = 4 then h.off + beAt fr (h.off + 2) 2 else h.off + 40 + beAt fr (h.off + 4) 2

/-- An IPv6 fragment header stands among the headers. -/
def hasFrag6 (fr : Bytes) (inner : Bool) : List Hdr → Bool
  | a :: b :: t =>
    (b.node == 6 && b.inner == inner && (a.node == 5 && byteAt fr (a.off + 6) == 44 || a.node == 6 && byteAt fr a.off == 44)) ||
      hasFrag6 fr inner (b :: t)
  | _ => false

/-- The packet of a level is an IP fragment. -/
def Walk.fragment (w : Walk) (fr : Bytes) (inner : Bool) : Bool :=
  match w.ip inner with
  | some h => if h.node = 4 then beAt fr (h.off + 6) 2 % 16384 != 0 else hasFrag6 fr inner w.hdrs
  | none => false

/-- The sum an L4 checksum covers: pseudo-header and the bytes up to the IP length (R250). -/
def l4Sum (fr : Bytes) (ip l4 : Hdr) : Nat :=
  let len := ipEnd fr ip - l4.off
  let addr := if ip.node = 4 then slice fr (ip.off + 12) 8 else slice fr (ip.off + 8) 32
  wordsSum addr + (if l4.node = 7 then 17 else 6) + len / 65536 + len % 65536 + wordsSum (slice fr l4.off len)

/-- Where an L4 header holds its checksum. -/
def l4Field (l4 : Hdr) : Nat := l4.off + if l4.node = 7 then 6 else 16

/-- The IPv4 header checksum of a level filled in (R250). -/
def Walk.fillIp (w : Walk) (inner : Bool) (fr : Bytes) : Bytes :=
  match w.hdr 4 inner with
  | some h =>
    let z := put16 fr (h.off + 10) 0
    put16 z (h.off + 10) (cksum (wordsSum (slice z h.off h.len)))
  | none => fr

/-- The TCP or UDP checksum of a level filled in (R250): not for a fragment, nor for an outer UDP checksum over IPv4 supplied as 0. -/
def Walk.fillL4 (w : Walk) (inner : Bool) (fr : Bytes) : Bytes :=
  match w.ip inner, w.l4 inner with
  | some ip, some l4 =>
    if w.fragment fr inner || (!inner && ip.node == 4 && l4.node == 7 && beAt fr (l4Field l4) 2 == 0) then fr
    else
      let z := put16 fr (l4Field l4) 0
      put16 z (l4Field l4) (cksumL4 (l4.node == 7) (l4Sum z ip l4))
  | _, _ => fr

/-- The GRE checksum filled in where its C bit is set (R250). -/
def Walk.fillGre (w : Walk) (fr : Bytes) : Bytes :=
  match w.hdr 11 false, w.ip false with
  | some g, some ip =>
    if !bit (byteAt fr g.off) 7 then fr
    else
      let z := put16 fr (g.off + 4) 0
      put16 z (g.off + 4) (cksum (wordsSum (slice z g.off (ipEnd fr ip - g.off))))
  | _, _ => fr

/-- The checksums of a host frame filled in at the first tunnel level (R250), innermost first. -/
def Walk.fill (w : Walk) (fr : Bytes) : Bytes :=
  w.fillIp false (w.fillL4 false (w.fillGre (w.fillIp true (w.fillL4 true fr))))

/-- CSUM_OUTER or CSUM_INNER of a frame (R251): 0 not checked, 1 good, 2 bad IPv4 header, 3 bad L4 checksum. -/
def Walk.code (w : Walk) (outcome : Nat) (fr : Bytes) (inner : Bool) : Nat :=
  match w.ip inner with
  | none => 0
  | some ip =>
    if outcome ≠ 0 then 0
    else if ip.node = 4 ∧ cksum (wordsSum (slice fr ip.off ip.len)) ≠ 0 then 2
    else match w.l4 inner with
      | none => 0
      | some l4 =>
        if w.fragment fr inner || (ip.node == 4 && l4.node == 7 && beAt fr (l4Field l4) 2 == 0) then 0
        else if cksum (l4Sum fr ip l4) = 0 then 1 else 3

/-- A word after the data it covers changed from sum `a` to sum `b`, by the incremental method of RFC 1624 (R252). -/
def increment (ck a b : Nat) : Nat := cksum ((65535 - ck) + (65535 - fold16 a) + b)

/-- The PTP header of a frame: where it starts (R252, R467, R468). -/
def Walk.ptp (w : Walk) : Option Nat := (w.hdr 12 false).map (·.off)

/-- A changed PTP message with its UDP checksum kept valid, or none where that cannot be done (R252). -/
def Walk.keepUdp (w : Walk) (old new : Bytes) : Option Bytes :=
  match w.hdr 7 false, w.ptp with
  | some u, some x =>
    let len := beAt old (u.off + 4) 2
    let a := wordsSum (slice old u.off len)
    let b := wordsSum (slice new u.off len)
    let ck := beAt old (u.off + 6) 2
    let ck1 := increment ck a b
    let msg := beAt old (x + 2) 2
    let tail := x + msg
    if (w.hdr 4 false).isSome then
      if ck = 0 then some new else some (put16 new (u.off + 6) (if ck1 = 0 then 0xFFFF else ck1))
    else if len = 8 + msg + 2 ∧ tail + 2 ≤ old.length then
      let t := beAt old tail 2
      let swap := fun (n : Nat) => n % 256 * 256 + n / 256
      let odd := msg % 2 == 1
      let v := fold16 ((if odd then swap t else t) + fold16 a + (65535 - fold16 b))
      some (put16 new tail (if odd then swap v else v))
    else if u.off + 8 ≤ 128 then some (put16 new (u.off + 6) (if ck1 = 0 then 0xFFFF else ck1))
    else none
  | _, _ => some new

end Sys2Proof.Machine
end

