-- ==== Sys2Proof/Machine/Etch.lean ====
section
/-! DEFINITION. Versions of the rules (R298 to R320) and the tables they govern (R281 to R288): the objects, exact-match entries and ternary images of
a version slot, the etch from its opening to its switch, retirement, and the checks a staged write meets. -/

namespace Sys2Proof.Machine

/-! The content of a version slot. -/

/-- The value of an ETCH object in version slot `k`. -/
def State.etchVal (s : State) (k key : Nat) : Nat := tget (objDflt s.variant key) s.etchObjs (4 * key + k)

/-- The parser objects of a version slot. -/
def State.parserCfg (s : State) (k : Nat) : ParserCfg :=
  ⟨s.etchVal k O.TPID_EXTRA, s.etchVal k O.VXLAN_PORT, s.etchVal k O.GENEVE_PORT,
   (List.range 32).map (fun i => s.etchVal k (O.USER_TRANS i)), (List.range 16).map (fun i => s.etchVal k (O.USER_NODE i))⟩

/-- The CURRENT slot (R305). -/
def State.currentSlot (s : State) : Nat := s.obj O.CURRENT_SLOT

/-- Exact-match entries of a tile. -/
def State.emOf (s : State) (t : Nat) : List EmEntry := tget [] s.em t

/-- Exact-match entries of a tile replaced. -/
def State.setEm (s : State) (t : Nat) (l : List EmEntry) : State := { s with em := tput [] s.em t l }

/-- The entry that holds a key of a profile in a slot (R281). -/
def emFind (l : List EmEntry) (k profile : Nat) (key : Bytes) : Option EmEntry :=
  l.find? (fun e => e.profile == profile && e.slots.contains k && e.key == key)

/-- Places an entry takes: two for a key of 33 to 64 bytes (R281). -/
def EmEntry.places (e : EmEntry) : Nat := if e.key.length ≤ 32 then 1 else 2

/-- Places taken in a list of entries (R284). -/
def emUsed (l : List EmEntry) : Nat := (l.map EmEntry.places).foldl (· + ·) 0

/-- The number of a ternary rule among all rules of the package. -/
def tcNum (t pipe rule : Nat) : Nat := (2 * t + pipe) * 16384 + rule

/-- A ternary rule's image in a slot (R311). -/
def State.tcRule (s : State) (t pipe rule k : Nat) : Option TcRule := tget none s.tc (tcNum t pipe rule * 4 + k)

/-- EM_ENTRIES and TC_USED show the tables (R284, R296). -/
def State.showTables (s : State) (t : Nat) : State :=
  let used := fun (pipe : Nat) => (s.tc.filter (fun e => e.1 % 4 == s.currentSlot && e.1 / 4 / 16384 == 2 * t + pipe)).length
  ((s.setObj (O.EM_ENTRIES t) (emUsed (s.emOf t))).setObj (O.TC_USED_P0 t) (used 0)).setObj (O.TC_USED_P1 t) (used 1)

/-! Operation records (R282, R287). -/

/-- The tile whose table an object index names. -/
def emTile (idx : Nat) : Nat := (idx - 0x3100) % 8

/-- The key of an exact-match operation under a profile of key length `n` (R282). -/
def emKey (op : Bytes) (n : Nat) : Bytes := slice op 0x14 n

/-- Reserved bits of an action record (R289, R8). -/
def actionReserved (a : Nat) : Bool :=
  2 ≤ octet a 0 / 64 || octet a 1 / 16 % 4 != 0 || bit (octet a 4) 7 || octet a 5 != 0 || bit (octets a 6 2) 14 || octets a 0x0A 6 != 0

/-- A DST of a kind lies within the variant (R289): 0 PORT, 1 AFI, 2 RING, 3 RECIRC. -/
def dstOk (v : Variant) (kind dst : Nat) : Bool :=
  if kind = 0 then dst < v.ports else if kind = 1 then dst < 2 * v.tiles else if kind = 2 then dst < 2048 * v.tiles else dst == 0

/-- The refusal of an action record (R289): RESERVED_ENC, RANGE, or 0. -/
def actionCheck (v : Variant) (a : Nat) : Nat :=
  if actionReserved a then 0x06
  else if octet a 0 / 64 = 1 ∧ !dstOk v (octet a 1 / 64) (octets a 2 2) then 0x05 else 0

/-- The keys of staged operations that leave a new entry behind: the last operation on a key counts, and a DELETE leaves none (R283). -/
def emNew (len : Nat → Nat) : List Bytes → List (Nat × Bytes)
  | [] => []
  | op :: rest =>
    let x := (byteAt op 1, emKey op (len (byteAt op 1)))
    let l := emNew len rest
    if byteAt op 0 = 3 ∨ rest.any (fun y => (byteAt y 1, emKey y (len (byteAt y 1))) == x) then l else x :: l

/-- A table as it would stand after the exact-match operations staged for a tile (R283): the keys present, as profile and key. -/
def emAfter (present : List (Nat × Bytes)) (len : Nat → Nat) : List Bytes → List (Nat × Bytes)
  | [] => present
  | op :: rest =>
    let x := (byteAt op 1, emKey op (len (byteAt op 1)))
    emAfter (if byteAt op 0 = 3 then present.filter (· ≠ x) else if present.contains x then present else present ++ [x]) len rest

/-! The etch in progress. -/

/-- The value an ETCH object would have after the writes staged so far. -/
def State.stagedVal (s : State) (key : Nat) : Nat :=
  match s.etch with
  | some e => ((e.sets.find? (fun x => x.1 == key)).map (·.2)).getD (s.etchVal s.currentSlot key)
  | none => s.etchVal s.currentSlot key

/-- The key length of a profile as it stands in the etch (R283). -/
def State.stagedLen (s : State) (profile : Nat) : Nat := keyLen (s.stagedVal (O.KEY_PROFILE profile))

/-- The exact-match operations staged for a tile. -/
def State.stagedEm (s : State) (t : Nat) : List Bytes :=
  match s.etch with
  | some e => (e.ems.filter (fun x => x.1 == t)).map (·.2)
  | none => []

/-- The refusal of an exact-match operation by itself (R282, R283): reserved encodings, then ranges. -/
def State.emForm (s : State) (op : Bytes) : Nat :=
  let o := byteAt op 0
  let act := leAt op 4 16
  if leAt op 2 2 ≠ 0 ∨ o ≠ 3 ∧ actionReserved act then 0x06
  else if o = 0 ∨ 3 < o ∨ 15 < byteAt op 1 ∨ leNat (op.drop (0x14 + s.stagedLen (byteAt op 1))) ≠ 0 ∨ o ≠ 3 ∧ actionCheck s.variant act ≠ 0 then 0x05
  else 0

/-- Places that the table of a tile takes with the operations staged (R283, R284). -/
def State.emHeld (s : State) (t : Nat) : Nat :=
  emUsed (s.emOf t) + ((emNew s.stagedLen (s.stagedEm t)).map (fun x => if s.stagedLen x.1 ≤ 32 then 1 else 2)).foldl (· + ·) 0

/-- The conflict of an exact-match operation with the table as it would stand (R283), with the reason of EM_REFUSAL: 0, 1 DUPLICATE, 2 ABSENT, 3 FULL. A placement is
found while the table holds at most 943,718 entries and none past its capacity; between them the spec leaves it open (a free value). -/
def State.emCheck (s : State) (t : Nat) (op : Bytes) : Nat × Nat × State :=
  let o := byteAt op 0
  let prof := byteAt op 1
  let n := s.stagedLen prof
  let c := s.currentSlot
  let now := (s.emOf t).filter (fun e => e.slots.contains c)
  let after := emAfter (now.map (fun e => (e.profile, e.key))) s.stagedLen (s.stagedEm t)
  let key := emKey op n
  let here := after.contains (prof, key)
  let held := s.emHeld t
  if o = 1 ∧ here then (0x09, 1, s)
  else if o ≠ 1 ∧ !here then (0x09, 2, s)
  else if o = 1 ∧ 1048576 < held + (if n ≤ 32 then 1 else 2) then (0x09, 3, s)
  else if o = 1 ∧ 943718 < held then
    let r := s.draw 1
    if r.1 = 0 then (0x09, 3, r.2) else (0, 0, r.2)
  else (0, 0, s)

/-- The refusal of a ternary operation (R287). -/
def tcCheck (v : Variant) (op : Bytes) : Nat :=
  let o := byteAt op 0
  let act := leAt op 8 16
  if leAt op 5 3 ≠ 0 ∨ actionReserved act then 0x06
  else if o = 0 ∨ 2 < o ∨ byteAt op 1 = 0 ∨ 3 < byteAt op 1 ∨ 16383 < leAt op 2 2 then 0x05
  else if 15 < byteAt op 4 ∧ byteAt op 4 ≠ 0xFF ∨ actionCheck v act ≠ 0 then 0x05
  else 0

/-- A user node record's refusal (R266): a field that the record does not use is not judged, and so NEXT_KIND is not where NEXT_OFF names no field. -/
def nodeCheck (v : Nat) : Nat :=
  if 1 < octet v 0 ∨ octets v 0x0A 6 ≠ 0 then 0x06
  else if octet v 0 = 0 then 0
  else if octet v 3 = 0 ∧ 64 < octet v 1 ∨ octet v 6 ≠ 0xFF ∧ 2 < octet v 7 ∨ 2 < octet v 9 then 0x05
  else if octet v 3 ≠ 0 ∧ (!([1, 2, 4, 8].contains (octet v 4)) ∨ 63 < octet v 2) then 0x05
  else if octet v 6 ≠ 0xFF ∧ 63 < octet v 6 ∨ octet v 9 ≠ 0 ∧ 63 < octet v 8 then 0x05
  else 0

/-- A user transition record's refusal by itself (R265); beyond its reserved bits a record with ENABLE 0 is not judged (R266). -/
def transCheck (v : Nat) : Nat :=
  let t := octet v 4
  if octet v 1 ≠ 0 ∨ 1 < octet v 5 ∨ octets v 6 2 ≠ 0 then 0x06
  else if octet v 5 = 0 then 0
  else if 3 < octet v 0 ∨ !(1 ≤ t ∧ t ≤ 12 ∨ 0x40 ≤ t ∧ t ≤ 0x4F) then 0x05
  else 0

/-- A key profile's refusal by itself (R278). -/
def profileCheck (v : Nat) : Nat :=
  let l := (List.range 16).map (octet v)
  let codes := l.takeWhile (· != 0)
  if codes.any (36 < ·) ∨ (l.drop codes.length).any (· != 0) then 0x06
  else if 64 < keyLen v then 0x05 else 0

/-- Mirror sessions: the pair of MIR_DST_KIND and MIR_DST lies within the variant (R297). -/
def mirrorOk (v : Variant) (kind dst : Nat) : Bool := kind == 0 || dstOk v (kind - 1) dst

/-- The key of a key profile, a user transition, a user node. -/
def isProfileKey (key : Nat) : Bool := (List.range 16).any (fun i => key == O.KEY_PROFILE i)
/-- USER_TRANS_n. -/
def isTransKey (key : Nat) : Bool := (List.range 32).any (fun i => key == O.USER_TRANS i)
/-- USER_NODE_n. -/
def isNodeKey (key : Nat) : Bool := (List.range 16).any (fun i => key == O.USER_NODE i)

/-- Checks 7 and 8 of R113 of a value written to an ETCH object whose rule stands with it (R265, R266, R278, R279, R282, R283, R287); the key length of an
exact-match operation is that of its profile as it stands in the etch. -/
def State.etchForm (s : State) (key v : Nat) : Nat :=
  let t := emTile (keyIndex key)
  if key = O.EM_OP t then s.emForm (natLe v 84)
  else if key = O.TC_OP t then tcCheck s.variant (natLe v 120)
  else if isProfileKey key then profileCheck v
  else if key = O.KEY_SEL then (if (List.range 16).any (fun i => 15 < octet v i && octet v i != 0xFF) then 0x05 else 0)
  else if isTransKey key then transCheck v
  else if isNodeKey key then nodeCheck v
  else 0

/-- The conflict of a staged write of an ETCH object other than EM_OP and TC_OP (R266, R280, R283, R297); `a` holds the staged values with the write. -/
def State.etchObjCheck (s a : State) (key v : Nat) : Nat :=
  let tooLong := (List.range 8).any (fun c => let p := octet (a.stagedVal O.KEY_SEL) (2 * c + 1); p ≤ 15 && 48 < a.stagedLen p)
  if isProfileKey key then
    let i := keySub key - 0x20
    let named := match s.etch with | some e => e.ems.any (fun x => byteAt x.2 1 == i) | none => false
    if tooLong || named && s.stagedLen i != keyLen v then 0x09 else 0
  else if key = O.KEY_SEL then (if tooLong then 0x09 else 0)
  else if isTransKey key then
    if octet v 5 = 1 ∧ 0x40 ≤ octet v 4 ∧ octet (a.stagedVal (O.USER_NODE (octet v 4 - 0x40))) 0 % 2 = 0 then 0x09 else 0
  else if 0x3180 ≤ keyIndex key ∧ keyIndex key < 0x3190 ∧ keySub key ≤ 2 then
    let m := keyIndex key - 0x3180
    if mirrorOk s.variant (a.stagedVal (O.MIR_DST_KIND m)) (a.stagedVal (O.MIR_DST m)) then 0 else 0x09
  else 0

/-- ETCH_OWNER of a requester (R320). -/
def ownerCode : Requester → Nat
  | .mailbox t => t
  | .zwSession c => 256 + c % 256
  | .zwClient c => 256 + c % 256
  | .ibSession c => 512 + c % 256
  | .ibClient c => 512 + c % 256
  | .relay c => 512 + c % 256

/-- The etch is idle. -/
def State.etchIdle (s : State) : State := (({ s with etch := none }).setObj O.ETCH_STATE 0).setObj O.ETCH_OWNER 0xFFFF

/-- An etch opens for a requester (R299). -/
def State.etchOpen (s : State) (r : Requester) : State :=
  (({ s with etch := some { owner := r, lastAt := s.now } }).setObj O.ETCH_STATE 1).setObj O.ETCH_OWNER (ownerCode r)

/-- Clemal aborts the open etch by itself (R304). -/
def State.etchAbortSelf (s : State) : State := if s.obj O.ETCH_STATE = 1 then s.etchIdle.bump O.ETCH_ABORTS else s

/-- A checked write is added to what is staged; past the limits it ends in GROUP_FULL (R301). A set replaces an earlier set of its object. -/
def State.stage (s : State) (key : Nat) (data : Bytes) : Nat × State :=
  match s.etch with
  | none => (0, s)
  | some e =>
    let t := emTile (keyIndex key)
    let put := fun (x : Etch) => { s with etch := some { x with lastAt := s.now } }
    if key = O.EM_OP t then
      if 131072 ≤ e.ems.length then (0x0E, s) else (0, put { e with ems := e.ems ++ [(t, data)], order := e.order ++ [(t, true)] })
    else if key = O.TC_OP t then
      if 65536 ≤ e.tcs.length then (0x0E, s) else (0, put { e with tcs := e.tcs ++ [(t, data)], order := e.order ++ [(t, false)] })
    else
      let rest := e.sets.filter (fun x => x.1 != key)
      if 1024 ≤ rest.length then (0x0E, s) else (0, put { e with sets := rest ++ [(key, leNat data)] })

/-- A write to an ETCH object in an open etch: its own form, the etch's limits, its conflicts, then its staging (R113, R300, R301). -/
def State.stageChecked (s : State) (key : Nat) (data : Bytes) : Nat × State :=
  let t := emTile (keyIndex key)
  let form := s.etchForm key (leNat data)
  let x := s.stage key data
  if form ≠ 0 then (form, s)
  else if x.1 ≠ 0 then (x.1, s)
  else if key = O.EM_OP t then
    let c := s.emCheck t data
    if c.1 ≠ 0 then (c.1, c.2.2.setObj (O.EM_REFUSAL t) c.2.1) else (c.2.2.setObj (O.EM_REFUSAL t) 0).stage key data
  else
    let c := s.etchObjCheck x.2 key (leNat data)
    if c ≠ 0 then (c, s) else x

/-! Commit, loading and switch. -/

/-- Slot `k` becomes a copy of the CURRENT version, with the staged object values (R306, R308). -/
def State.copyVersion (s : State) (k : Nat) (sets : List (Nat × Nat)) : State :=
  let c := s.currentSlot
  let objs := (s.etchObjs.filter (fun e => e.1 % 4 == c)).foldl (fun a e => tins a (e.1 - c + k) e.2) s.etchObjs
  let objs2 := sets.foldl (fun a x => tput (objDflt s.variant x.1) a (4 * x.1 + k) x.2) objs
  let tc := (s.tc.filter (fun e => e.1 % 4 == c)).foldl (fun a e => tins a (e.1 - c + k) e.2) s.tc
  let bad := (s.tcBad.filter (fun e => e.1 % 4 == c)).foldl (fun a e => tins a (e.1 - c + k) e.2) (tdrop (fun i => i % 4 == k) s.tcBad)
  let em := s.em.map (fun e => (e.1, e.2.map (fun x => if x.slots.contains c then { x with slots := x.slots ++ [k] } else x)))
  { s with etchObjs := objs2, tc := tc, tcBad := bad, em := em }

/-- One exact-match operation loaded into slot `k` (R283, R284). -/
def emLoad (k : Nat) (len : Nat → Nat) (l : List EmEntry) (op : Bytes) : List EmEntry :=
  let prof := byteAt op 1
  let key := emKey op (len prof)
  let old := (l.map (fun e => if e.profile = prof ∧ e.key = key ∧ e.slots.contains k then { e with slots := e.slots.filter (· != k) } else e)).filter
    (fun e => !e.slots.isEmpty)
  if byteAt op 0 = 3 then old else old ++ [⟨prof, key, leAt op 4 16, [k], false⟩]

/-- One ternary operation loaded into slot `k` on the pipes it names (R287). -/
def State.tcLoad (s : State) (k t : Nat) (op : Bytes) : State :=
  let rule := leAt op 2 2
  let img : Option TcRule := if byteAt op 0 = 2 then none else some ⟨byteAt op 4, leAt op 8 16, slice op 0x18 48, slice op 0x48 48⟩
  s.each (bitList 2 (byteAt op 1)) (fun pipe a =>
    { a with tc := tput none a.tc (tcNum t pipe rule * 4 + k) img, tcBad := tput false a.tcBad (tcNum t pipe rule * 4 + k) false })

/-- The switch instant is fixed once no tile is loading (R309). -/
def State.loaded (s : State) : State :=
  match s.etch with
  | some e =>
    if s.obj O.ETCH_STATE = 2 ∧ e.left = [] ∧ e.switchAt = none then
      { s with etch := some { e with switchAt := some (ceilDiv (s.L + 10 * usU) usU * usU) } }
    else s
  | none => s

/-- SLOT_STATE of a slot. -/
def State.slotState (s : State) (k : Nat) : Nat := s.obj (O.SLOT_STATE k)

/-- The slot states as the pipes report them: the CURRENT slot, every other used slot DRAINING (R584). -/
def State.rebuildSlot (s : State) (k : Nat) : State :=
  if s.pairOk (.slot k) then s
  else
    let a := if k = s.currentSlot then s.setObj (O.SLOT_STATE k) 2
      else { (s.setObj (O.SLOT_STATE k) 3) with drainAt := if s.slotState k = 3 then s.drainAt else tput (0, false) s.drainAt k (s.now, false) }
    (a.restorePair (.slot k)).mismatch 0 1

/-- The SLOT_STATE pairs are checked (R584). -/
def State.checkSlots (s : State) : State := s.each [0, 1, 2, 3] (fun k a => a.rebuildSlot k)

/-- A commit by the owner (R306): OK with nothing staged, ETCH_NO_SLOT without a FREE slot, or the lowest FREE slot starts loading. -/
def State.etchCommit (s0 : State) : Nat × State :=
  match s0.etch with
  | none => (0x09, s0)
  | some e =>
    if e.ems = [] ∧ e.tcs = [] ∧ e.sets = [] then (0, s0.etchIdle)
    else
      let s := s0.checkSlots
      match [0, 1, 2, 3].find? (fun k => s.slotState k == 0) with
      | none => (0x0B, s.bump O.ETCH_NOSLOT)
      | some k =>
        let run := s.tileList.filter (fun t => s.runs t && !e.missed.contains t)
        let s1 := ((s.setObj (O.SLOT_STATE k) 1).setObj (O.SLOT_GEN k) ((s.obj O.ETCH_GEN + 1) % 2 ^ 32)).setObj O.ETCH_STATE 2
        let s2 := (s1.setObj O.ETCH_TILE_MISS (ofBits (s.tileList.filter (fun t => !run.contains t)))).copyVersion k e.sets
        (0, ({ s2 with etch := some { e with slot := k, left := run, part := run } }).loaded)

/-- A tile loads its share of the RESERVED version (R308). -/
def State.etchLoad (s : State) (t : Nat) : State :=
  match s.etch with
  | some e =>
    if s.obj O.ETCH_STATE ≠ 2 ∨ !e.left.contains t then s
    else
      let len := fun (p : Nat) => keyLen (s.etchVal e.slot (O.KEY_PROFILE p))
      let ops := (e.ems.filter (fun x => x.1 == t)).map (·.2)
      let s1 := s.setEm t (ops.foldl (emLoad e.slot len) (s.emOf t))
      let s2 := ((e.tcs.filter (fun x => x.1 == t)).map (·.2)).foldl (fun a op => a.tcLoad e.slot t op) s1
      (({ s2 with etch := some { e with left := e.left.filter (· != t) } }).showTables t).loaded
  | none => s

/-- A tile leaves RUN after staging began and before its loading is complete: its operations are discarded and it misses the etch (R310). -/
def State.etchMiss (s : State) (t : Nat) : State :=
  match s.etch with
  | some e =>
    if s.obj O.ETCH_STATE = 1 then { s with etch := some { e with missed := if e.missed.contains t then e.missed else e.missed ++ [t] } }
    else if s.obj O.ETCH_STATE ≠ 2 ∨ !e.left.contains t then s
    else (({ s with etch := some { e with left := e.left.filter (· != t), part := e.part.filter (· != t) } }).setObjBit O.ETCH_TILE_MISS t true).loaded
  | none => s

/-- The hit counts of the rules that an etch wrote start again (R287). -/
def State.clearHits (s : State) (e : Etch) : State :=
  let wrote := e.tcs.filter (fun x => e.part.contains x.1 && byteAt x.2 0 == 1)
  wrote.foldl (fun a x => a.each (bitList 2 (byteAt x.2 1)) (fun pipe b =>
    { b with tcHits := tput 0 b.tcHits (tcNum x.1 pipe (leAt x.2 2 2)) 0 })) s

/-- The switch (R309): the RESERVED slot becomes CURRENT and the old one DRAINING. -/
def State.etchSwitch (s : State) : State :=
  match s.etch with
  | some e =>
    match e.switchAt with
    | some i =>
      if s.L < i then s
      else
        let c := s.currentSlot
        let s1 := ((s.setObj (O.SLOT_STATE c) 3).setObj (O.SLOT_STATE e.slot) 2).setObj O.CURRENT_SLOT e.slot
        let s2 := (s1.setObj O.ETCH_GEN (s.obj (O.SLOT_GEN e.slot))).setObj O.LAST_SWITCH (ts96 i)
        let s3 := ({ s2 with drainAt := tput (0, false) s2.drainAt c (s.now, false) }).clearHits e
        ((s3.etchIdle.each s.tileList (fun t a => a.showTables t)).raise 0 0x40 0 (1 + e.slot * 256))
    | none => s
  | none => s

/-- No frame is in flight under a slot on any tile (R316). -/
def State.slotQuiet (s : State) (k : Nat) : Bool := s.tileList.all (fun t => s.flying t k == 0)

/-- What is visible only in a slot is released (R316). -/
def State.releaseSlot (s : State) (k : Nat) : State :=
  let em := s.em.map (fun e => (e.1, (e.2.map (fun x => { x with slots := x.slots.filter (· != k) })).filter (fun x => !x.slots.isEmpty)))
  let s1 := { s with etchObjs := tdrop (fun i => i % 4 == k) s.etchObjs, tc := tdrop (fun i => i % 4 == k) s.tc, tcBad := tdrop (fun i => i % 4 == k) s.tcBad,
                     em := em.filter (fun e => !e.2.isEmpty), drainAt := tput (0, false) s.drainAt k (0, false) }
  s1.each s.tileList (fun t a => a.showTables t)

/-- The retirement of a slot (R316). -/
def State.slotRetire (s0 : State) (k : Nat) : State :=
  let s := s0.checkSlots
  if s.slotState k = 3 ∧ s.slotQuiet k then (s.setObj (O.SLOT_STATE k) 0).releaseSlot k else s

/-- ETCH_STUCK is raised once for a stay in DRAINING (R318). -/
def State.etchStuck (s : State) (k : Nat) : State :=
  let d := tget (0, false) s.drainAt k
  if s.slotState k = 3 ∧ !d.2 ∧ d.1 + s.obj O.ETCH_STUCK_LIMIT * msU < s.now then
    let tiles := ofBits (s.tileList.filter (fun t => s.flying t k != 0))
    ({ s with drainAt := tput (0, false) s.drainAt k (d.1, true) }).raise 0 0x41 0 (1 + k * 256 + tiles * 65536)
  else s

/-- ETCH_IDLE has passed without a staged write (R304). -/
def State.etchIdleExpiry (s : State) : State :=
  match s.etch with
  | some e => if s.obj O.ETCH_STATE = 1 ∧ s.passed e.lastAt (s.obj O.ETCH_IDLE * msU) then s.etchAbortSelf else s
  | none => s

/-- A write of an ETCH object by a requester (R300 to R303): staged by the owner, refused to others, or an etch of its own. -/
def State.etchWrite (s : State) (r : Requester) (key : Nat) (data : Bytes) : Nat × State :=
  if s.obj O.ETCH_STATE = 2 then (0x0A, s)
  else match s.etch with
    | some e => if e.owner = r then s.stageChecked key data else (0x0A, s)
    | none =>
      let x := (s.etchOpen r).stageChecked key data
      if x.1 ≠ 0 then (x.1, x.2.etchIdle)
      else
        let y := x.2.etchCommit
        if y.1 ≠ 0 then (y.1, y.2.etchIdle) else y

/-- ETCH_CTL (R299, R302, R304, R306). -/
def State.etchCtl (s : State) (r : Requester) (v : Nat) : Nat × State :=
  let own := match s.etch with | some e => e.owner == r | none => false
  let st := s.obj O.ETCH_STATE
  if v = 1 then if st = 0 then (0, s.etchOpen r) else (0x0A, s)
  else if !own ∨ st ≠ 1 then (0x09, s)
  else if v = 2 then s.etchCommit
  else (0, s.etchIdle)

/-! Probes (R285, R288). -/

/-- The refusal of an EM_PROBE write (R285). -/
def State.probeCheck (s : State) (data : Bytes) : Nat :=
  let n := keyLen (s.etchVal s.currentSlot (O.KEY_PROFILE (byteAt data 0)))
  if 15 < byteAt data 0 ∨ leAt data 1 3 ≠ 0 ∨ leNat (data.drop (4 + n)) ≠ 0 then 0x05 else 0

/-- The result of an EM_PROBE (R285). -/
def State.emProbe (s : State) (t : Nat) (data : Bytes) : Bytes :=
  let k := s.currentSlot
  let prof := byteAt data 0
  let n := keyLen (s.etchVal k (O.KEY_PROFILE prof))
  match emFind (s.emOf t) k prof (slice data 4 n) with
  | some e => padTo (natLe 1 1 ++ natLe k 1 ++ natLe 0 2 ++ natLe e.action 16) 68
  | none => padTo (natLe 0 1 ++ natLe k 1) 68

/-- The refusal of a TC_PROBE write (R288): reserved bytes; a pipe or rule that does not exist. -/
def tcProbeCheck (data : Bytes) : Nat :=
  if byteAt data 1 ≠ 0 ∨ leNat (data.drop 4) ≠ 0 then 0x06
  else if 1 < byteAt data 0 ∨ 16383 < leAt data 2 2 then 0x05 else 0

/-- The result of a TC_PROBE (R288), from the CURRENT slot at the read. -/
def State.tcProbe (s : State) (t : Nat) (data : Bytes) : Bytes :=
  let pipe := byteAt data 0
  let rule := leAt data 2 2
  let head := fun (valid : Nat) => natLe pipe 1 ++ natLe valid 1 ++ natLe rule 2
  match s.tcRule t pipe rule s.currentSlot with
  | some x =>
    padTo (head 1 ++ natLe x.profile 1 ++ natLe 0 3 ++ natLe (tget 0 s.tcHits (tcNum t pipe rule)) 8 ++ natLe x.action 16 ++ padTo x.value 48 ++
      padTo x.mask 48) 128
  | none => padTo (head 0) 128

end Sys2Proof.Machine
end

