-- ==== Sys2Proof/Machine/Classify.lean ====
section
/-! DEFINITION. A frame in its pipe (R26 to R34, R261 to R294, R312 to R315): its version, parse and lookup, the action resolved, copies and
mirrors, the processor limiters, recirculation, and the length check at its end. -/

namespace Sys2Proof.Machine

/-! Limiters (R291 to R293): 0 copy, 1 unmatched, 2 malformed. -/

/-- LIM_*_RATE, LIM_*_BURST and LIM_*_DROP of a tile. -/
def limRate (t i : Nat) : Nat := if i = 0 then O.LIM_COPY_RATE t else if i = 1 then O.LIM_UNMATCHED_RATE t else O.LIM_MALFORMED_RATE t
/-- The burst object of a limiter. -/
def limBurst (t i : Nat) : Nat := if i = 0 then O.LIM_COPY_BURST t else if i = 1 then O.LIM_UNMATCHED_BURST t else O.LIM_MALFORMED_BURST t
/-- The drop count of a limiter. -/
def limDrop (t i : Nat) : Nat := if i = 0 then O.LIM_COPY_DROP t else if i = 1 then O.LIM_UNMATCHED_DROP t else O.LIM_MALFORMED_DROP t

/-- The full credit of a limiter after reset, in millionths (R293). -/
def limFull (i : Nat) : Nat := if i = 0 then 1000000000 else if i = 1 then 500000000 else 100000000

/-- The credit of a limiter. -/
def State.limCredit (s : State) (t i : Nat) : Nat := tget (limFull i) (s.tile t).limCredit i

/-- The credit of a limiter set. -/
def State.setCredit (s : State) (t i v : Nat) : State := s.modTile t (fun x => { x with limCredit := tput (limFull i) x.limCredit i v })

/-- The limiters of a tile refill at a whole microsecond of L (R292, R293). -/
def State.limiterRefill (s0 : State) (t : Nat) : State :=
  s0.refillOnce t 1 (fun s => s.each [0, 1, 2] (fun i a =>
    (a.adopt (limRate t i)).setCredit t i (min (a.limCredit t i + a.obj (limRate t i)) (a.obj (limBurst t i) * 1000000))))

/-- A frame is offered to a limiter, after a refill that is due (R292, R293). -/
def State.offerLim (s0 : State) (t i : Nat) : Bool × State :=
  let s := s0.limiterRefill t
  let c := s.limCredit t i
  if 1000000 ≤ c then (true, s.setCredit t i (c - 1000000)) else (false, (s.bump (limDrop t i)).evc t 7 i 1)

/-- A write of a limiter's burst caps its credit at once (R293). -/
def State.capCredit (s : State) (t i : Nat) : State := s.setCredit t i (min (s.limCredit t i) (s.obj (limBurst t i) * 1000000))

/-! Destinations. -/

/-- A destination as DST of R289 spells it: 0 PORT, 1 AFI, 2 RING, 3 RECIRC. -/
def dstOf (kind dst queue : Nat) : Dst :=
  if kind = 0 then .port dst queue else if kind = 1 then .afi (dst / 2) (dst % 2) else if kind = 2 then .ring (dst / 2048) (dst % 2048) else .recirc

/-- A processor destination (R291, R296). -/
def procDst (v : Nat) : Dst := dstOf (v / 65536) (v % 65536) 0

/-- A copy is made of a frame; it stands at the frame's ingress tile. -/
def State.addCopy (s : State) (fid h : Nat) (c : Copy) : State := s.setCopy fid h (some c)

/-- A further copy, numbered in the order of creation. -/
def State.copyNext (s : State) (fid : Nat) (c : Copy) : State :=
  match s.frame fid with
  | some f => (s.addCopy fid f.nextH c).modFrame fid (fun x => { x with nextH := x.nextH + 1 })
  | none => s

/-- A copy for the processor through a limiter (R291). -/
def State.toProcessor (s : State) (fid t lim dst colour matchId : Nat) : State :=
  let r := s.offerLim t lim
  if r.1 then r.2.copyNext fid { dst := procDst dst, place := .arrived, kind := 1, colour := colour, matchId := matchId } else r.2

/-- The port is a span port (R615). -/
def State.spanDst (s : State) (d : Dst) : Bool :=
  match d with
  | .port p _ => (s.mode p).kind == 2
  | _ => false

/-- Span links a frame has crossed. -/
def Frame.hops (f : Frame) : Nat := match f.origin with | some o => o.hops + 1 | none => 0

/-- A mirror copy, as the frame's version holds the session (R294, R313). -/
def State.mirrorTo (s : State) (fid k m colour matchId : Nat) : State :=
  let kind := s.etchVal k (O.MIR_DST_KIND m)
  if kind = 0 then s
  else
    let d := dstOf (kind - 1) (s.etchVal k (O.MIR_DST m)) (s.etchVal k (O.MIR_QUEUE m))
    let far := match s.frame fid with
      | some f => Nat.ble 3 f.hops
      | none => false
    if s.spanDst d && far then s.bump O.STACK_HOP_DROP
    else (s.copyNext fid { dst := d, place := .arrived, kind := 2, colour := colour, trunc := s.etchVal k (O.MIR_TRUNC m), matchId := matchId }).bump
      (O.MIR_COPIES m)

/-! A frame enters its pipe. -/

/-- A frame is discarded in its pipe: it leaves its version's count, its pending charge is made, and it is gone once its copies are
(R315, R330). -/
def State.discardFrame (s : State) (fid : Nat) : State :=
  let s1 := ((s.chargeFrame fid).land fid).noteFate fid 0 6 0 0
  (s1.modFrame fid (fun f => { f with bad := true, resolved := true, recirc := false })).tidy fid

/-- The captures of a host-fed frame as its first segment enters the pipe: the tile's replicas, without correction (R25, R459). -/
def State.tileCapture (s : State) (t : Nat) : Capture :=
  ⟨[s.timeAt t 0, s.timeAt t 1, s.timeAt t 2, s.presented t], [s.tagOf t 0, s.tagOf t 1, s.tagOf t 2, s.tagP t]⟩

/-- INBAND_PORT and INBAND_MAC in force and TPID_EXTRA, which tell a management frame (R122, R141); an address of all zero is off. -/
def State.mgmt (s : State) : Nat × Nat × Nat :=
  (if s.force O.INBAND_MAC = 0 then 0xFF else s.force O.INBAND_PORT, s.force O.INBAND_MAC, (s.parserCfg s.currentSlot).tpid)

/-- The EtherType of a frame behind at most one VLAN tag, for a management frame (R141). -/
def mgmtType (tpid : Nat) (fr : Bytes) : Nat :=
  let ty := beAt fr 12 2
  if ty = 0x8100 ∨ ty = 0x88A8 ∨ ty = tpid then beAt fr 16 2 else ty

/-- A frame that its port consumes: 1 MAC control (R242), 2 shedding (R218), 3 in-band management (R141); 0 any other. -/
def takenKind (mgmt : Nat × Nat × Nat) (f : Frame) : Nat :=
  match f.src with
  | .port p =>
    if beAt f.data 12 2 = 0x8808 then 1
    else if beAt f.data 0 6 = 0x035356000001 ∧ beAt f.data 12 2 = 0x88B5 then 2
    else if mgmt.1 = p ∧ leAt f.data 0 6 = mgmt.2.1 ∧ mgmtType mgmt.2.2 f.data = 0x88B5 then 3
    else 0
  | _ => 0

/-- A pipe's datapath word in the present cycle (R28). -/
def PipeWord.roll (w : PipeWord) (cycle : Nat) : PipeWord :=
  if w.cycle = cycle then w
  else { cycle := cycle, last := w.last, before := if w.cycle + 1 = cycle then min 4 (w.port + w.middle) else 0 }

/-- The datapath word of pipe `k` of tile `t` now. -/
def State.word (s : State) (t k : Nat) : PipeWord := (tget {} s.words (2 * t + k)).roll s.pipeCycle

/-- The datapath word is put. -/
def State.setWord (s : State) (t k : Nat) (w : PipeWord) : State := { s with words := tput {} s.words (2 * t + k) w }

/-- Word positions that nothing has taken (R28). -/
def PipeWord.room (w : PipeWord) : Nat := 4 - (w.port + w.host + w.middle)

/-- The port slot of a frame's segments; none for a segment from the host feed (R31). -/
def Frame.slotNo (f : Frame) : Option Nat := if f.feed.1 then f.src.ingress.map (· % 18) else none

/-- The place of a port slot in the round robin that starts from the slot after the last one served (R31). -/
def PipeWord.rank (w : PipeWord) (slot : Nat) : Nat := (slot + 17 - w.last) % 18

/-- The port slots of a pipe with a segment that stands ready without a position (R31). -/
def State.slotsReady (s : State) (t k : Nat) : List Nat :=
  s.frames.filterMap (fun e => e.2.bind (fun g => if g.wants && !g.bad && g.src.tile == t && g.src.pipe == k then g.slotNo else none))

/-- A segment may take a position of the word (R28, R31): a port segment when no slot before its own in the round robin is ready; a host segment when no port
segment is ready. -/
def State.mayTake (s : State) (f : Frame) (w : PipeWord) : Bool :=
  Nat.blt 0 w.room &&
  (match f.slotNo with
    | some x => (s.slotsReady f.src.tile f.src.pipe).all (fun y => Nat.ble (w.rank x) (w.rank y))
    | none => (s.slotsReady f.src.tile f.src.pipe).isEmpty)

/-- A segment of a frame asks for a position in the present word, in which segments in the middle of port frames take `middle` positions (R28, R31): whether it has
one, and the state after. Without one it waits; a cycle in which a host segment waits counts once in HOST_FEED_WAIT (R45, R529). -/
def State.position (s : State) (fid : Nat) (f : Frame) (middle : Nat) : Bool × State :=
  let t := f.src.tile
  let k := f.src.pipe
  let w0 := s.word t k
  let w := { w0 with middle := max w0.middle (min middle 4) }
  if s.mayTake f w then
    (true, (s.setWord t k (match f.slotNo with
      | some x => { w with port := w.port + 1, last := x }
      | none => { w with host := w.host + 1 })).modFrame fid (fun x => { x with wants := false }))
  else
    let s1 := s.modFrame fid (fun x => { x with wants := true })
    if f.slotNo.isSome ∨ w.waited then (false, s1.setWord t k w)
    else (false, ((s1.setWord t k { w with waited := true }).bump (O.HOST_FEED_WAIT t)).evc t 4 k 1)

/-- A frame still waits for its lane (R23). -/
def State.needsLane (s : State) (g : Frame) : Bool := !g.laned && !g.bad && takenKind s.mgmt g == 0

/-- A frame may be assigned a lane now (R23, R30): its pipe is on, and the lane is one of the four and has taken no start in this cycle. -/
def State.laneFree (s : State) (f : Frame) (lane : Nat) : Bool :=
  s.needsLane f && bit (s.obj (O.PD_ON f.src.tile)) (36 + f.src.pipe) && s.inTurn f s.needsLane && Nat.blt lane 4 &&
    !(s.word f.src.tile f.src.pipe).starts.contains lane

/-- A frame with a position is assigned a lane: on pass 0 it takes the CURRENT slot of its pipe (R30, R312, R315, R584). -/
def State.takeLane (s : State) (fid lane : Nat) (f : Frame) : State :=
  let t := f.src.tile
  let p := f.src.pipe
  let w := s.word t p
  let s0 := (s.setWord t p { w with starts := w.starts ++ [lane] }).evc t 3 p 1
  if f.pass ≠ 0 then s0.modFrame fid (fun x => { x with laned := true, lane := some lane })
  else if !s.pairOk (.current t p) then
    (((s0.restorePair (.current t p)).mismatch t (8 + p)).bump (O.INTEGRITY_DROP t)).discardFrame fid
  else
    let k := s.currentSlot
    let s1 := s0.modFrame fid (fun x => { x with
      laned := true, lane := some lane, slot := k, flying := true, cap := if x.src.host then s.tileCapture t else x.cap })
    { s1 with inflight := tmod 0 s1.inflight (4 * t + k) (· + 1) }

/-- A frame's first segment stands ready at its pipe (R28 to R32): it takes a position and its lane, or waits. A switch that is due in the same cycle comes first
(R312). -/
def State.laneAssign (s0 : State) (fid lane middle : Nat) : State :=
  let s := s0.etchSwitch
  match s.frame fid with
  | none => s
  | some f =>
    if !s.laneFree f lane then s
    else
      let r := s.position fid f middle
      if r.1 then r.2.takeLane fid lane f else r.2

/-! Parse and lookup. -/

/-- The parse of a frame under its version (R262, R313). -/
def State.parseOf (s : State) (f : Frame) : Walk := (s.parserCfg f.slot).parse f.data

/-- IN_PORT, IN_HOST and TENANT of a frame (R277). A frame from the stack enters as its span port's. -/
def inFields (f : Frame) : Nat × Nat × Nat :=
  match f.src with
  | .port p => (p, 0, 0xFFFF)
  | .afi _ ch => (0xFF, ch, f.hm.fence)
  | .engine _ e _ => (0xFF, 0x80 + e % 8, f.hm.fence)
  | .stack p => (p, 0, 0xFFFF)

/-- The key fields of a frame on its pass (R276, R277). -/
def keyFields (f : Frame) (w : Walk) (l2 : Bool) : Tbl Nat :=
  let i := inFields f
  let base := if l2 then l2Fields w.fields else w.fields
  let put := fun (k v : Nat) (t : Tbl Nat) => tput 0 t k v
  put 1 i.1 (put 2 i.2.1 (put 3 i.2.2 (put 4 f.pass (put 5 f.prev (put 6 (if l2 then w.valid % 4 else w.valid % 2 ^ 14) (put 7 w.outcome base))))))

/-- The lowest ternary rule of a pipe that matches, with its action; a rule with an uncorrectable error matches with VERDICT DROP (R286, R586). -/
def State.tcLookup (s : State) (t pipe k profile : Nat) (key : Bytes) : Option (Nat × Nat) :=
  let n := 2 * t + pipe
  let kv := leNat (padTo key 48)
  let hit := (s.tc.filter (fun e => e.1 % 4 == k && e.1 / 4 / 16384 == n)).findSome? (fun e =>
    match e.2 with
    | some r => if (r.profile = 0xFF ∨ r.profile = profile) ∧ Nat.land kv (leNat r.mask) = Nat.land (leNat r.value) (leNat r.mask) then
        some (e.1 / 4 % 16384, r.action) else none
    | none => none)
  let bad := (s.tcBad.filter (fun e => e.2 && e.1 % 4 == k && e.1 / 4 / 16384 == n)).head?.map (fun e => (e.1 / 4 % 16384, 0))
  match hit, bad with
  | some a, some b => if b.1 ≤ a.1 then some b else some a
  | none, b => b
  | a, none => a

/-- What a lookup gives (R290): an action with the ternary rule that won, nothing, or a frame lost to a table error (R586). -/
inductive Found where
  | action (a : Nat) (rule : Option Nat)
  | unmatched
  | lost
deriving DecidableEq, Repr

/-- Bit OVERRIDE of an action (R289). -/
def actOverride (a : Nat) : Bool := bit a 3

/-- The two lookups of a frame and their resolution (R279, R290). -/
def State.lookup (s : State) (f : Frame) (w : Walk) (l2 : Bool) : Found :=
  let t := f.src.tile
  let flds := keyFields f w l2
  let cls := if l2 then 7 else pathClass w.valid
  let sel := s.etchVal f.slot O.KEY_SEL
  let pe := octet sel (2 * cls)
  let pt := octet sel (2 * cls + 1)
  let keyOf := fun (p : Nat) => buildKey (s.etchVal f.slot (O.KEY_PROFILE p)) flds
  let em := if 15 < pe then none else emFind (s.emOf t) f.slot pe (keyOf pe)
  let tc := if 15 < pt then none else s.tcLookup t f.src.pipe f.slot pt (keyOf pt)
  match em, tc with
  | some e, some r => if e.bad then .lost else if actOverride r.2 then .action r.2 (some r.1) else .action e.action none
  | some e, none => if e.bad then .lost else .action e.action none
  | none, some r => .action r.2 (some r.1)
  | none, none => .unmatched

/-- The priority of a frame without PRIO_SET (R290). -/
def State.defaultPrio (s : State) (f : Frame) (w : Walk) : Nat :=
  if bit w.valid 0 then tget 0 w.fields 0x0A / 8192 % 8 else s.etchVal f.slot O.DEFAULT_PRIO

/-- The original of a frame is given its destination; one that names no port, or that would cross a fourth span link, is discarded (R61,
R628). -/
def State.original (s : State) (fid : Nat) (c : Copy) : State :=
  match s.frame fid with
  | none => s
  | some f =>
    if !s.open c.dst then s.noteFate fid 0 6 0 0
    else if s.spanDst c.dst ∧ 3 ≤ f.hops then (s.bump O.STACK_HOP_DROP).noteFate fid 0 6 0 0
    else s.addCopy fid 0 c

/-- The original of a frame that an action sends: a frame sent to a span port under a MATCH_ID with bit 15 set is directed, and takes the
route toward its member (R627). -/
def State.actOriginal (s : State) (fid : Nat) (c : Copy) : State :=
  if s.spanDst c.dst && bit c.matchId 15 then
    let m := field c.matchId 13 12
    let r := s.stackRoute m
    if r = 0xFF then (s.bump O.STACK_UNREACH_DROP).noteFate fid 0 6 0 0
    else if r = 0xFE then s.original fid { c with dst := .port (c.matchId % 256) (field c.matchId 11 8) }
    else match c.dst with
      | .port _ q => s.original fid { c with dst := .port r q }
      | _ => s
  else s.original fid c

/-- An unmatched frame: to the processor through its limiter, or discarded (R291). -/
def State.unmatched (s : State) (fid t : Nat) : State :=
  let s1 := s.bump (O.UNMATCHED_FRAMES t)
  if s.obj (O.UNMATCHED_MODE t) = 1 then s1.noteFate fid 0 6 0 0
  else
    let r := s1.offerLim t 1
    let colour := ((s.frame fid).map (fun f => f.colour)).getD 0
    if r.1 then r.2.original fid { dst := procDst (s.obj (O.PROC_UNMATCHED_DST t)), place := .arrived, kind := 3, colour := colour } else r.2.noteFate fid 0 6 0 0

/-- The colour of a frame on its last pass under an action, with its charge (R328 to R332, R629). -/
def State.colourOf (s : State) (t a : Nat) (f : Frame) (w : Walk) : Nat × Option (Nat × Nat × Nat × Nat) × State :=
  if bit a 63 then
    let dei := if bit w.valid 0 then tget 0 w.fields 0x0A / 4096 % 2 else 0
    let dscp := if bit w.valid 3 || bit w.valid 4 then tget 0 w.fields 0x13 / 4 else 0
    s.meterHead t (field a 61 48) dei dscp (f.origin.map (fun _ => f.colour))
  else (f.colour, none, s)

/-- A matched frame: its action is carried out (R289, R290, R294, R314, R328, R332). -/
def State.applyAction (s : State) (fid : Nat) (f : Frame) (w : Walk) (a : Nat) (rule : Option Nat) : State :=
  let t := f.src.tile
  let fwd := octet a 0 / 64 == 1
  let recirc := fwd && octet a 1 / 64 == 3
  let again := recirc && f.pass != 3
  let matchId := octets a 8 2
  let m := if fwd && !again then s.colourOf t a f w else (f.colour, none, s)
  let colour := if fwd then m.1 else 0
  let prio := if bit a 2 then octet a 4 / 16 % 8 else s.defaultPrio f w
  let s1 := match rule with
    | some n => { m.2.2 with tcHits := tmod 0 m.2.2.tcHits (tcNum t f.src.pipe n) (fun v => (v + 1) % 2 ^ 64) }
    | none => m.2.2
  let s2 := s1.modFrame fid (fun x => { x with
    prio := prio, colour := colour, charge := m.2.1, tsSel := a % 4, matchId := matchId, looked := true, recirc := again })
  let s3 := if bit a 5 then s2.toProcessor fid t 0 (s.obj (O.PROC_COPY_DST t)) colour matchId else s2
  let s4 := if bit a 4 then s3.mirrorTo fid f.slot (octet a 1 % 16) colour matchId else s3
  if !fwd then s4.noteFate fid 0 6 0 0
  else if again then s4
  else if recirc then (s4.bump (O.RECIRC_LIMIT_DROP t)).noteFate fid 0 6 0 0
  else s4.actOriginal fid { dst := dstOf (octet a 1 / 64) (octets a 2 2) (octet a 4 % 16), place := .arrived, colour := colour, matchId := matchId }

/-- The lookup of a frame and what follows it. -/
def State.lookupAct (s : State) (fid : Nat) (f : Frame) (w : Walk) (l2 : Bool) : State :=
  match s.lookup f w l2 with
  | .action a rule => s.applyAction fid f w a rule
  | .unmatched => s.unmatched fid f.src.tile
  | .lost => s.noteFate fid 0 6 0 0

/-- The malformed action of an outcome in a version (R275). -/
def State.malformedAct (s : State) (k outcome : Nat) : Nat :=
  s.etchVal k (if outcome = 1 then O.ACT_DEPTH else if outcome = 2 then O.ACT_LENGTH else O.ACT_BADHDR)

/-- The copy of a malformed frame for the processor, in the colour of its original (R275, R291, R332). -/
def State.malformedCopy (s : State) (fid t : Nat) : State :=
  s.toProcessor fid t 2 (s.obj (O.PROC_MALFORMED_DST t)) (((s.frame fid).map (fun f => f.colour)).getD 0) 0

/-- What becomes of a frame at the end of its parse (R61, R261, R275, R290). -/
def State.resolveAct (s : State) (fid : Nat) (f : Frame) (w : Walk) : State :=
  let t := f.src.tile
  if f.hm.dstPort ≠ 0xFF then
    s.original fid { dst := .port f.hm.dstPort f.hm.queue, place := .arrived, colour := f.colour, matchId := f.matchId }
  else if w.outcome = 0 then s.lookupAct fid f w false
  else
    let a := s.malformedAct f.slot w.outcome
    let s1 := if a = 1 ∨ a = 3 then s.lookupAct fid f w true else s.noteFate fid 0 6 0 0
    if 2 ≤ a then s1.malformedCopy fid t else s1

/-- A frame in counter 0 was given its priority (R527). -/
def State.countPrio (s : State) (f : Frame) (prio : Nat) : State :=
  match f.src with
  | .port p => s.pcnt p (131 + 4 * prio) 1
  | _ => s

/-- Parse and lookup of a frame complete on its pass (R267 to R290, R315, R329). -/
def State.lookupResolve (s : State) (fid : Nat) : State :=
  match s.frame fid with
  | none => s
  | some f =>
    if !f.laned ∨ f.resolved ∨ f.bad ∨ !s.inTurn f (fun g => g.laned && !g.resolved && !g.bad) then s
    else
      let w0 := s.parseOf f
      let w := if f.lastSeg then { w0 with outcome := w0.final f.data.length } else w0
      let t := f.src.tile
      let s1 := s.modFrame fid (fun x => { x with
        resolved := true, lane := none, outcome := w.outcome, req := w.req, walk := w, prio := s.defaultPrio f w, tsSel := 0, matchId := 0, looked := false, recirc := false })
      let s2 := if f.lastSeg ∨ w.outcome ≠ 0 then s1.countParse t w.outcome else s1
      let s3 := s2.resolveAct fid f w
      let s4 := match s3.frame fid with
        | some g => if f.pass = 0 ∧ f.ended then s3.countPrio f g.prio else s3
        | none => s3
      let s5 := if f.lastSeg then s4.chargeFrame fid else s4
      (s5.landIfDone fid).tidy fid

/-! The end of a frame in its pipe. -/

/-- A late conflict (R273, R274): every copy is ended, and ACT_LENGTH may send one to the processor; a frame whose sender named its port gets no malformed action
(R261). -/
def State.lateConflict (s : State) (fid : Nat) (f : Frame) : State :=
  let t := f.src.tile
  let s1 := (s.countParse t 2).bump (O.LENGTH_LATE t)
  let s2 := (s1.copiesOf fid).foldl (fun a h => a.endCopy fid h) s1
  let s3 := if f.hm.dstPort = 0xFF ∧ 2 ≤ s.etchVal f.slot O.ACT_LENGTH then s2.malformedCopy fid t else s2
  s3.modFrame fid (fun x => { x with outcome := 2, recirc := false, resolved := true })

/-- A frame's last segment is in the pipe (R272, R315, R329). -/
def State.segmentsIn (s : State) (fid : Nat) (f : Frame) : State :=
  let s1 := s.modFrame fid (fun x => { x with lastSeg := true })
  if !f.resolved then s1
  else
    let s2 := if f.outcome ≠ 0 then s1
      else if f.data.length < f.req then s1.lateConflict fid f
      else s1.countParse f.src.tile 0
    ((s2.chargeFrame fid).landIfDone fid).tidy fid

/-- A frame's last segment reaches the pipe; one that is not its first takes a word position, or waits for one (R28, R29, R31). -/
def State.lastSegment (s : State) (fid middle : Nat) : State :=
  match s.frame fid with
  | none => s
  | some f =>
    if !f.laned ∨ f.lastSeg ∨ f.bad ∨ !f.ended then s
    else if f.segments ≤ 1 then s.segmentsIn fid f
    else
      let r := s.position fid f middle
      if r.1 then r.2.segmentsIn fid f else r.2

/-- A recirculated frame re-enters its pipe from the host feed, with PASS increased and PREV_MATCH set (R289, R314). -/
def State.reenter (s : State) (fid : Nat) : State :=
  match s.frame fid with
  | none => s
  | some f =>
    if !f.recirc ∨ !f.lastSeg ∨ f.bad then s
    else { (s.modFrame fid (fun x => { x with
      seq := s.arrivals, pass := x.pass + 1, prev := x.matchId, laned := false, resolved := false, lastSeg := false, recirc := false })) with
      arrivals := s.arrivals + 1 }

end Sys2Proof.Machine
end

