-- ==== Sys2Proof/Machine/Windows.lean ====
section
/-! DEFINITION. Counting windows (R536 to R539): the window a frame belongs to by its start in L, the record of a window, and a change of WIN_LEN. -/

namespace Sys2Proof.Machine

/-- A port's windows. -/
def State.wins (s : State) (p : Nat) : CntWins := tget {} s.windows p

/-- A port's windows changed. -/
def State.modWins (s : State) (p : Nat) (f : CntWins → CntWins) : State := { s with windows := tmod {} s.windows p f }

/-- The window that contains an instant of L: its start, its end, and whether a change of WIN_LEN cut it (R536, R539). -/
def bounds : List (Nat × Nat) → Nat → Nat × Nat × Bool
  | [], l => (l, l + 1, false)
  | [(b, w)], l => let n := max 1 w * usU; let st := max b (l / n * n); (st, l / n * n + n, false)
  | (b, w) :: (c, v) :: rest, l =>
    if c ≤ l then bounds ((c, v) :: rest) l
    else
      let n := max 1 w * usU
      let stop := l / n * n + n
      (max b (l / n * n), min stop c, Nat.blt c stop)

/-- A frame of length `n` that started at an instant of L is counted in its window (R537). -/
def State.winCount (s : State) (p l n : Nat) (rx : Bool) : State :=
  s.modWins p (fun x => { x with wins := tmod {} x.wins (bounds x.grids l).1 (fun w =>
    if rx then { w with rxFrames := w.rxFrames + 1, rxBytes := w.rxBytes + n } else { w with txFrames := w.txFrames + 1, txBytes := w.txBytes + n }) })

/-- A frame of the port that belongs to a window ending at `stop` has not ended. -/
def State.winBusy (s : State) (p stop : Nat) : Bool :=
  s.frames.any (fun e => match e.2 with
    | some f => f.src == .port p && !f.ended && Nat.blt (f.cap.vals.getD 2 0) stop
    | none => false) ||
  (match (tget {} s.burins p : Burin).tx with
   | some x => Nat.blt x.startL stop
   | none => false)

/-- The port was not ACTIVE during some part of a window (R539). -/
def State.winInactive (s : State) (p start stop : Nat) : Bool :=
  let x := s.port p
  let from1 := s.lStart + start
  !(x.activeAt ≤ from1 && (s.obj (O.LINK_STATE p) == 6 || Nat.ble (s.lStart + stop) x.exitAt))

/-- A window's record (R538). -/
def winRecord (start stop seq : Nat) (w : CntWin) (cut inactive : Bool) : Bytes :=
  natLe (ts64 start) 8 ++ natLe ((stop - start) / nsU) 4 ++ natLe seq 4 ++ natLe w.rxBytes 8 ++ natLe w.txBytes 8 ++ natLe w.rxFrames 4 ++
    natLe w.txFrames 4 ++ natLe (2 * b2n inactive + b2n cut) 4 ++ natLe 0 4

/-- The grids that hold from an instant on. -/
def dropGrid (stop : Nat) : List (Nat × Nat) → List (Nat × Nat)
  | g :: (c, v) :: rest => if c ≤ stop then (c, v) :: rest else g :: (c, v) :: rest
  | g => g

/-- WINDOW_PUBLISH: the oldest window that has ended, with every frame that belongs to it, is published (R538). -/
def State.windowPublish (s : State) (p : Nat) : State :=
  let x := s.wins p
  let b := bounds x.grids x.next
  let stop := b.2.1
  if s.L < stop ∨ s.winBusy p stop then s
  else
    let w := tget {} x.wins x.next
    let inactive := s.winInactive p x.next stop
    let r := winRecord x.next stop x.seq w b.2.2 inactive
    let hist := leNat (padTo (r ++ natLe (s.obj (O.WIN_HIST p)) 384) 384)
    let y : CntWins := { next := stop, grids := dropGrid stop x.grids, seq := (x.seq + 1) % 2 ^ 32, wins := tdel x.wins x.next }
    ((s.setObj (O.WIN_LAST p) (leNat r)).setObj (O.WIN_HIST p) hist).modWins p (fun _ => y)

/-- WIN_LEN is written: the new grid holds from its first boundary at or after now (R539). -/
def State.winLen (s : State) (p v : Nat) : State :=
  let n := max 1 v * usU
  (s.setObj (O.WIN_LEN p) v).modWins p (fun x => { x with
    grids := x.grids.filter (fun g => Nat.blt g.1 s.L || g.1 == 0) ++ [(ceilDiv s.L n * n, v)] })

end Sys2Proof.Machine
end

