-- ==== Sys2Proof/Machine/Tx.lean ====
section
/-! DEFINITION. The port slot's transmit side: the start check (R245, R405), what a frame's start does (timestamps, offloads, one-step and
transparent-clock corrections), the end of a frame, half duplex (R239, R240), pause generation (R246, R247) and LPI (R249). -/

namespace Sys2Proof.Machine

/-! Instants and lengths. -/

/-- A captured instant, to the nearest 1/64 ns (R453). -/
def toCapture (u : Nat) : Nat := (u + 512) / 1024 * 1024

/-- The transmit timestamp of a frame that starts now, of the domain a selector names, with its tag (R454, R460). -/
def State.txStamp (s : State) (p sel : Nat) : Nat × Nat :=
  let v := s.selected (8 + p) sel
  (wrapTime ((toCapture v.1 : Int) + psUnits (s.obj (O.TS_TX_CORR p))), v.2)

/-- The captures of a frame whose first bit arrives now, referred to the balls (R453, R454). -/
def State.rxCapture (s : State) (p : Nat) : Capture :=
  let c := psUnits (s.obj (O.TS_RX_CORR p))
  let at1 := fun (v : Nat) => wrapTime ((toCapture v : Int) - c)
  let r := 8 + p
  ⟨[at1 (s.timeAt r 0), at1 (s.timeAt r 1), at1 (s.timeAt r 2), at1 (s.presented r)], [s.tagOf r 0, s.tagOf r 1, s.tagOf r 2, s.tagP r]⟩

/-- The VLAN tags a frame carries, up to three (R235). -/
def countTags (tpid : Nat) (fr : Bytes) : Nat → Nat → Nat
  | 0, _ => 0
  | n + 1, off =>
    let ty := beAt fr off 2
    if off + 2 ≤ fr.length ∧ (ty = 0x8100 ∨ ty = 0x88A8 ∨ ty = tpid) then 1 + countTags tpid fr n (off + 4) else 0

/-- MAX_FRAME + 4t, with the tags of version slot `k` (R235, R236, R313). -/
def State.maxLen (s : State) (p k : Nat) (fr : Bytes) : Nat :=
  s.obj (O.MAX_FRAME p) + 4 * countTags (s.parserCfg k).tpid fr 3 12

/-- The size bin of a length (R527). -/
def sizeBin (l : Nat) : Nat :=
  if l ≤ 64 then 0 else if l ≤ 127 then 1 else if l ≤ 255 then 2 else if l ≤ 511 then 3 else if l ≤ 1023 then 4 else if l ≤ 1518 then 5 else 6

/-- The frame has a group destination address; it is the broadcast address. -/
def isGroup (fr : Bytes) : Bool := bit (byteAt fr 0) 0
/-- The broadcast address. -/
def isBroadcast (fr : Bytes) : Bool := beAt fr 0 6 == 2 ^ 48 - 1 && Nat.ble 6 fr.length

/-- Counters 2 to 7 and 40 to 46 take a frame of length `l` whose last byte went to the PCS, and so does the window of its start (R527, R536). -/
def State.countTx (s : State) (p l startL : Nat) (fr : Bytes) : State :=
  let s1 := (((s.pcnt p 2 1).pcnt p 3 l).pcnt p (40 + sizeBin l) 1).winCount p startL l false
  if isBroadcast fr then s1.pcnt p 7 1 else if isGroup fr then s1.pcnt p 6 1 else s1

/-- A frame padded to 60 bytes without FCS (R236). -/
def padFrame (fr : Bytes) : Bytes := if fr.length < 60 then padTo fr 60 else fr

/-! PTP messages. -/

/-- A PTP message type and domain at an offset, and whether its correctionField lies inside the frame. -/
def ptpType (fr : Bytes) (x : Nat) : Nat := byteAt fr x % 16

/-- An amount is added to correctionField; none where the UDP checksum cannot be kept (R252, R468). A sum beyond the range of an S64 is
`over`. -/
def addCorrection (w : Walk) (fr : Bytes) (x : Nat) (amount : Int) (past : Nat) : Option Bytes :=
  let sum := toS 64 (beAt fr (x + 8) 8) + amount
  let v := if sum < -(2 ^ 63) ∨ 2 ^ 63 ≤ sum then past else ofS 64 sum
  w.keepUdp fr (patch fr (x + 8) (natBe v 8))

/-- The message types that TC_MODE corrects (R468). -/
def State.tcType (s : State) (ty : Nat) : Bool := if s.obj O.TC_MODE = 1 then ty == 0 else Nat.ble ty 3

/-- A message that a transparent clock corrects: where its PTP header starts (R468). -/
def State.tcTarget (s : State) (f : Frame) (fr : Bytes) : Option Nat :=
  match f.walk.ptp with
  | some x => if bit (s.obj O.TC_DOMAINS) (byteAt fr (x + 4)) && s.tcType (ptpType fr x) then some x else none
  | none => none

/-- The residence of a frame in the presented time, or in L when the generations of its captures differ (R469). -/
def State.residence (s : State) (p : Nat) (f : Frame) : Int × Bool :=
  let tx := s.txStamp p 0
  let board := psUnits (s.objS 32 (O.BOARD_TX_PS p))
  let gen := fun (t : Nat) => t / 16 % 4
  if gen tx.2 = gen (f.cap.tags.getD 3 0) then ((tx.1 : Int) + board - ((f.cap.vals.getD 3 0 : Int) - f.boardRx), false)
  else (((s.txStamp p 3).1 : Int) + board - ((f.cap.vals.getD 2 0 : Int) - f.boardRx), true)

/-- The residence of a frame that the stack brought, from the RX_TS it carried; none when the generations differ (R630). -/
def State.stackResidence (s : State) (p : Nat) (f : Frame) : Option Int :=
  let tx := s.txStamp p 0
  if tx.2 / 16 % 4 ≠ f.cap.tags.getD 3 0 / 16 % 4 then none
  else
    let rx := launchFull (tx.1 / secU) (ts64 (f.cap.vals.getD 3 0))
    some ((tx.1 : Int) + psUnits (s.objS 32 (O.BOARD_TX_PS p)) - rx)

/-- The amount is added to a frame's correctionField and counted, or the frame counts as skipped (R252, R468). -/
def State.applyTc (s : State) (p : Nat) (f : Frame) (fr : Bytes) (x : Nat) (amount : Int) (counted : Bool) : Bytes × State :=
  match addCorrection f.walk fr x amount 0x7FFFFFFFFFFFFFFF with
  | some b => (b, if counted then s.bump (O.TC_UPDATES p) else s)
  | none => (fr, s.bump (O.PTP_CF_SKIPPED p))

/-- The transparent-clock correction of a forwarded frame that starts on a port (R468, R469, R630). -/
def State.tcCorrect (s : State) (p : Nat) (f : Frame) (fr : Bytes) : Bytes × State :=
  match s.tcTarget f fr with
  | none => (fr, s)
  | some x =>
    match f.src with
    | .port _ =>
      if !f.tcIn then (fr, s)
      else if (s.mode p).kind = 2 then
        if s.obj O.TC_MODE = 1 then s.applyTc p f fr x f.peerIn false else (fr, s)
      else if !s.flag (O.TC_ENABLE p) then (fr, s)
      else
        let r := s.residence p f
        let add := if s.obj O.TC_MODE = 1 then f.peerIn else 0
        (if r.2 then s.bump (O.TC_GEN_FALLBACK p) else s).applyTc p f fr x (r.1 + add) true
    | .stack _ =>
      let tc := match f.origin with | some o => o.tc | none => false
      if !tc || (s.mode p).kind == 2 || !s.flag (O.TC_ENABLE p) then (fr, s)
      else match s.stackResidence p f with
        | some r => s.applyTc p f fr x r true
        | none => (fr, s.bump O.STACK_TC_SKIP)
    | _ => (fr, s)

/-- A one-step Sync gets the instant of its start (R467); a sum beyond an S64 has no stated value (assumption 3). -/
def State.oneStep (s : State) (p : Nat) (f : Frame) (fr : Bytes) : Bytes × State :=
  let skip := (fr, s.bump (O.PTP_CF_SKIPPED p))
  match f.walk.ptp with
  | none => skip
  | some x =>
    if ptpType fr x ≠ 0 ∨ bit (byteAt fr (x + 6)) 1 ∨ f.outcome ≠ 0 ∨ fr.length < x + 44 then skip
    else
      let c := wrapTime (((s.txStamp p (s.obj (O.TX_TS_SEL p))).1 : Int) + psUnits (s.objS 32 (O.BOARD_TX_PS p)))
      let fr1 := patch fr (x + 34) (natBe (c / secU) 6 ++ natBe (c % secU / nsU) 4)
      let sum := toS 64 (beAt fr (x + 8) 8) + (c % nsU : Nat)
      let d := if 2 ^ 63 ≤ sum then s.draw 64 else (ofS 64 sum, s)
      match f.walk.keepUdp fr (patch fr1 (x + 8) (natBe d.1 8)) with
      | some b => (b, d.2.bump (O.ONE_STEP_SENT p))
      | none => skip

/-- The bytes a copy puts on the line: offloads and corrections change the original only (R250, R467, R468). -/
def State.txBytes (s : State) (p h : Nat) (c : Copy) (f : Frame) : Bytes × State :=
  let fr := c.bytes f
  if h ≠ 0 ∨ c.kind ≠ 0 then (fr, s)
  else if f.src.host then
    let a := if !f.hm.csum then (fr, s) else if f.outcome ≠ 0 then (fr, s.pcnt p 22 1) else (f.walk.fill fr, s)
    if f.hm.ptpCf then a.2.oneStep p f a.1 else a
  else s.tcCorrect p f fr

/-! The start of a frame. -/

/-- The frame's transmit timestamp is queued, or overflows (R460 to R462). -/
def State.tsqAdd (s : State) (p fid : Nat) (ts tag : Nat) : State :=
  let q := tget {} s.tsqs p
  if 32 ≤ q.entries.length then { (s.bump (O.TSQ_OVF_COUNT p)) with tsqs := tput {} s.tsqs p { q with ovf := true } }
  else { s with tsqs := tput {} s.tsqs p { q with entries := q.entries ++ [(fid, ts, tag)] } }

/-- A frame that carried a launch time to a queue without LAUNCH_EN is counted when it starts (R397). -/
def State.launchIgnored (s : State) (p : Nat) (x : Sel) : State :=
  if (s.launchOf x.fid x.h).isSome && !bit x.head.cfg 0 then s.bump (O.LAUNCH_IGNORED p) else s

/-- A frame starts on a port (R245, R372, R460, R501). -/
def State.startFrame (s : State) (p : Nat) (x : Sel) (c : Copy) (f : Frame) (late : Bool) : State :=
  let isLaunch := (s.launchT p x.fid x.h x.head).isSome
  let ts := s.txStamp p (s.obj (O.TX_TS_SEL p))
  let b := s.txBytes p x.h c f
  let limit := s.maxLen p f.slot b.1
  let s1 := ((b.2.modPort p (fun y => { y with sel := none, collisions := 0, hdWait := false })).modBurin p (fun y => { y with
    tx := some { fid := x.fid, h := x.h, q := x.q, began := s.now, ref := s.txRef p, data := b.1, charged := false, head := x.head, limit := limit, startL := (s.txStamp p 3).1 } }))
  let s2 := (s1.modCopy x.fid x.h (fun y => { y with place := .sending })).evc (tileOf p) 2 p 1
  let s3 := if f.hm.tsReq ∧ x.h = 0 then s2.tsqAdd p f.hm.frameId (ts64 ts.1) ts.2 else s2
  let s4 := if late then (s3.launchStat p x.q 1).launchLate p x.q else if isLaunch then s3.launchStat p x.q 0 else s3
  (((s4.launchIgnored p x).noteFate x.fid x.h (if late then 1 else 0) (ts64 ts.1) ts.2)).chargeTx p

/-- A selected frame is recalled (R245, R405). -/
def State.recall (s : State) (p : Nat) (x : Sel) : State := (s.putBack p x).pcnt p (66 + 4 * x.q) 1

/-- The selected frame is discarded at the start check. -/
def State.dropSel (s : State) (p : Nat) (x : Sel) (cause : Nat) : State :=
  (s.modPort p (fun y => { y with sel := none, idleFrom := s.now })).lose x.fid x.h cause

/-- Whether the selected frame's launch time has not come (R405). -/
def State.holdsFor (s : State) (p : Nat) (t : Option Int) : Bool := match t with | some l => Decidable.decide ((s.txRef p : Int) < l) | none => false

/-- The start check (R236, R245, R405, R406): a launch frame is held to its instant; pause first, then the gate, then lateness. -/
def State.startCheck (s : State) (p : Nat) : State :=
  match (s.port p).sel with
  | none => s
  | some x =>
    match s.both x.fid x.h with
    | none => s.modPort p (fun y => { y with sel := none })
    | some (c, f) =>
      let t := s.launchT p x.fid x.h x.head
      let late := x.head.late || (match t with | some l => lateAt l (s.txRef p) | none => false)
      if s.obj (O.LINK_STATE p) ≠ 6 ∨ (s.burin p).tx.isSome ∨ (s.port p).lpi ∨ (s.port p).hdWait ∨ s.holdsFor p t then s
      else if s.paused p (s.prioOf p x.q) then s.recall p x
      else if c.complete && Nat.blt (s.maxLen p f.slot (c.bytes f)) (c.len f) then (s.dropSel p x 6).pcnt p 16 1
      else if !s.fitsAt p x.q (s.txRef p) (s.duration p x.q x.fid x.h) then s.recall p x
      else if t.isSome && late && bit x.head.cfg 1 then ((s.dropSel p x 2).launchStat p x.q 2).launchLate p x.q
      else s.startFrame p x c f (t.isSome && late)

/-! The end of a frame. -/

/-- The stack header of a frame that goes onto a span link (R619, R627, R628). -/
def State.stackHeader (s : State) (c : Copy) (f : Frame) : Bytes :=
  let me := s.me
  let transit := match f.origin with
    | some o => if bit (byteAt o.hdr 1) 1 && byteAt o.hdr 1 / 64 != me && c.kind == 0 then some o.hdr else none
    | none => none
  match transit with
  | some hd => patch hd 1 [BitVec.ofNat 8 (setField (byteAt hd 1) 3 2 f.hops)]
  | none =>
    let directed := bit c.matchId 15 && c.kind == 0 && f.hm.dstPort == 0xFF
    let srcM := match f.origin with | some o => o.member | none => me
    let srcP := match f.origin, f.src with
      | some o, _ => o.port
      | none, .port q => q
      | none, _ => 0xFF
    let tc := match f.origin with | some o => o.tc | none => f.tcIn
    let dm := if directed then field c.matchId 13 12 else 0
    let dq := if directed then field c.matchId 11 8 else 0
    let dp := if directed then c.matchId % 256 else 0
    let rx := ts64 (wrapTime ((f.cap.vals.getD 3 0 : Int) - f.boardRx))
    bytesOf [1, dm * 64 + srcM * 16 + f.hops * 4 + 2 * b2n directed + b2n tc, srcP, dp, dq * 16 + f.prio * 2, c.colour * 64] ++
      natLe c.matchId 2 ++ natLe rx 8 ++ natLe (f.cap.tags.getD 3 0) 1 ++ List.replicate 15 0

/-- The bytes leave the port: on the line, or as a FRAME record of a span link (R236, R617). -/
def State.sendBytes (s : State) (p : Nat) (c : Copy) (f : Frame) (data : Bytes) (good : Bool) : State :=
  if (s.mode p).kind = 2 then s.sendRecord p 1 (s.stackHeader c f ++ data)
  else s.emit (.line p (padFrame data) good)

/-- The frame in transmission is over: its copy is gone and the port is free. -/
def State.txOver (s : State) (p : Nat) (x : Tx) : State :=
  ((s.modBurin p (fun b => { b with tx := none })).modPort p (fun y => { y with idleFrom := s.now, collisions := 0, hdWait := false })).dropCopy x.fid x.h |>.shedFlush p

/-- The bytes a port has sent since a frame's first one, FCS included, at least the 64 to which the transmit MAC pads (R236). -/
def State.sentSince (s : State) (p began : Nat) : Nat := max 64 ((s.now - began) * s.txMbps p / (8000 * nsU))

/-- The last byte goes to the PCS: counters, DELAY_MAX, and the cells (R47, R236, R339, R353, R527). A frame that is ended bad ends where it is, and so
does one whose length was not known: only then is it charged, and its provisional tag corrected, by what was sent of it (R367, R372). -/
def State.finishTx (s : State) (p : Nat) (x : Tx) (c : Copy) (f : Frame) (stomp : Bool) : State :=
  let cut := Nat.blt x.limit (c.len f)
  let bad := stomp || c.bad || cut
  let whole := if cut then x.limit else c.len f
  let l := if stomp || c.bad then min whole (s.sentSince p x.began) else whole
  let data := if Nat.blt l (c.len f) then x.data.take (l - 4) else x.data
  let s0 := (s.correctTx p x.fid x.h (metered l (s.overhead p x.q))).chargeTxLen p l
  let s1 := (s0.sendBytes p c f data (!bad)).countTx p l x.startL data
  let s2 := ((s1.pcnt p (64 + 4 * x.q) 1).pcnt p (65 + 4 * x.q) l)
  let s3 := if bad then s2.pcnt p 17 1 else s2
  let s4 := if cut then s3.pcnt p 16 1 else s3
  (s4.sojourn c).txOver p x

/-- TX_FRAME_END: the end of the frame in transmission. -/
def State.txFrameEnd (s : State) (p : Nat) : State :=
  match (s.burin p).tx with
  | none => s
  | some x =>
    match s.both x.fid x.h with
    | none => s.modBurin p (fun b => { b with tx := none })
    | some (c, f) =>
      if (s.port p).hdWait ∨ (!c.complete ∧ c.len f ≤ x.limit) then s else s.finishTx p x c f false

/-- The frame in transmission is ended as a stomped frame (R47, R230). -/
def State.stompTx (s : State) (p : Nat) : State :=
  match (s.burin p).tx with
  | none => s
  | some x =>
    match s.both x.fid x.h with
    | none => s.modBurin p (fun b => { b with tx := none })
    | some (c, f) => s.finishTx p x c f true

/-! Half duplex. -/

/-- A half-duplex port infers carrier from receive activity: a frame is arriving on it (R239). -/
def State.carrier (s : State) (p : Nat) : Bool :=
  s.obj (O.DUPLEX_NOW p) == 1 && s.frames.any (fun e => match e.2 with | some f => f.src == .port p && !f.ended | none => false)

/-- A collision on a half-duplex port after `bits` bits from the first preamble bit (R239, R240). -/
def State.collision (s : State) (p bits : Nat) : State :=
  match (s.burin p).tx with
  | none => s
  | some x =>
    if s.obj (O.DUPLEX_NOW p) ≠ 1 ∨ (s.port p).hdWait then s
    else
      let n := (s.port p).collisions + 1
      let s1 := (if n = 1 then s.pcnt p 20 1 else s).emit (.jam p bits 32)
      if 512 < bits then (s1.pcnt p 18 1).txOver p x
      else if 16 ≤ n then (s1.pcnt p 19 1).txOver p x
      else
        let r := s1.drawTo (2 ^ min n 10 - 1)
        let wait := r.1 * 512 * usU / s.txMbps p
        r.2.modPort p (fun y => { y with collisions := n, hdWait := true, hdEnd := s.now + wait })

/-- The back-off ends and the port sends the frame again once it infers no carrier (R239). -/
def State.hdBackoffEnd (s : State) (p : Nat) : State :=
  if !(s.port p).hdWait ∨ s.now < (s.port p).hdEnd ∨ s.carrier p then s
  else (s.modPort p (fun y => { y with hdWait := false })).modBurin p (fun b => { b with tx := b.tx.map (fun x => { x with began := s.now, ref := s.txRef p, startL := (s.txStamp p 3).1 }) })

/-! Pause generation. -/

/-- A pause quantum in units of 2^-16 ns times the port's rate in Mb/s (R243). -/
def State.quanta (s : State) (p n : Nat) : Nat :=
  let rate := if s.obj (O.PORT_MODE p) = 17 ∧ s.obj (O.SPEED_NOW p) ≠ 0 then s.obj (O.SPEED_NOW p) else s.obj (O.NOMINAL_RATE p)
  n * 512 * usU / max 1 rate

/-- The port generates pause or PFC frames (R241, R246, R629): 1 PAUSE, 2 PFC, 0 neither. -/
def State.generates (s : State) (p : Nat) : Nat :=
  if bit (s.obj (O.FC_DIR p)) 1 ∧ s.obj (O.DUPLEX_NOW p) = 0 ∧ (s.mode p).kind ≠ 2 then s.obj (O.FC_MODE p) else 0

/-- The frames due after one more is made: changes of one cycle travel in one PFC frame (R246). -/
def addPause (now prio time : Nat) (l : List (Nat × List (Nat × Nat))) : List (Nat × List (Nat × Nat)) :=
  let same := fun (e : Nat × List (Nat × Nat)) => e.1 == now && e.2.all (fun z => Nat.blt z.1 8)
  if Nat.blt prio 8 && l.any same then l.map (fun e => if same e then (e.1, e.2.filter (fun z => z.1 != prio) ++ [(prio, time)]) else e)
  else l ++ [(now, [(prio, time)])]

/-- A pause frame becomes due; LPI is left for it (R246, R249). -/
def State.pauseDue (s : State) (p prio time : Nat) : State :=
  (s.modPort p (fun y => { y with pauseDue := addPause s.now prio time y.pauseDue })).lpiLeave p

/-- XOFF is sent for a priority, or for all under PAUSE (`all`), and is in force (R246). -/
def State.sendXoff (s : State) (p i : Nat) (all : Bool) : State :=
  let s1 := s.setObj (O.XOFF_SENT p) (if all then 0xFF else setBit (s.obj (O.XOFF_SENT p)) i true)
  (s1.modPort p (fun y => { y with xoffAt := tput 0 y.xoffAt i s.now })).pauseDue p (if all then 8 else i) (s.obj (O.PAUSE_TX_TIME p))

/-- XON is sent: a frame with time 0 (R246). -/
def State.sendXon (s : State) (p i : Nat) (all : Bool) : State :=
  (s.setObj (O.XOFF_SENT p) (if all then 0 else setBit (s.obj (O.XOFF_SENT p)) i false)).pauseDue p (if all then 8 else i) 0

/-- The occupancy that drives a priority's XOFF: its own, or the sum under PAUSE (R246). -/
def State.xoffLevel (s : State) (p i : Nat) (all : Bool) : Nat :=
  let v := s.obj (O.INGRESS_CELLS p)
  if all then ((List.range 8).map (fun k => octets v (4 * k) 4)).foldl (· + ·) 0 else octets v (4 * i) 4

/-- A threshold is crossed (R246). -/
def State.checkXoff (s : State) (p i : Nat) (all : Bool) : State :=
  let k := if all then 0 else i
  let n := s.xoffLevel p i all
  let on := bit (s.obj (O.XOFF_SENT p)) k
  if !on && Nat.blt (s.obj (O.XOFF_CELLS p k)) n then s.sendXoff p k all
  else if on && Nat.ble n (s.obj (O.XON_CELLS p k)) then s.sendXon p k all
  else s

/-- The cells every Basin holds for frames of a port and priority (R350). -/
def State.ingressHeld (s : State) (p i : Nat) : Nat :=
  (s.holds.map (fun e => match s.frame (e.1 / 8) with
    | some f => if f.src.ingress == some p && f.prio == i then e.2.banks.length else 0
    | none => 0)).foldl (· + ·) 0

/-- INGRESS_OCCUPANCY_REPORT (R246, R350): the true count reaches the port. -/
def State.ingressReport (s : State) (p prio : Nat) : State :=
  let i := prio % 8
  let s1 := s.setObj (O.INGRESS_CELLS p) (setOctets (s.obj (O.INGRESS_CELLS p)) (4 * i) 4 (s.ingressHeld p i))
  if s.generates p = 1 then s1.checkXoff p i true
  else if s.generates p = 2 ∧ bit (s.obj (O.PFC_PRIOS p)) i then s1.checkXoff p i false
  else s1

/-- PAUSE_REFRESH quanta have passed since a priority's XOFF was sent and its occupancy is still above XON (R246). -/
def State.pauseRefresh (s : State) (p prio : Nat) : State :=
  let all := s.generates p == 1
  let i := if all then 0 else prio % 8
  if s.generates p = 0 ∨ (!all ∧ !bit (s.obj (O.PFC_PRIOS p)) i) ∨ !bit (s.obj (O.XOFF_SENT p)) i ∨ s.xoffLevel p i all ≤ s.obj (O.XON_CELLS p i) ∨
      s.passed (tget 0 (s.port p).xoffAt i) (s.quanta p (s.obj (O.PAUSE_REFRESH p))) = false then s
  else s.sendXoff p i all

/-- The generated frame of a list of priorities and times (R247). -/
def State.pauseFrame (s : State) (p : Nat) (l : List (Nat × Nat)) : Bytes :=
  let head := bytesOf [0x01, 0x80, 0xC2, 0, 0, 0x01] ++ natLe (s.obj (O.PORT_MAC p)) 6 ++ bytesOf [0x88, 0x08]
  let body := match l with
    | (8, t) :: _ => bytesOf [0, 1] ++ natBe t 2
    | _ => bytesOf [1, 1, 0] ++ natBe (ofBits (l.map (·.1))) 1 ++
        ((List.range 8).flatMap (fun i => natBe (((l.find? (fun z => z.1 == i)).map (·.2)).getD 0) 2))
  padTo (head ++ body) 60

/-- The generated frame would not end by the launch time of the frame held in the slot (R404). -/
def State.pauseWouldDelay (s : State) (p : Nat) : Bool :=
  match (s.port p).sel with
  | none => false
  | some x =>
    match s.launchT p x.fid x.h x.head with
    | some t => Decidable.decide (t * 1000 < ((s.txRef p * 1000 + ceilDiv (84 * 8000000) (max 1 (s.obj (O.NOMINAL_RATE p))) * nsU : Nat) : Int))
    | none => false

/-- The generated frame that is due is deferred behind the launch frame in the slot, and counted once (R404). -/
def State.pauseDefer (s : State) (p : Nat) : State :=
  if (s.port p).pauseDue.isEmpty || (s.burin p).deferred || !s.pauseWouldDelay p then s
  else (s.bump (O.PAUSE_DEFERRED p)).modBurin p (fun b => { b with deferred := true })

/-- A generated frame is due and goes ahead of every queue (R247), but for the launch frame it is deferred behind (R404). -/
def State.pauseAhead (s : State) (p : Nat) : Bool := !(s.port p).pauseDue.isEmpty && s.obj (O.DUPLEX_NOW p) == 0 && !s.pauseWouldDelay p

/-- At a frame boundary of a full-duplex port that may start a frame, a generated frame that is due and would delay the launch frame in the slot is deferred (R404). -/
def State.pauseHeld (s : State) (p : Nat) : State :=
  if s.obj (O.LINK_STATE p) = 6 ∧ (s.burin p).tx.isNone ∧ !(s.port p).lpi ∧ s.obj (O.DUPLEX_NOW p) = 0 then s.pauseDefer p else s

/-- TX_START_CHECK: the start check, or a cell of the frame in the slot that fails its CRC at the transmit MAC (R587). An Ethernet port that receives remote
fault starts no frame, as IEEE 802.3 requires (R185; assumption 86); none starts during an Ethernet width change (R219), while a half-duplex port infers carrier (R239), or
ahead of a generated pause frame that is due (R247). -/
def State.txCheck (s : State) (p : Nat) (crcBad remoteFault : Bool) : State :=
  if !crcBad then
    if (remoteFault && (s.mode p).kind == 0) || s.shedHolds p || s.carrier p || s.pauseAhead p then s else (s.pauseHeld p).startCheck p
  else match (s.burin p).tx, (s.port p).sel with
    | some x, _ => s.cellFails x.fid (tileOf p) 1 p
    | none, some y => s.cellFails y.fid (tileOf p) 1 p
    | none, none => s

/-- The next generated frame goes at a frame boundary (R247), or is deferred behind the launch frame in the slot (R404). -/
def State.pauseSend (s : State) (p : Nat) : State :=
  match (s.port p).pauseDue with
  | [] => s
  | (_, l) :: rest =>
    if s.obj (O.LINK_STATE p) ≠ 6 ∨ (s.burin p).tx.isSome ∨ (s.port p).lpi ∨ s.obj (O.DUPLEX_NOW p) ≠ 0 ∨ s.shedHolds p then s
    else if s.pauseWouldDelay p then s.pauseDefer p
    else
      let fr := s.pauseFrame p l
      let s1 := ((s.modPort p (fun y => { y with pauseDue := rest, idleFrom := s.now })).modBurin p (fun b => { b with deferred := false })).emit (.line p fr true)
      let s2 := s1.countTx p 64 (s.txStamp p 3).1 fr
      if l.any (fun z => z.1 == 8) then s2.pcnt p 15 1 else l.foldl (fun a z => a.pcnt p (129 + 4 * z.1) 1) s2

/-! LPI. -/

/-- Some queue of the port holds a frame, or a frame is selected or being sent (R249). -/
def State.txBusy (s : State) (p : Nat) : Bool :=
  (s.burin p).tx.isSome || (s.port p).sel.isSome || !(s.port p).pauseDue.isEmpty || (List.range 16).any (fun q => !(s.queue p q).frames.isEmpty)

end Sys2Proof.Machine
end

