-- ==== Sys2Proof/Machine/PortRx.lean ====
section
/-! DEFINITION. The port slot's receive side: frames and their outcomes (R234 to R237), wake filters (R253 to R256), the MAC control frames of a
partner (R242 to R244), and the forming of ports (R226 to R230). -/

namespace Sys2Proof.Machine

/-! Wake filters. -/

/-- The bytes of a good frame as it stood on the line. -/
def withFcs (fr : Bytes) : Bytes := fr ++ natLe (crc32 fr) 4

/-- Pattern filter `k` matches a frame's bytes (R253). -/
def State.patternHit (s : State) (p k : Nat) (fr : Bytes) : Bool :=
  let m := s.obj (O.MASK p k)
  let v := s.obj (O.PATTERN p k)
  let n := ((List.range 128).reverse.find? (fun i => octet m i != 0)).map (· + 1) |>.getD 0
  Nat.ble n fr.length && (List.range n).all (fun i => Nat.land (byteAt fr i) (octet m i) == Nat.land (octet v i) (octet m i))

/-- The pattern filters that match a frame (R253). -/
def State.patternHits (s : State) (p : Nat) (fr : Bytes) : Nat := ofBits ((List.range 16).filter (fun k => s.patternHit p k fr))

/-- The magic sequence stands at a place in the frame (R254). -/
def magicAt (mac : Bytes) (fr : Bytes) : Bool :=
  fr.take 102 == List.replicate 6 (0xFF : Byte) ++ (List.replicate 16 mac).flatten

/-- The magic sequence stands somewhere in the frame (R254). -/
def magicIn (mac : Bytes) : Bytes → Bool
  | [] => false
  | b :: t => magicAt mac (b :: t) || magicIn mac t

/-- The filters that match, whether enabled or not: patterns 0 to 15 and magic 16 (R253, R254). -/
def State.wakeHits (s : State) (p : Nat) (f : Frame) : Nat :=
  let mac := s.obj (O.WAKE_MAC p)
  if mac ≠ 0 ∧ magicIn (natLe mac 6) f.data then setBit f.wakeHit 16 true else f.wakeHit

/-- A matching filter acts (R255). -/
def State.wakeOne (s : State) (p : Nat) (fr : Bytes) (k : Nat) : State :=
  let s1 := if s.obj (O.WAKE_CAUSE p) = 0 then s.setObj (O.WAKE_FRAME p) (leNat (padTo (withFcs fr) 128)) else s
  ((s1.setObjBit (O.WAKE_CAUSE p) k true).bump32 (O.WAKE_MATCHES p)).raise (tileOf p) 0x32 1 p

/-- The enabled filters that match a good frame act (R255). -/
def State.wakeMatch (s : State) (p : Nat) (f : Frame) : State :=
  (bitList 17 (Nat.land (s.wakeHits p f) (s.obj (O.WAKE_ENABLE p)))).foldl (fun a k => a.wakeOne p f.data k) s

/-- WAKE_CLEAR (R255). -/
def State.wakeClear (s : State) (p : Nat) : State := s.setObj (O.WAKE_CAUSE p) 0

/-! Reception. -/

/-- A number names no frame and no copy. -/
def State.fresh (s : State) (fid : Nat) : Bool := (s.frame fid).isNone && (s.copiesOf fid).isEmpty

/-- The pipe of a tile is on (R553, R557). -/
def State.pipeOn (s : State) (t pipe : Nat) : Bool := bit (s.obj (O.PD_ON t)) (36 + pipe)

/-- The receive path from a port slot into its pipe has overrun: the port drops the frame and counts it, and its tile has an integrity fault (R24, R527, R589, R599). -/
def State.pipeOverrun (s : State) (p fid : Nat) : State :=
  (((s.pcnt p 23 1).raise (tileOf p) 0x14 1 p).integrityFault (tileOf p)).modFrame fid (fun f => { f with bad := true })

/-- A frame's first bit crosses the PCS–MAC boundary of an ACTIVE Ethernet or SGMII port (R24, R25, R453); `overrun` tells that its path into the pipe overruns, `lpiUs` the whole
microseconds of L its receive side spent in LPI since the last (R249, R527). -/
def State.rxFrameStart (s : State) (p fid : Nat) (data : Bytes) (overrun : Bool) (lpiUs : Nat) : State :=
  if s.link p ≠ 6 ∨ (s.mode p).kind = 2 ∨ s.fresh fid = false then s
  else
    let f : Frame := {
      data := data, src := .port p, cap := s.rxCapture p, tcIn := s.flag (O.TC_ENABLE p), boardRx := psUnits (s.objS 32 (O.BOARD_RX_PS p)),
      peerIn := s.objS 64 (O.PEER_DELAY p), wakeHit := s.patternHits p (withFcs data), wire := data.length + 4, limit := s.maxLen p s.currentSlot data,
      csumRx := s.flag (O.CSUM_RX p) }
    let s1 := ((s.arrive fid f).evc (tileOf p) 1 p 1).pcnt p 26 (if s.eeeKind p = 0 then 0 else lpiUs)
    if overrun then s1.pipeOverrun p fid else s1

/-- The outcome of a reception as the counter that counts it, 0 when the frame is good: the first that applies (R235). -/
def rxOutcome (wire limit : Nat) (codeErr fcsGood : Bool) : Nat :=
  if 16383 < wire then 11 else if codeErr then 12 else if wire < 64 then 8 else if limit < wire then 10 else if !fcsGood then 9 else 0

/-- Counters 0, 1, 4, 5 and 32 to 38 take a good frame, and so does the window of its start (R527, R536). -/
def State.countRx (s : State) (p l startL : Nat) (fr : Bytes) : State :=
  let s1 := (((s.pcnt p 0 1).pcnt p 1 l).pcnt p (32 + sizeBin l) 1).winCount p startL l true
  if isBroadcast fr then s1.pcnt p 5 1 else if isGroup fr then s1.pcnt p 4 1 else s1

/-- A frame is cut short at `n` bytes, and discarded or ended where its forwarding has begun (R47, R235). -/
def State.cutRx (s : State) (fid n outcome : Nat) : State :=
  (s.modFrame fid (fun f => { f with data := f.data.take (n - 4), cut := outcome })).endFrame fid

/-- A receiving frame reaches its limit (R235): it is discarded; what counts it is decided at its end. -/
def State.oversizeCut (s : State) (fid : Nat) : State :=
  match s.frame fid with
  | none => s
  | some f =>
    match f.src with
    | .port _ => if f.ended ∨ f.cut ≠ 0 ∨ f.wire ≤ f.limit then s else s.cutRx fid (f.limit + 1) 10
    | _ => s

/-- A receiving frame reaches byte 16,384 (R235). -/
def State.jabberCut (s : State) (fid : Nat) : State :=
  match s.frame fid with
  | none => s
  | some f =>
    match f.src with
    | .port p =>
      if f.ended ∨ f.cut = 11 ∨ f.wire ≤ 16383 then s
      else
        let s1 := s.pcnt p 11 1
        if f.cut = 10 then s1.modFrame fid (fun x => { x with cut := 11 }) else s1.cutRx fid 16384 11
    | _ => s

/-! MAC control frames. -/

/-- A priority's pause timer is loaded, or its pause ended by a time of 0 (R244). -/
def State.setPause (s : State) (p i time : Nat) : State :=
  let s1 := s.accountPause p i
  if time = 0 then s1.setObjBit (O.PAUSED_NOW p) i false
  else (s1.setObjBit (O.PAUSED_NOW p) i true).modPort p (fun x => { x with
    pauseEnd := tput 0 x.pauseEnd i (s.now + s.quanta p time), pauseFrom := tput 0 x.pauseFrom i s.now })

/-- A MAC control frame acts (R242 to R244): a PAUSE or PFC frame that FC_MODE selects, addressed to the port, honoured, on a full-duplex
port. -/
def State.macControl (s : State) (p : Nat) (fr : Bytes) : State :=
  let op := beAt fr 14 2
  let mine := beAt fr 0 6 == 0x0180C2000001 || leAt fr 0 6 == s.obj (O.PORT_MAC p)
  let acts := mine && bit (s.obj (O.FC_DIR p)) 0 && s.obj (O.DUPLEX_NOW p) == 0
  if op = 1 then
    if acts && s.obj (O.FC_MODE p) == 1 then (s.pcnt p 14 1).each (List.range 8) (fun i a => a.setPause p i (beAt fr 16 2)) else s
  else if op = 0x0101 then
    if acts && s.obj (O.FC_MODE p) == 2 then
      (bitList 8 (byteAt fr 17)).foldl (fun a i => (a.pcnt p (128 + 4 * i) 1).setPause p i (beAt fr (18 + 2 * i) 2)) s
    else s
  else s.pcnt p 13 1

/-- PAUSE_RECEIVED: a whole MAC control frame with the FCS it carried (R235, R242, R244, R253, R529). -/
def State.pauseReceived (s : State) (p : Nat) (fr : Bytes) (fcs : Nat) : State :=
  if s.link p ≠ 6 ∨ (s.mode p).kind = 2 ∨ beAt fr 12 2 ≠ 0x8808 then s
  else
    let f : Frame := { data := fr, src := .port p, wakeHit := s.patternHits p (withFcs fr) }
    let good := fcs == crc32 fr
    let o := rxOutcome (fr.length + 4) (s.maxLen p s.currentSlot fr) false good
    let s1 := s.evc (tileOf p) 1 p 1
    let s2 := if o ≠ 0 then s1.pcnt p o 1 else s1.countRx p (fr.length + 4) ((s.rxCapture p).vals.getD 2 0) fr
    let s3 := if good then s2.wakeMatch p f else s2
    if o ≠ 0 then s3 else s3.macControl p fr

/-- A pause timer has run out (R244). -/
def State.pauseExpiry (s : State) (p prio : Nat) : State :=
  let i := prio % 8
  if !bit (s.obj (O.PAUSED_NOW p)) i ∨ s.now < tget 0 (s.port p).pauseEnd i then s
  else (s.accountPause p i).setObjBit (O.PAUSED_NOW p) i false

/-- A shedding message of a good Ethernet frame (R218). -/
def State.shedMessage (s : State) (p : Nat) (fr : Bytes) : State :=
  let op := byteAt fr 15
  let w := byteAt fr 18 % 16
  let tok := beAt fr 16 2
  if byteAt fr 14 ≠ 0x53 then s
  else if op = 1 ∨ op = 3 then s.shedReceived p ⟨op == 3, w, tok, 0⟩
  else if op = 2 ∨ op = 4 then s.shedResponse p tok (byteAt fr 19) 0
  else s

/-! The end of a reception. -/

/-- A frame whose pipe is off goes no further than the port slot (R256, R557). -/
def State.pipeOffDrop (s : State) (p fid : Nat) (f : Frame) : State :=
  if f.laned ∨ s.pipeOn (tileOf p) (pipeOf p) then s
  else (s.bump (O.PIPE_OFF_DROP (tileOf p))).modFrame fid (fun x => { x with bad := true })

/-- A good frame ends (R242, R255, R256): consumed by its port, or left to its pipe. `inband` is what a management frame does. -/
def State.rxGood (s : State) (p fid : Nat) (f : Frame) (inband : Nat → Bytes → State → State) : State :=
  let k := takenKind s.mgmt f
  let s1 := (s.countRx p f.wire (f.cap.vals.getD 2 0) f.data).wakeMatch p f
  if k = 1 then (s1.setFrame fid none).macControl p f.data
  else if k = 2 then (s1.setFrame fid none).shedMessage p f.data
  else if k = 3 then inband p f.data (s1.setFrame fid none)
  else
    let s2 := if f.resolved then s1.countPrio f f.prio else s1
    (s2.pipeOffDrop p fid f).tidy fid

/-- RX_FRAME_END: the frame's outcome is counted (R235); the FCS is the one the frame carried. -/
def State.rxFrameEnd (s : State) (fid fcs : Nat) (codeErr : Bool) (inband : Nat → Bytes → State → State) : State :=
  match s.frame fid with
  | none => s
  | some f =>
    match f.src with
    | .port p =>
      if f.ended then s
      else
        let good := fcs == crc32 f.data && f.cut == 0
        let o := rxOutcome f.wire f.limit codeErr good
        let s1 := s.modFrame fid (fun x => { x with ended := true })
        if f.cut = 11 then s1.tidy fid
        else if f.cut = 10 then (s1.pcnt p o 1).tidy fid
        else if o = 0 then s1.rxGood p fid f inband
        else
          let s2 := s1.pcnt p o 1
          let s3 := if good && !codeErr then s2.wakeMatch p f else s2
          if o = 10 then s3.cutRx fid (f.limit + 1) 10 else if o = 11 then s3.cutRx fid 16384 11 else s3.endFrame fid
    | _ => s

/-! Forming ports. -/

/-- The lanes of a port number under a mode code. -/
def modeLanes (p code : Nat) : List Nat := (List.range (modeOf code).width).map (p + ·)

/-- The refusal of a PORT_MODE value: RANGE where the width may not stand at the lane (R227). -/
def modeRange (p v : Nat) : Nat := if placed v (p % 18) then 0 else 0x05

/-- A lane owned by two ports, a pipe above its capacity, or a FEC mode that the mode does not allow (R27, R228),
judged on the values after the write or its group. -/
def portsConflict (a : State) (p : Nat) : Bool :=
  let t := tileOf p
  let ps := (portsOf t).filter a.portUp
  let lanes := ps.flatMap (fun x => a.lanesOf x)
  let twice := ps.any (fun x => ps.any (fun y => x != y && (a.lanesOf x).any (fun l => (a.lanesOf y).contains l)))
  let load := fun (n : Nat) => ((ps.filter (fun x => pipeOf x == n)).map (fun x => (a.mode x).mbps)).foldl (· + ·) 0
  let fecOk := ps.all (fun x => a.obj (O.FEC_MODE x) == 0 || (a.mode x).fec.contains (a.obj (O.FEC_MODE x)))
  twice || Nat.blt 1800000 (load 0) || Nat.blt 1800000 (load 1) || !fecOk || lanes.any (fun l => tileOf l != t)

/-- PORT_OWNER, LANE_MODE, lane and port-slot domains, and the port-slot replicas of a tile follow its ports (R228, R429, R555). -/
def State.showLanes (s : State) (t : Nat) : State :=
  let ps := (portsOf t).filter s.portUp
  let owner := fun (l : Nat) => (ps.find? (fun x => (s.lanesOf x).contains l)).getD 0xFF
  let s1 := s.each (portsOf t) (fun l a =>
    let o := owner l
    let mode := if o = 0xFF then 0 else (s.mode o).lane
    let m := (a.setObj (O.PORT_OWNER l) o).setObj (O.LANE_MODE l) mode
    let b := if Nat.ble 4 mode then m.setObj (O.RX_FFE l) (nrzMask (m.obj (O.RX_FFE l))) else m
    let c := (b.setObjBit (O.PD_ON t) (l % 18) (o != 0xFF)).setObjBit (O.PD_ON t) (18 + l % 18) (o == l)
    if o = 0xFF then (c.modLane l (fun x => { x with restPhase := .out, restHeld := none })).setLane l 0 else c)
  s1.each (portsOf t) (fun l a =>
    let runs := (a.replica (8 + l) 0).running
    if owner l = l ∧ !runs then a.startReplica (8 + l) else if owner l ≠ l ∧ runs then a.stopReplica (8 + l) else a)

/-- The frames of a port's egress queues are discarded as PORT_FLUSH (R230). -/
def State.flushPort (s : State) (p : Nat) : State :=
  let s0 := s.unselect p
  s0.each (List.range 16) (fun q a =>
    let l := (a.queue p q).frames
    let b := a.modQueue p q (fun x => { x with frames := [], head := {}, held := false })
    l.foldl (fun c e => (c.pcnt p 21 1).lose e.1 e.2 6) b)

/-- The transmit timestamp queue is emptied and its flag cleared (R465). -/
def State.tsqFlush (s : State) (p : Nat) : State := { s with tsqs := tput {} s.tsqs p {} }

/-- A port ends (R230, R377, R465): frame in transmission, queues, link. -/
def State.endPort (s : State) (p : Nat) : State :=
  if !s.portUp p then s
  else
    let s1 := (((s.stompTx p).flushPort p).toDisabled p).tsqFlush p
    let s2 := s1.each (s1.lanesOf p) (fun l a => if a.obj (O.LANE_STATE l) = 7 then (a.setObj (O.LANE_FAULT_CAUSE l) 0).setLane l 0 else a)
    s2.modPort p (fun x => { x with pauseDue := [], xoffAt := [], idleFrom := s.now })

/-- A port's objects follow its mode (R224, R229, R258, R377). -/
def State.showPort (s : State) (p : Nat) : State :=
  let m := s.mode p
  (((s.setObj (O.NOMINAL_RATE p) m.mbps).setObj (O.LINK_KIND p) m.kind).setObj (O.WIDTH_NOW p) m.width).resetBurin p

/-- PORT_MODE values of a write or a group take effect together (R230): the old ports end, lanes are claimed or go OFF, and the new ports whose
MAC is enabled start their bring-up. -/
def State.formPorts (s : State) (l : List (Nat × Nat)) : State :=
  let s1 := l.foldl (fun a e => a.endPort e.1) s
  let s2 := l.foldl (fun a e => a.setObj (O.PORT_MODE e.1) e.2) s1
  let tiles := (List.range s.variant.tiles).filter (fun t => l.any (fun e => tileOf e.1 == t))
  let s3 := tiles.foldl (fun a t => a.showLanes t) s2
  let s4 := l.foldl (fun a e => a.showPort e.1) s3
  l.foldl (fun a e => if a.portUp e.1 then (a.clearAttempts e.1).refreshPort e.1 else a) s4

end Sys2Proof.Machine
end

