-- ==== Sys2Proof/Machine/Feed.lean ====
section
/-! DEFINITION. The AFI channels of a tile (R53 to R66, R104): frames from the host die into the pipe, frames from the AFI host queues to the host die,
credits and the two ready signals; and what every delivery to the host tells of a frame (R58). -/

namespace Sys2Proof.Machine

/-! What a delivered frame carries. -/

/-- The fields of R58 and R56 that tell of a delivered frame; completion records carry the same (R498). -/
structure RxMeta where
  ts     : Nat
  tag    : Nat
  src    : Nat
  matchId : Nat
  parse  : Nat
  ver    : Nat
  copy   : Bool
  unmatched : Bool
  prio   : Nat
  outer  : Nat
  inner  : Nat
deriving DecidableEq, Repr

/-- Where a capture holds the domain that TS_SEL names (R457). -/
def selIndex (sel : Nat) : Nat := if sel = 0 then 3 else sel - 1

/-- SRC_PORT of R58: the ingress port, the span port of a stacked frame (R629), or 0xFF from a host feed. -/
def FrameSrc.number : FrameSrc → Nat
  | .port p => p
  | .stack p => p
  | _ => 0xFF

/-- What a delivery tells of a copy (R58, R251, R457 to R459). -/
def rxMeta (f : Frame) (c : Copy) : RxMeta :=
  let i := selIndex f.tsSel
  let code := fun (b : Bool) => if f.csumRx then f.walk.code f.outcome f.data b else 0
  ⟨ts64 (f.cap.vals.getD i 0), f.cap.tags.getD i 0, f.src.number, c.matchId, f.outcome, f.slot, c.kind == 1 || c.kind == 2, !f.looked, f.prio,
    code false, code true⟩

/-- The receive metadata word (R58). -/
def RxMeta.word (m : RxMeta) : Nat :=
  m.ts * 2 ^ 64 + m.tag * 2 ^ 56 + m.src * 2 ^ 48 + m.matchId * 2 ^ 32 + m.parse * 2 ^ 28 + m.ver * 2 ^ 26 + b2n m.copy * 2 ^ 25 +
    b2n m.unmatched * 2 ^ 24 + m.prio * 2 ^ 21

/-! Host feed. -/

/-- A frame that asked for a transmit timestamp at the port its sender named was discarded at its fence (R463). -/
def State.fencedOff (s : State) (hm : HostMeta) : State :=
  if hm.tsReq ∧ hm.dstPort < s.variant.ports then (s.bump (O.TSQ_NOSTART hm.dstPort)).setObj (O.TSQ_LAST_NOSTART hm.dstPort) hm.frameId else s

/-- A whole frame from the host feed: its fence first (R61, R325), then the pipe (R32). The frame's number is `fid`. True when it passed. -/
def State.hostFrame (s : State) (fid : Nat) (src : FrameSrc) (data : Bytes) (hm : HostMeta) : Bool × State :=
  let r := s.fence src.tile hm.fence (max 64 (data.length + 4))
  if !r.1 then (false, r.2.fencedOff hm)
  else (true, r.2.arrive fid { data := data, src := src, hm := hm, ended := true, wire := data.length + 4 })

/-- FRAME_ID, egress, launch time and offloads of a transmit metadata word (R60). R60 states no refusal of a LAUNCH whose nanoseconds are a reserved encoding (R411): the
word is taken as its fields count (DESIGN CHOICE, assumption 76). -/
def hostMetaOf (w : Nat) : HostMeta :=
  { frameId := field w 63 48, dstPort := field w 47 40, queue := field w 39 36, launch := if bit w 35 then some (field w 127 64) else none,
    tsReq := bit w 34, csum := bit w 33, ptpCf := bit w 32, fence := field w 29 16 }

/-- LEN of a transmit metadata word (R60). -/
def metaLen (w : Nat) : Nat := field w 13 0

/-- A number for a frame: the one the sender gives, or one past every number in use when that one is taken. -/
def State.freshFid (s : State) (fid : Nat) : Nat :=
  if s.fresh fid then fid else (s.frames.foldl (fun a e => max a e.1) 0) + 1

/-! The AFI channels. -/

/-- The DMA domain of a tile is on (R553, R557). -/
def State.dmaOn (s : State) (t : Nat) : Bool := bit (s.obj (O.PD_ON t)) 48

/-- Both ready signals of a channel are high (R63). -/
def Afi.up (a : Afi) : Bool := a.rdy && a.hdRdy

/-- A violation of a channel is counted and reported (R104, R599). `i` is its place among the kinds from 0x0070. -/
def State.afiViol (s : State) (t ch key i : Nat) : State := (s.bump key).raise t (0x70 + i) 9 ch

/-- Clemal returns transmit credits (R64, R65). -/
def State.returnCredits (s : State) (t ch n : Nat) : State :=
  if n = 0 ∨ !(s.afi t ch).up then s
  else (s.modAfi t ch (fun a => { a with txCredits := min 1024 (a.txCredits + n) })).emit (.afiCredits t ch n)

/-- Both ready signals are high: Clemal gives its 1,024 transmit credits (R65, R642). -/
def State.afiRise (s : State) (t ch : Nat) : State :=
  if !s.runs t ∨ !s.dmaOn t ∨ !s.pipeOn t ch ∨ (s.afi t ch).up then s
  else
    let s1 := s.modAfi t ch (fun _ => { rdy := true, hdRdy := true, noCredit := s.now })
    (s1.returnCredits t ch 1024).endRoots t (fun r => r.kind == 0x72 && r.src == ch)

/-- A copy under delivery on a channel is discarded. -/
def State.dropCtx (s : State) (e : Option (Nat × Nat × Nat)) : State :=
  match e with
  | some (fid, h, _) => s.lose fid h 6
  | none => s

/-- A ready signal falls (R63): the frames open on the channel in both directions are discarded, and its credits are zero. -/
def State.afiFall (s : State) (t ch : Nat) (hd : Bool) : State :=
  let a := s.afi t ch
  if !a.up then s
  else
    let opened := a.ctx.any (fun e => e.2.isSome) || a.txOpen.isSome
    let s1 := (a.ctx.foldl (fun x e => x.dropCtx e.2) s).modAfi t ch (fun _ => { rdy := hd, hdRdy := !hd })
    if hd && opened then s1.afiViol t ch (O.AFI_RDY_LOSS t) 2 else s1

/-- The host die returns receive credits (R64, R66, R104). -/
def State.afiCredit (s : State) (t ch n : Nat) : State :=
  let a := s.afi t ch
  if !a.up then s
  else
    let s1 := if 4095 < a.rxCredits + n then s.afiViol t ch (O.AFI_CREDIT_VIOL t) 0 else s
    s1.modAfi t ch (fun x => { x with
      rxCredits := min 4095 (x.rxCredits + n), rxStarted := x.rxStarted || Nat.ble 64 (x.rxCredits + n), stalled := x.stalled && n == 0 })

/-! Transmit channels. -/

/-- The frame open on a transmit channel is discarded, and its flits give their credits back. -/
def State.dropOpen (s : State) (t ch skip : Nat) : State :=
  let n := match (s.afi t ch).txOpen with
    | some x => x.2.2
    | none => 0
  (s.modAfi t ch (fun a => { a with txOpen := none, txSkip := skip })).returnCredits t ch n

/-- A format violation: the frame open on the channel is discarded (R104). -/
def State.afiFormat (s : State) (t ch skip : Nat) : State := (s.dropOpen t ch skip).afiViol t ch (O.AFI_FORMAT_VIOL t) 1

/-- A frame is whole on a transmit channel: it is checked and fed to its pipe (R60 to R62, R104). -/
def State.afiWhole (s : State) (t ch fid metaw : Nat) (data : Bytes) (last : Flit) : State :=
  let n := metaLen metaw
  let flits := ceilDiv data.length 64
  let s1 := s.modAfi t ch (fun a => { a with txOpen := none })
  if last.err then (s1.bump (O.AFI_HOST_ABORT t)).returnCredits t ch flits
  else if n < 14 ∨ 16379 < n ∨ data.length ≠ n then (s1.afiViol t ch (O.AFI_FORMAT_VIOL t) 1).returnCredits t ch flits
  else
    let r := s1.hostFrame (s1.freshFid fid) (.afi t ch) data (hostMetaOf metaw)
    if r.1 then r.2 else r.2.returnCredits t ch flits

/-- The valid bytes of a flit: 64, or BYTES on an EOF flit (R56). -/
def flitValid (f : Flit) : Bytes := padTo f.data (if f.eof && f.bytes != 0 then f.bytes else 64)

/-- A flit that was discarded gives its credit back. -/
def State.dropFlit (s : State) (t ch : Nat) : State := s.returnCredits t ch 1

/-- A flit of the frame that is open on a channel, or that it opens. -/
def State.afiTake (s : State) (t ch fid : Nat) (f : Flit) : State :=
  match (s.afi t ch).txOpen with
  | none => s.dropFlit t ch
  | some (m, bs, n) =>
    let all := bs ++ (flitValid f)
    if f.eof then s.afiWhole t ch fid m all f
    else if 16384 < all.length then (s.afiFormat t ch 1).dropFlit t ch
    else s.modAfi t ch (fun a => { a with txOpen := some (m, all, n + 1) })

/-- One flit arrives on a transmit channel (R56, R64, R104). What is left of a frame cut short is discarded up to its EOF flit; after a flit that belongs to no frame,
everything up to the next start of a frame is. -/
def State.afiFlitIn (s0 : State) (t ch fid metaw : Nat) (f : Flit) : State :=
  let a := s0.afi t ch
  if a.txCredits = 0 then
    (s0.dropOpen t ch (if f.eof then 0 else max 1 a.txSkip)).afiViol t ch (O.AFI_CREDIT_VIOL t) 0
  else
    let s := s0.modAfi t ch (fun x => { x with txCredits := x.txCredits - 1 })
    if f.ctx ≠ 0 then (s.afiFormat t ch 2).dropFlit t ch
    else if f.sof then
      let s1 := if a.txOpen.isSome then s.afiFormat t ch 0 else s
      (s1.modAfi t ch (fun x => { x with txOpen := some (metaw, [], 0), txSkip := 0 })).afiTake t ch fid f
    else if a.txSkip ≠ 0 then (if f.eof && a.txSkip == 1 then s.modAfi t ch (fun x => { x with txSkip := 0 }) else s).dropFlit t ch
    else if a.txOpen.isNone then (s.afiFormat t ch 2).dropFlit t ch
    else s.afiTake t ch fid f

/-- AFI_TX_FRAME: flits on a transmit channel, with the metadata word that goes with a start of frame (R54 to R62, R104). -/
def State.afiTxFrame (s : State) (t ch fid metaw : Nat) (flits : List Flit) : State :=
  if !(s.afi t ch).up then s else flits.foldl (fun a f => a.afiFlitIn t ch fid metaw f) s

/-- The flits of a frame from a transmit channel leave the channel's buffer once the pipe has taken them all: their credits go back (R64). `s0` is the state
before the command that made the pipe take them. -/
def State.afiFreed (s s0 : State) (fid : Nat) : State :=
  match s0.frame fid with
  | some f =>
    match f.src with
    | .afi t ch =>
      let done := match s.frame fid with
        | some g => g.lastSeg || g.bad || g.pass != 0
        | none => true
      if f.lastSeg || f.pass != 0 || !done then s else s.returnCredits t ch (ceilDiv f.data.length 64)
    | _ => s
  | none => s

/-! Receive channels. -/

/-- The sideband word of a flit (R56): bytes `n` of an EOF flit. -/
def sideband (sof eof err : Bool) (n outer inner ctx : Nat) : Nat :=
  2 ^ 31 + b2n sof * 2 ^ 30 + b2n eof * 2 ^ 29 + (if eof then n % 64 * 2 ^ 23 else 0) + b2n (err && eof) * 2 ^ 22 +
    (if eof then outer * 2 ^ 20 + inner * 2 ^ 18 else 0) + ctx * 2 ^ 16

/-- A copy has been delivered to the host: its fate, its cells (R339, R501). -/
def State.delivered (s : State) (fid h : Nat) : State := (s.noteFate fid h 7 0 0).dropCopy fid h

/-- Flits of a context go out while credits last and the frame's bytes are there (R57, R59, R64, R66). -/
def State.sendCtx (s : State) (t ch k : Nat) : Nat → State
  | 0 => s
  | n + 1 =>
    match tget none (s.afi t ch).ctx k with
    | none => s
    | some (fid, h, sent) =>
      match s.both fid h with
      | none => s.modAfi t ch (fun a => { a with ctx := tput none a.ctx k none })
      | some (c, f) =>
        let bs := c.bytes f
        let m := rxMeta f c
        let eof := Nat.ble bs.length (sent + 64)
        let a := s.afi t ch
        if a.rxCredits = 0 ∨ !a.rxStarted ∨ (eof ∧ !c.complete) then s
        else
          let part := slice bs sent 64
          let s1 := s.emit (.afiFlit t ch (sideband (sent == 0) eof c.bad part.length m.outer m.inner k) (if sent = 0 then m.word else 0) part)
          let s2 := s1.modAfi t ch (fun x => { x with
            rxCredits := x.rxCredits - 1, noCredit := s.now, ctx := tput none x.ctx k (if eof then none else some (fid, h, sent + 64)) })
          if eof then (s2.sojourn c).delivered fid h else s2.sendCtx t ch k n

/-- A frame at the head of an AFI host queue opens a free context (R57). -/
def State.openCtx (s : State) (t ch : Nat) : State :=
  match tget [] s.afiQueues (2 * t + ch), (List.range 4).find? (fun k => (tget none (s.afi t ch).ctx k).isNone) with
  | (fid, h) :: _, some k =>
    let s1 := { s with afiQueues := tmod [] s.afiQueues (2 * t + ch) (fun l => l.drop 1) }
    (s1.modCopy fid h (fun c => { c with place := .delivering })).modAfi t ch (fun a => { a with ctx := tput none a.ctx k (some (fid, h, 0)) })
  | _, _ => s

/-- A cell of the frame open in a context fails its CRC as it is read for the channel (R59, R587). -/
def State.ctxCellFails (s : State) (t ch k : Nat) : State :=
  match tget none (s.afi t ch).ctx k with
  | some (fid, _, _) => s.cellFails fid t 9 ch
  | none => s

/-- AFI_RX_SEND: the frame at the head of the host queue takes a free context, and the open contexts send as credits allow (R57, R66). The order in which open
contexts take credits is not stated; the lowest goes first (DESIGN CHOICE, assumption 73). -/
def State.afiRxSend (s : State) (t ch crcBad : Nat) : State :=
  let a := s.afi t ch
  if !a.up ∨ !a.rxStarted then s
  else (s.openCtx t ch).each (List.range 4) (fun k b => (if bit crcBad k then b.ctxCellFails t ch k else b).sendCtx t ch k 257)

/-- AFI_STALL: flits have waited AFI_STALL_LIMIT without a credit (R104). -/
def State.afiStall (s : State) (t ch : Nat) : State :=
  let a := s.afi t ch
  if !a.up ∨ a.rxCredits ≠ 0 ∧ a.rxStarted ∨ a.stalled ∨ !s.afiWaits t ch ∨ !s.passed a.noCredit (s.obj (O.AFI_STALL_LIMIT t) * usU) then s
  else (s.modAfi t ch (fun x => { x with stalled := true })).afiViol t ch (O.AFI_STALL t) 3

end Sys2Proof.Machine
end

