-- ==== Sys2Proof/Machine/MemPort.lean ====
section
/-! DEFINITION. Rings, completion queues and the DMA memory port (R67 to R72, R482 to R485, R498 to R511, R516 to R522): requests, records, doorbells,
ring states, hand-overs, and the failures of R517. -/

namespace Sys2Proof.Machine

/-! Rings and queues. -/

/-- The key of a ring. -/
def ringKey (t : Nat) (rx : Bool) (n : Nat) : Nat := 4096 * t + (if rx then 2048 else 0) + n % 2048

/-- A ring of a tile. -/
def State.ring (s : State) (t : Nat) (rx : Bool) (n : Nat) : Ring := tget {} s.rings (ringKey t rx n)

/-- A ring changed. -/
def State.modRing (s : State) (t : Nat) (rx : Bool) (n : Nat) (f : Ring → Ring) : State := { s with rings := tmod {} s.rings (ringKey t rx n) f }

/-- A completion queue of a tile. -/
def State.cq (s : State) (t q : Nat) : Cq := tget {} s.cqs (1024 * t + q % 1024)

/-- A completion queue changed. -/
def State.modCq (s : State) (t q : Nat) (f : Cq → Cq) : State := { s with cqs := tmod {} s.cqs (1024 * t + q % 1024) f }

/-- BASE, SIZE, ENGINE, CUT_THROUGH and RX_BUF_LEN of RING_CFG (R521). -/
def Ring.base (r : Ring) : Nat := octets r.cfg 0 8
/-- SIZE. -/
def Ring.size (r : Ring) : Nat := max 1 (octets r.cfg 8 2)
/-- ENGINE. -/
def Ring.engine (r : Ring) : Nat := octet r.cfg 10
/-- CUT_THROUGH. -/
def Ring.cutThrough (r : Ring) : Bool := bit (octet r.cfg 11) 0
/-- RX_BUF_LEN. -/
def Ring.bufLen (r : Ring) : Nat := max 1 (octets r.cfg 12 2)

/-- RID, CQ, WEIGHT, FENCE_LOCK and FENCE of a set (R521). -/
def setRid (v : Nat) : Nat := octets v 0 2
/-- CQ. -/
def setCq (v : Nat) : Nat := octets v 2 2 % 1024
/-- WEIGHT. -/
def setWeight (v : Nat) : Nat := max 1 (octets v 4 2)
/-- FENCE_LOCK. -/
def setLock (v : Nat) : Bool := bit (octets v 6 2) 15
/-- FENCE. -/
def setFence (v : Nat) : Nat := octets v 6 2 % 16384

/-- BASE, SIZE, CQ_RID, INT_EN, MSI_ADDR, MSI_DATA and HOLDOFF of CQ_CFG (R522). -/
def Cq.base (q : Cq) : Nat := octets q.cfg 0 8
/-- SIZE. -/
def Cq.size (q : Cq) : Nat := max 1 (octets q.cfg 8 4)
/-- CQ_RID. -/
def Cq.rid (q : Cq) : Nat := octets q.cfg 12 2
/-- INT_EN. -/
def Cq.intEn (q : Cq) : Bool := bit (octet q.cfg 14) 0
/-- HOLDOFF, in units. -/
def Cq.holdoff (q : Cq) : Nat := octets q.cfg 0x1C 4 * usU

/-- A distance between ring indices (R494). -/
def idxDist (a b : Nat) : Nat := (a + 65536 - b % 65536) % 65536

/-- A ring index advanced. -/
def idxAdd (a n : Nat) : Nat := (a + n) % 65536

/-- The later of two indices counted from `head`. -/
def idxLater (head a b : Nat) : Nat := if idxDist a head ≤ idxDist b head then b else a

/-! Completion records. -/

/-- A completion record beside its PHASE (R498). -/
structure Rec where
  egress : Bool := false
  status : Nat := 0
  gen    : Nat
  idx    : Nat
  frameId : Nat := 0
  rx     : Bool := false
  ring   : Nat
  bytes  : Nat := 0
  residue : Nat := 0
  stamp  : Option (Nat × Nat) := none
  info   : Option RxMeta := none
deriving DecidableEq, Repr

/-- The 32 bytes of a record with PHASE 0 (R498). -/
def Rec.data (r : Rec) : Bytes :=
  let st := r.stamp.getD (0, 0)
  let tail := match r.info with
    | some m => (m.src * 65536 + m.matchId, m.parse * 2 ^ 28 + m.ver * 2 ^ 26 + b2n m.copy * 2 ^ 25 + b2n m.unmatched * 2 ^ 24 + m.prio * 2 ^ 21 +
        m.outer * 2 ^ 19 + m.inner * 2 ^ 17)
    | none => (0, 0)
  natLe (b2n r.egress * 2 ^ 30 + r.status * 2 ^ 24 + r.gen % 256 * 65536 + r.idx) 4 ++ natLe (r.frameId * 65536 + b2n r.rx * 32768 + r.ring) 4 ++
    natLe r.bytes 4 ++ natLe r.residue 4 ++ natLe st.1 8 ++ natLe (st.2 * 2 ^ 24 + tail.1) 4 ++ natLe (tail.2 + b2n r.stamp.isSome * 65536) 4

/-- PHASE of the next record of a ring of records: 1 on the first pass, then alternating (R91, R498). -/
def phaseOf (producer size : Nat) : Nat := 1 - producer / size % 2

/-- A record of 32 bytes with its PHASE put in. -/
def withPhase (d : Bytes) (phase : Nat) : Bytes := patch d 3 [BitVec.ofNat 8 (byteAt d 3 % 128 + phase * 128)]

/-- The queue's interrupt message (R505). -/
def State.cqMessage (s : State) (t n : Nat) : State :=
  let q := s.cq t n
  (s.modCq t n (fun x => { x with lastMsg := some s.now, owed := false })).emit (.message t q.rid (octets q.cfg 0x10 8) (octets q.cfg 0x18 4))

/-- HOLDOFF has passed since the queue's last message (R505). -/
def State.cqQuiet (s : State) (q : Cq) : Bool :=
  match q.lastMsg with
  | some i => Nat.ble (i + q.holdoff) s.now
  | none => true

/-- A record is written into an ON queue, body before head, and its message follows (R502, R505). -/
def State.writeRecord (s : State) (t n status : Nat) (d : Bytes) : State :=
  let q := s.cq t n
  if q.st ≠ 1 then s
  else
    let a := q.base + 32 * (q.producer % q.size)
    let w := withPhase d (phaseOf q.producer q.size)
    let s1 := (s.emit (.eventWrite t q.rid (a + 4) (w.drop 4))).emit (.eventWrite t q.rid a (w.take 4))
    let s2 := s1.modCq t n (fun x => { x with producer := (x.producer + 1) % 2 ^ 32, records := (x.records + 1) % 2 ^ 64 })
    if !q.intEn then s2
    else if status ≠ 0 ∨ s2.cqQuiet q then s2.cqMessage t n
    else s2.modCq t n (fun x => { x with owed := true })

/-- The hold-off of a queue ends (R505). -/
def State.cqHoldoffEnd (s : State) (t n : Nat) : State :=
  let q := s.cq t n
  if q.st = 1 ∧ q.intEn ∧ q.owed ∧ s.cqQuiet q then s.cqMessage t n else s

/-- The status of an egress record by the cause of a fate (R499, R501). -/
def fateStatus (cause : Nat) : Nat :=
  if cause = 0 then 0 else if cause = 1 then 0x09 else if cause = 2 then 0x0A else if cause = 3 then 0x0B else if cause = 7 then 0x0D else 0x0C

/-- The fates that are known become egress records, in their order (R501). -/
def State.writeFates (s : State) : State :=
  s.fates.foldl (fun a x =>
    let r : Rec := { egress := true, status := fateStatus x.cause, gen := x.desc.gen, idx := x.desc.idx, frameId := x.frameId, ring := x.ring,
                     stamp := if x.cause ≤ 1 then some (x.ts, x.tag) else none }
    a.writeRecord x.t x.desc.cq r.status r.data) { s with fates := [] }

/-! Memory requests. -/

/-- A read may be issued with a tag (R67, R72). -/
def State.canRead (s : State) (t tag : Nat) : Bool :=
  (s.tile t).hdMemRdy && s.dmaOn t && Nat.blt tag 512 && Nat.blt (s.tile t).reads.length 512 && (s.tile t).reads.all (fun r => r.tag != tag)

/-- A request waits for HD_MEM_RDY (R72). -/
def State.memWait (s : State) (t : Nat) : State :=
  if (s.tile t).hdMemRdy then s else s.modTile t (fun x => { x with memWaiting := true })

/-- A read of a ring is issued under its active RID (R67, R516). -/
def State.issueRead (s : State) (t : Nat) (rx : Bool) (n : Nat) (use : DmaUse) (addr len tag : Nat) : State :=
  let r : DmaRead := ⟨tag, rx, n, use, addr % 2 ^ 64, len, s.now, s.obj (O.MEM_TIMEOUT t), false⟩
  (s.modTile t (fun x => { x with reads := x.reads ++ [r] })).emit (.memRead t (setRid (s.ring t rx n).active) tag (addr % 2 ^ 64) len)

/-- A write of a ring is issued under its active RID (R68, R516). -/
def State.issueWrite (s : State) (t : Nat) (rx : Bool) (n addr : Nat) (data : Bytes) : State :=
  s.emit (.memWrite t (setRid (s.ring t rx n).active) (addr % 2 ^ 64) data)

/-- The bytes from an address to the end of its 512-byte block (R497). -/
def toBlock (addr : Nat) : Nat := 512 - addr % 512

/-- A violation on the memory port is counted and reported (R104, R599). -/
def State.memViol (s : State) (t key i : Nat) : State := (s.bump key).raise t (0x70 + i) 0 3

/-! The end of a ring's work. -/

/-- The bytes of a descriptor's LEN: a transmit frame's part (R487). -/
def partLen (d : Bytes) : Nat := leAt d 8 2

/-- A copy's LEN (R491). -/
def copyLen (d : Bytes) : Nat := leAt d 8 4

/-- The bytes a list of parts holds. -/
def partsLen (l : List (Nat × Bytes)) : Nat := (l.map (fun e => partLen e.2)).foldl (· + ·) 0

/-- The part in which byte `n` of a frame lies: its place in the list, the bytes before it. -/
def partAt : List (Nat × Bytes) → Nat → Nat → Nat × Nat
  | [], _, i => (i, 0)
  | (_, d) :: rest, n, i => if n < partLen d ∨ rest.isEmpty then (i, n) else partAt rest (n - partLen d) (i + 1)

/-- The descriptor a record of unfinished work stands at, and the bytes moved for it: for a frame its last descriptor to start, for a delivery the last
buffer used (R506, R508). -/
def Work.stand (w : Work) : Nat × Nat :=
  match w.kind with
  | .frame =>
    let x := partAt w.descs (w.moved - 1) 0
    ((w.descs.getD x.1 (0, [])).1, if w.moved = 0 then 0 else x.2 + 1)
  | _ => ((w.descs.getLastD (0, [])).1, w.moved)

/-- FRAME_ID of a frame's first descriptor (R487). -/
def Work.frameId (w : Work) : Nat := if w.kind = .frame then leAt (w.descs.headD (0, [])).2 0x0A 2 else 0

/-- Bytes not moved, or for a delivery the descriptors used (R498). -/
def Work.residue (w : Work) : Nat :=
  match w.kind with
  | .frame => partsLen w.descs - w.moved
  | .copy => copyLen (w.descs.headD (0, [])).2 - w.wrote
  | .deliver => w.descs.length

/-- The record of work that stops short with a status. -/
def Work.record (w : Work) (rx : Bool) (n status : Nat) : Rec :=
  let st := w.stand
  { status := status, gen := w.gen, idx := st.1, frameId := w.frameId, rx := rx, ring := n,
    bytes := if w.kind = .copy then w.wrote else st.2, residue := w.residue }

/-- A ring has finished its descriptors up to an index: HEAD, and TAIL after a retraction that waited (R506, R507); the ring chooses again. `covered` tells
that a record covers them. -/
def Ring.finish (r : Ring) (idx n bytes : Nat) (covered : Bool) : Ring :=
  let next := idxAdd idx 1
  let head := match r.backTo with
    | some b => idxLater r.head b next
    | none => next
  let tail := if r.backTo.isSome then head else r.tail
  { r with
    head := head, tail := tail, backTo := none, work := none, descs := r.descs + n,
    fetchAt := if r.backTo.isSome then head else r.fetchAt, fetched := if r.backTo.isSome then [] else r.fetched,
    cuts := r.cuts.filter (fun c => idxDist c head != 0 && Nat.ble (idxDist c head) (idxDist tail head)),
    uncovered := if covered then none else some (idx, bytes) }

/-- A record of a ring is written under a generation's queue. -/
def State.ringRecord (s : State) (t cq : Nat) (r : Rec) : State := s.writeRecord t cq r.status r.data

/-- Work ends with a record. `n` descriptors are finished with it. -/
def State.endWork (s : State) (t : Nat) (rx : Bool) (ring : Nat) (w : Work) (rec : Rec) (n : Nat) : State :=
  (s.ringRecord t w.cq rec).modRing t rx ring (fun r => r.finish rec.idx n rec.bytes true)

/-- Work that wrote memory ends: a read-back of the last byte written goes before the record (R503). -/
def State.endAfter (s : State) (t : Nat) (rx : Bool) (ring : Nat) (w : Work) (rec : Rec) (n tag : Nat) : State :=
  match w.lastWrite with
  | none => s.endWork t rx ring w rec n
  | some a =>
    if !s.canRead t tag then s.memWait t
    else (s.issueRead t rx ring .readback a 1 tag).modRing t rx ring (fun r => { r with
      work := some { w with burst := none, got := none, due := some ⟨rec.status, rec.data⟩ } })

/-- The descriptors that a record of unfinished work finishes: those up to where it stands. -/
def Work.count (w : Work) : Nat := w.descs.length

/-! Failures. -/

/-- The frame under delivery is discarded from the Basin. -/
def State.dropWork (s : State) (w : Work) : State := if w.kind = .deliver then s.lose w.fid w.h 6 else s

/-- The reads of a ring are dead: their responses are discarded (R518). -/
def State.killReads (s : State) (t : Nat) (rx : Bool) (ring : Nat) : State :=
  s.modTile t (fun x => { x with reads := x.reads.map (fun d => if d.rx = rx ∧ d.ring = ring then { d with dead := true } else d) })

/-- A ring fails (R483, R517, R518): its unstarted descriptors are withdrawn, its reads are dead, and it is counted and reported. -/
def State.failRing (s : State) (t : Nat) (rx : Bool) (ring cause : Nat) : State :=
  let s1 := match (s.ring t rx ring).work with
    | some w => s.dropWork w
    | none => s
  let s2 := s1.modRing t rx ring (fun r => { r with st := 2, fail := cause, work := none, fetched := [], fetching := none, abort := false })
  ((s2.killReads t rx ring).bump (O.RING_FAILS t)).raise t 0x61 (if rx then 4 else 3) ring

/-- A descriptor fetch failed (R517): FETCH_ERR at HEAD - 1. -/
def State.fetchFailed (s : State) (t : Nat) (rx : Bool) (ring : Nat) : State :=
  let r := s.ring t rx ring
  (s.ringRecord t (setCq r.active) { status := 0x10, gen := r.activeGen, idx := idxAdd r.head 65535, rx := rx, ring := ring }).failRing t rx ring 0x10

/-- The work of a ring fails with a status (R517). -/
def State.workFailed (s : State) (t : Nat) (rx : Bool) (ring status : Nat) : State :=
  match (s.ring t rx ring).work with
  | some w => (s.ringRecord t w.cq (w.record rx ring status)).failRing t rx ring status
  | none => s.failRing t rx ring status

/-- A read of a ring failed: by a non-OK status (`timeout` false) or by its time (R517). -/
def State.readFailed (s : State) (t : Nat) (d : DmaRead) (timeout : Bool) : State :=
  match d.use with
  | .fetch => s.fetchFailed t d.rx d.ring
  | _ => s.workFailed t d.rx d.ring (if timeout then 0x13 else 0x11)

/-- The read-back returned OK: the record that was due is written (R503). -/
def State.readbackOk (s : State) (t : Nat) (rx : Bool) (ring : Nat) : State :=
  match (s.ring t rx ring).work with
  | some w =>
    match w.due with
    | some d => (s.writeRecord t w.cq d.status d.data).modRing t rx ring (fun r => r.finish (leAt d.data 0 2) w.count (leAt d.data 8 4) true)
    | none => s
  | none => s

/-- The descriptors a fetch brought, as index and bytes. -/
def fetchedList (first : Nat) : Nat → Bytes → List (Nat × Bytes)
  | 0, _ => []
  | n + 1, bs => (first, bs.take 32) :: fetchedList (idxAdd first 1) n (bs.drop 32)

/-- A read's data arrives in order (R68). -/
def State.readOk (s : State) (t : Nat) (d : DmaRead) (data : Bytes) : State :=
  match d.use with
  | .fetch =>
    s.modRing t d.rx d.ring (fun r =>
      match r.fetching with
      | some (first, n) => { r with fetched := r.fetched ++ fetchedList first n data, fetching := none }
      | none => r)
  | .data => s.modRing t d.rx d.ring (fun r => { r with work := r.work.map (fun w => { w with got := some data }) })
  | .readback => s.readbackOk t d.rx d.ring

/-- A read is no longer outstanding. -/
def State.dropRead (s : State) (t tag : Nat) : State := s.modTile t (fun x => { x with reads := x.reads.filter (fun r => r.tag != tag) })

/-- MEM_READ_RESPONSE: matched by tag, or discarded as unexpected or in error (R68, R104). -/
def State.memResponse (s : State) (t tag status : Nat) (data : Bytes) : State :=
  match (s.tile t).reads.find? (fun r => r.tag == tag) with
  | none => s.memViol t (O.DMA_UNEXP_RSP t) 5
  | some d =>
    let s1 := s.dropRead t tag
    if d.dead then s1
    else if status ≠ 0 then (s1.memViol t (O.DMA_ERR_RSP t) 6).readFailed t d false
    else if data.length ≠ d.len then (s1.memViol t (O.DMA_UNEXP_RSP t) 5).readFailed t d false
    else s1.readOk t d data

/-- DMA_TIMEOUT: a read has passed its MEM_TIMEOUT (R104, R105). -/
def State.memTimeout (s : State) (t tag : Nat) : State :=
  match (s.tile t).reads.find? (fun r => r.tag == tag) with
  | none => s
  | some d =>
    if !s.passed d.issued (d.limit * usU) then s
    else
      let s1 := (s.dropRead t tag).memViol t (O.DMA_TIMEOUT t) 4
      if d.dead then s1 else s1.readFailed t d true

/-- READBACK_DONE: the response to a ring's read-back (R503). -/
def State.readbackDone (s : State) (t : Nat) (rx : Bool) (ring status : Nat) : State :=
  match (s.tile t).reads.find? (fun r => r.use == .readback && r.rx == rx && r.ring == ring % 2048 && !r.dead) with
  | none => s
  | some d => s.memResponse t d.tag status (if status = 0 then [0] else [])

/-- The rings of a tile in the table: kind, number and ring. -/
def State.ringList (s : State) (t : Nat) : List (Bool × Nat × Ring) :=
  (s.rings.filter (fun e => e.1 / 4096 == t)).map (fun e => (Nat.ble 2048 (e.1 % 4096), e.1 % 2048, e.2))

/-- A completion queue fails with every RUNNING ring bound to it, whose records are withheld (R517). -/
def State.failCq (s : State) (t n : Nat) : State :=
  let s1 := (s.modCq t n (fun q => { q with st := 2, owed := false })).raise t 0x62 5 n
  (s.ringList t).foldl (fun a e => if e.2.2.st = 1 ∧ setCq e.2.2.active = n then a.failRing t e.1 e.2.1 0x12 else a) s1

/-- The ON queue in whose buffer an address lies under a RID. -/
def State.cqOwning (s : State) (t rid addr : Nat) : Option Nat :=
  (s.cqs.find? (fun e => e.1 / 1024 == t && e.2.st == 1 && e.2.rid == rid && Nat.ble e.2.base addr && Nat.blt addr (e.2.base + 32 * e.2.size))).map
    (fun e => e.1 % 1024)

/-- MEM_WRITE_ERROR: a posted write is reported in error (R71, R517). -/
def State.memWriteError (s : State) (t rid addr status : Nat) : State :=
  if status = 0 then s
  else
    let s1 := s.memViol t (O.DMA_ERR_RSP t) 6
    match s.cqOwning t rid addr with
    | some n => s1.failCq t n
    | none => (s.ringList t).foldl (fun a e =>
        if e.2.2.st = 1 ∧ setRid e.2.2.active = rid then a.workFailed t e.1 e.2.1 0x12 else a) s1

/-- HD_MEM_RDY changes (R72); the root MEM_RDY_LOSS ends when it is high (R603). -/
def State.memRdy (s : State) (t : Nat) (level : Bool) : State :=
  if level then
    (s.modTile t (fun x => { x with hdMemRdy := true, memLowFrom := none, memWaiting := false })).endRoots t (fun r => r.kind == 0x77)
  else s.modTile t (fun x => { x with hdMemRdy := false, memLowFrom := if x.hdMemRdy then some s.now else x.memLowFrom })

/-- MEM_RDY_LOSS: HD_MEM_RDY has been low for more than 1 ms while requests wait (R104); counted once for each time it is low. -/
def State.memRdyLoss (s : State) (t : Nat) : State :=
  match (s.tile t).memLowFrom with
  | some i =>
    if (s.tile t).memWaiting ∧ i + msU < s.now then (s.memViol t (O.MEM_RDY_LOSS t) 7).modTile t (fun x => { x with memLowFrom := none })
    else s
  | none => s

/-! Doorbells. -/

/-- A doorbell to a ring that is not RUNNING (R483). -/
def State.dbIdle (s : State) (t : Nat) : State := s.bump (O.DB_IDLE t)

/-- A doorbell that is not taken (R494). -/
def State.dbInvalid (s : State) (t : Nat) (rx : Bool) (ring : Nat) : State := (s.bump (O.DB_INVALID t)).raise t 0x60 (if rx then 4 else 3) ring

/-- DOORBELL_POST (R494). -/
def State.doorbellPost (s : State) (t : Nat) (rx : Bool) (ring tail : Nat) : State :=
  let r := s.ring t rx ring
  let d := idxDist tail r.head
  if r.st ≠ 1 then s.dbIdle t
  else if idxDist r.tail r.head ≤ d ∧ d ≤ r.size then s.modRing t rx ring (fun x => { x with tail := tail % 65536 })
  else s.dbInvalid t rx (ring % 2048)

/-- A descriptor that a retraction to `b` withdraws. -/
def Ring.behind (r : Ring) (b idx : Nat) : Bool := Nat.ble (idxDist b r.head) (idxDist idx r.head)

/-- Whether a retraction to `b` reaches the work in progress: a frame with a descriptor withdrawn, a copy's own, or the buffer in use (R506, R507). -/
def Ring.reaches (r : Ring) (b : Nat) (w : Work) : Bool :=
  match w.kind with
  | .frame => w.descs.any (fun e => r.behind b e.1)
  | _ => w.descs.getLast?.any (fun e => r.behind b e.1)

/-- What is posted from `b` onward and has not started is withdrawn (R506). -/
def Ring.withdraw (r : Ring) (b : Nat) : Ring :=
  { r with
    fetched := r.fetched.filter (fun e => !r.behind b e.1),
    fetching := r.fetching.map (fun e => (e.1, if r.behind b e.1 then 0 else min e.2 (idxDist b e.1))),
    fetchAt := if r.behind b r.fetchAt then b else r.fetchAt,
    cuts := r.cuts.filter (· != b) ++ [b] }

/-- Work without a burst in progress is stopped at once; with one, at the burst's end (R506, R508). Work that only awaits its read-back ends with the record that
is due. -/
def State.stopWork (s : State) (t : Nat) (rx : Bool) (ring b status : Nat) : State :=
  match (s.ring t rx ring).work with
  | none => s
  | some w =>
    let s1 := s.modRing t rx ring (fun r => { r with backTo := some b, work := some { w with stop := if w.due.isSome then 0 else status } })
    if w.burst.isSome ∨ w.due.isSome then s1 else (s1.dropWork w).endWork t rx ring w (w.record rx ring status) w.count

/-- A taken retraction to `b`, with the status its records carry (R506 to R508). -/
def State.retract (s : State) (t : Nat) (rx : Bool) (ring b status : Nat) : State :=
  let r := s.ring t rx ring
  let s1 := s.modRing t rx ring (fun x => x.withdraw b)
  match r.work with
  | some w =>
    if r.reaches b w then s1.stopWork t rx ring b status
    else s1.modRing t rx ring (fun x => { x with tail := b })
  | none => s1.modRing t rx ring (fun x => { x with tail := b })

/-- DOORBELL_RETRACT (R506). -/
def State.doorbellRetract (s : State) (t : Nat) (rx : Bool) (ring tail : Nat) : State :=
  let r := s.ring t rx ring
  if r.st ≠ 1 then s.dbIdle t
  else if idxDist tail r.head ≤ idxDist r.tail r.head then s.retract t rx ring (tail % 65536) 2
  else s.dbInvalid t rx (ring % 2048)

/-! Ring commands. -/

/-- The frames of a receive ring's queue are discarded and counted (R484). -/
def State.rxFlush (s : State) (t ring : Nat) : State :=
  let k := 2048 * t + ring
  let l := tget [] s.ringQueues k
  l.foldl (fun a e => (a.bump (O.RX_FLUSH t)).lose e.1 e.2 6) { s with ringQueues := tput [] s.ringQueues k [] }

/-- RESET applied to a STOPPED or FAILED ring (R484, R485). -/
def State.resetRing (s : State) (t : Nat) (rx : Bool) (ring : Nat) : State :=
  let s1 := (s.killReads t rx ring).modRing t rx ring (fun r => { r with
    st := 0, fail := 0, head := 0, tail := 0, fetched := [], fetchAt := 0, fetching := none, work := none, abort := false, hadWork := false,
    resetHeld := false, backTo := none, cuts := [], uncovered := none, deficit := 0 })
  if rx then s1.rxFlush t ring else s1

/-- The refusal of a RING_CFG value (R521): RESERVED_ENC, RANGE, or 0. `rx` tells the kind of the ring. -/
def ringCfgCheck (rx : Bool) (v : Nat) : Nat :=
  let size := octets v 8 2
  let buf := octets v 12 2
  if octet v 11 / 2 ≠ 0 ∨ octets v 14 2 ≠ 0 then 0x06
  else if octets v 0 8 % 4096 ≠ 0 ∨ size < 64 ∨ 32768 < size ∨ !isPow2 size ∨ 15 < octet v 10 then 0x05
  else if rx then (if buf < 256 ∨ 16384 < buf ∨ buf % 256 ≠ 0 then 0x05 else 0)
  else if buf ≠ 0 then 0x05 else 0

/-- The refusal of a RING_SHADOW value (R521). FENCE_LOCK belongs to transmit rings. -/
def ringShadowCheck (v : Nat) : Nat :=
  if bit (octets v 6 2) 14 ∨ octets v 8 8 ≠ 0 then 0x06
  else if 1023 < octets v 2 2 ∨ octets v 4 2 = 0 ∨ 256 < octets v 4 2 then 0x05 else 0

/-- The refusal of a CQ_CFG value (R522). -/
def cqCfgCheck (v : Nat) : Nat :=
  let size := octets v 8 4
  if octet v 14 / 2 ≠ 0 ∨ octet v 15 ≠ 0 then 0x06
  else if octets v 0 8 % 4096 ≠ 0 ∨ size < 64 ∨ 65536 < size ∨ !isPow2 size ∨ 10000 < octets v 0x1C 4 then 0x05 else 0

/-- The records a RUNNING ring may have outstanding in its queue (R484). -/
def ringShare (rx : Bool) (r : Ring) : Nat := if rx then r.size + 1 else 2 * r.size + 1

/-- The load on a queue of the RUNNING rings bound to it, one of them left out. -/
def State.cqLoad (s : State) (t q : Nat) (rx : Bool) (ring : Nat) : Nat :=
  ((s.ringList t).filter (fun e => e.2.2.st == 1 && setCq e.2.2.active == q && !(e.1 == rx && e.2.1 == ring))).foldl (fun a e => a + ringShare e.1 e.2.2) 0

/-- A ring may be bound to a queue (R484). -/
def State.cqFits (s : State) (t q : Nat) (rx : Bool) (ring : Nat) : Bool :=
  Nat.ble (s.cqLoad t q rx ring + ringShare rx (s.ring t rx ring)) (s.cq t q).size

/-- RING_CTL = START (R484, R485): a refusal, or the state after it. -/
def State.ringStart (s : State) (t : Nat) (rx : Bool) (ring : Nat) : Nat × State :=
  let r := s.ring t rx ring
  let q := setCq r.active
  if r.st = 1 then (if r.abort then (0x0A, s) else (0, s))
  else if r.st = 2 then (0x09, s)
  else if (s.cq t q).st ≠ 1 ∨ ringCfgCheck rx r.cfg ≠ 0 ∨ !s.cqFits t q rx ring then (0x09, s)
  else (0, s.modRing t rx ring (fun x => { x with st := 1, bytes := 0, descs := 0, fetchAt := x.head, fetched := [], uncovered := none, cuts := [] }))

/-- RING_CTL = ABORT (R485, R508): handled as a retraction to HEAD; the ring stops when RING_ABORT_DONE comes. -/
def State.ringAbort (s : State) (t : Nat) (rx : Bool) (ring : Nat) : State :=
  let r := s.ring t rx ring
  if r.st ≠ 1 ∨ r.abort then s
  else (s.modRing t rx ring (fun x => { x with abort := true, hadWork := x.work.isSome })).retract t rx ring r.head 1

/-- RING_CTL = RESET (R485). -/
def State.ringReset (s : State) (t : Nat) (rx : Bool) (ring : Nat) : State :=
  let r := s.ring t rx ring
  if r.st ≠ 1 then s.resetRing t rx ring
  else (s.ringAbort t rx ring).modRing t rx ring (fun x => { x with resetHeld := true })

/-- RING_ABORT_DONE: no burst is in progress any more and the aborting ring stops (R508). -/
def State.abortDone (s : State) (t : Nat) (rx : Bool) (ring : Nat) : State :=
  let r := s.ring t rx ring
  if r.st ≠ 1 ∨ !r.abort ∨ r.work.isSome then s
  else
    let s1 := if r.hadWork then s
      else s.ringRecord t (setCq r.active) { status := 1, gen := r.activeGen, idx := idxAdd r.head 65535, rx := rx, ring := ring % 2048 }
    let s2 := s1.modRing t rx ring (fun x => { x with
      st := 0, abort := false, hadWork := false, tail := x.head, fetched := [], fetchAt := x.head, fetching := x.fetching.map (fun e => (e.1, 0)), backTo := none })
    if r.resetHeld then s2.resetRing t rx (ring % 2048) else s2

/-! Hand-over. -/

/-- RING_ARM = true (R509): a refusal, or the state after it. -/
def State.ringArm (s : State) (t : Nat) (rx : Bool) (ring : Nat) : Nat × State :=
  let r := s.ring t rx ring
  let q := setCq r.shadow
  if (s.cq t q).st ≠ 1 ∨ !s.cqFits t q rx ring then (0x09, s)
  else (0, s.modRing t rx ring (fun x => { x with armed := true, armedAt := s.now, shadowGen := (x.shadowGen + 1) % 2 ^ 32 }))

/-- The sample at a hand-over point; an arm of the same instant comes after it (R510, R511). -/
def State.handOver (s : State) (t : Nat) (rx : Bool) (ring : Nat) : State :=
  let r := s.ring t rx ring
  if !r.armed ∨ s.now ≤ r.armedAt then s
  else
    let s1 := match r.uncovered with
      | some (idx, bytes) =>
        if setCq r.shadow = setCq r.active then s
        else (s.ringRecord t (setCq r.active) { gen := r.activeGen, idx := idx, rx := rx, ring := ring % 2048, bytes := bytes }).modRing t rx ring
          (fun x => { x with uncovered := none })
      | none => s
    s1.modRing t rx ring (fun x => { x with active := x.shadow, activeGen := x.shadowGen, armed := false })

/-! Queue commands. -/

/-- CQ_CTL = ON (R519): an OFF queue begins with producer 0 and PHASE 1. A queue that is ON stays as it is; one that FAILED is turned off first. -/
def State.cqOn (s : State) (t n : Nat) : Nat × State :=
  let q := s.cq t n
  if q.st = 0 then (0, s.modCq t n (fun x => { x with st := 1, producer := 0, lastMsg := none, owed := false }))
  else if q.st = 1 then (0, s) else (0x09, s)

/-- CQ_CTL = OFF (R518): only when no RUNNING or FAILED ring is bound to the queue. -/
def State.cqOff (s : State) (t n : Nat) : Nat × State :=
  if (s.ringList t).any (fun e => e.2.2.st != 0 && setCq e.2.2.active == n) then (0x09, s)
  else (0, s.modCq t n (fun x => { x with st := 0, owed := false }))

/-! Status records. -/

/-- RING_STATUS (R521). -/
def Ring.status (r : Ring) : Bytes :=
  natLe r.st 1 ++ natLe r.fail 1 ++ natLe r.head 2 ++ natLe r.tail 2 ++ natLe (b2n r.armed) 1 ++ natLe 0 1 ++ natLe r.activeGen 4 ++ natLe r.shadowGen 4 ++
  natLe r.bytes 8 ++ natLe r.descs 8

/-- CQ_STATUS (R522). -/
def Cq.status (q : Cq) : Bytes := natLe q.st 1 ++ natLe 0 3 ++ natLe q.producer 4 ++ natLe q.records 8

end Sys2Proof.Machine
end

