-- ==== Sys2Proof/Machine/Stylus.lean ====
section
/-! DEFINITION. The Stylus engines (R482, R486 to R497, R500, R503, R510 to R515): fetching descriptors, choosing the next one by deficit round robin, transmit
frames, copies with and without a reshuffle program, and deliveries into receive rings. -/

namespace Sys2Proof.Machine

/-! Descriptor fetch. -/

/-- DESC_FETCH: up to 16 posted descriptors, not past the end of the ring nor a 4 KiB boundary (R67, R496). -/
def State.descFetch (s : State) (t : Nat) (rx : Bool) (ring tag : Nat) : State :=
  let r := s.ring t rx ring
  let posted := idxDist r.tail r.fetchAt
  let at1 := r.fetchAt % r.size
  let n := min (min posted 16) (min (r.size - at1) (128 - at1 % 128))
  if r.st ≠ 1 ∨ r.abort ∨ r.backTo.isSome ∨ r.fetching.isSome ∨ n = 0 then s
  else if !s.canRead t tag then s.memWait t
  else (s.issueRead t rx (ring % 2048) .fetch (r.base + 32 * at1) (32 * n) tag).modRing t rx ring (fun x => { x with
    fetching := some (x.fetchAt, n), fetchAt := idxAdd x.fetchAt n })

/-! What a transmit ring may start. -/

/-- KIND of a transmit descriptor (R487). -/
def descKind (d : Bytes) : Nat := byteAt d 0x0C / 64
/-- MORE. -/
def descMore (d : Bytes) : Bool := bit (byteAt d 0x0C) 5
/-- CMPL. -/
def descCmpl (d : Bytes) : Bool := bit (byteAt d 0x0C) 4

/-- The descriptors of the frame at the front of a ring: not all posted, whole, cut by a retraction (R507), or asking for a 17th (R488). -/
inductive Chain where
  | wait
  | whole (l : List (Nat × Bytes))
  | cut (l : List (Nat × Bytes))
  | tooMany (l : List (Nat × Bytes))
deriving DecidableEq, Repr

/-- The chain of a frame; a fuel of 16 is the most descriptors it may take (R488). -/
def chain (cuts : List Nat) : Nat → List (Nat × Bytes) → List (Nat × Bytes) → Chain
  | 0, _, acc => .tooMany acc
  | _ + 1, [], _ => .wait
  | n + 1, (i, d) :: rest, acc =>
    let l := acc ++ [(i, d)]
    if !descMore d then .whole l
    else if cuts.contains (idxAdd i 1) then .cut l
    else chain cuts n rest l

/-- The chain at the front of a ring. -/
def Ring.front (r : Ring) : Chain := chain r.cuts 16 r.fetched []

/-- The first descriptor of a frame holds no reserved encoding (R487). -/
def firstOk (d : Bytes) : Bool :=
  byteAt d 0x0D / 16 % 8 == 0 && byteAt d 0x0F == 0 && byteAt d 0x11 / 64 == 0 && leAt d 0x12 6 == 0 &&
    (!bit (byteAt d 0x0C) 1 || okTs64 (leAt d 0x18 8))

/-- A later descriptor of a frame holds nothing but its part (R488). -/
def laterOk (d : Bytes) : Bool := leAt d 0x0A 2 == 0 && byteAt d 0x0C % 16 == 0 && leNat (d.drop 0x0D) == 0

/-- The rules of R488 over a whole frame. -/
def frameOk (l : List (Nat × Bytes)) : Bool :=
  let n := partsLen l
  l.all (fun e => descKind e.2 == 0 && Nat.ble 1 (partLen e.2) && Nat.ble (partLen e.2) 16379) && firstOk (l.headD (0, [])).2 &&
    (l.drop 1).all (fun e => laterOk e.2) && Nat.ble 14 n && Nat.ble n 16379

/-- The sampled program of a copy: PROG 0 is a single run of its LEN bytes (R512). -/
def State.progOf (s : State) (t : Nat) (d : Bytes) : Nat :=
  let p := byteAt d 0x0D
  if p = 0 then setOctets (setOctets (setOctets (setOctets 0 1 1 1) 4 4 (copyLen d)) 8 4 1) 0x0C 4 1 + 256 ^ 0x14
  else if p ≤ 15 then s.obj (O.PROG t (p - 1)) else 0

/-- MODE, ESIZE, INNER and OUTER of a program (R520). -/
def progMode (v : Nat) : Nat := octet v 0
/-- ESIZE. -/
def progSize (v : Nat) : Nat := octet v 1
/-- INNER. -/
def progInner (v : Nat) : Nat := octets v 4 4
/-- OUTER. -/
def progOuter (v : Nat) : Nat := octets v 8 4
/-- A stride: 0 SRC_INNER, 1 SRC_OUTER, 2 DST_INNER, 3 DST_OUTER. -/
def progStride (v i : Nat) : Int := toS 32 (octets v (0x0C + 4 * i) 4)

/-- The refusal of a program record (R520): RESERVED_ENC, RANGE, or 0. -/
def progCheck (v : Nat) : Nat :=
  if octets v 2 2 ≠ 0 ∨ octets v 0x1C 4 ≠ 0 then 0x06
  else if 1 < progMode v ∨ progSize v = 0 ∨ 8 < progSize v ∨ progInner v = 0 ∨ 16777216 < progInner v ∨ progOuter v = 0 ∨ 16777216 < progOuter v then 0x05
  else 0

/-- The rules of a copy (R491, R512, R513, R515). -/
def copyOk (d : Bytes) (prog : Nat) : Bool :=
  let n := copyLen d
  let walk := progInner prog * progOuter prog
  let fits := if byteAt d 0x0D = 0 then true
    else Nat.ble (byteAt d 0x0D) 15 && n == walk * progSize prog && (progMode prog == 0 || walk % (8 * max 1 (progSize prog)) == 0)
  Nat.ble 1 n && Nat.ble n 16777216 && byteAt d 0x0C % 16 == 0 && !descMore d && leAt d 0x0E 2 / 2 == 0 && leAt d 0x18 8 == 0 && fits &&
    (!bit (byteAt d 0x0E) 0 || Nat.ble (leAt d 0 8 + n) 3920)

/-! Copies: the walk over source and destination (R512). -/

/-- The address of byte `n` of a walk: 0 source, 2 destination. -/
def walkAddr (base prog side n : Nat) : Nat :=
  let e := n / max 1 (progSize prog)
  let i := e / max 1 (progInner prog)
  let j := e % max 1 (progInner prog)
  (((base : Int) + (i : Int) * progStride prog (side + 1) + (j : Int) * progStride prog side + (n % max 1 (progSize prog) : Nat)) % 2 ^ 64).toNat

/-- The length of the run of consecutive addresses from byte `n` of a walk, to the end of its 512-byte block at most (R497, R512). -/
def runLen (base prog side total n : Nat) : Nat → Nat
  | 0 => 0
  | k + 1 =>
    let len := runLen base prog side total n k
    let a := walkAddr base prog side n
    if len = k ∧ n + k < total ∧ k < toBlock a ∧ (walkAddr base prog side (n + k) = a + k) then k + 1 else len

/-- A block of `w` elements of `w` bits turned: bit n of element k is bit k of element n (R513). -/
def turnBlock (esize : Nat) (bs : Bytes) : Bytes :=
  let w := 8 * esize
  let el := (List.range w).map (fun n => leAt bs (n * esize) esize)
  (List.range w).flatMap (fun k => natLe (ofBits ((List.range w).filter (fun n => bit (el.getD n 0) k))) esize)

/-- Bytes read are made ready to write: as they are, or block by block (R512, R513). -/
def readyBytes (prog : Nat) : Nat → Bytes → Bytes × Bytes
  | 0, raw => ([], raw)
  | n + 1, raw =>
    if progMode prog = 0 then (raw, [])
    else
      let block := 8 * progSize prog * progSize prog
      if block = 0 ∨ raw.length < block then ([], raw)
      else
        let r := readyBytes prog n (raw.drop block)
        (turnBlock (progSize prog) (raw.take block) ++ r.1, r.2)

/-- SRC, DST and LEN of a copy (R491). -/
def Work.first (w : Work) : Bytes := (w.descs.headD (0, [])).2

/-- The counter snapshot area of a tile's window, offsets 0x1000 to 0x1F4F (R73, R515). -/
def Window.snapArea (w : Window) : Bytes :=
  padTo (w.csVals.flatMap (fun v => natLe v 8)) 3840 ++ natLe w.csWrap 64 ++ natLe w.csTime 12 ++ natLe w.csTag 4

/-- The next burst of a copy begins (R497). -/
def State.copyBurst (s : State) (t ring tag : Nat) (w : Work) : State :=
  let d := w.first
  let len := runLen (leAt d 0 8) w.prog 0 (copyLen d) w.moved 512
  let s1 := s.evc t 8 (s.ring t false ring).engine 1
  let put := fun (a : State) => a.modRing t false ring (fun r => { r with work := some { w with burst := some len, got := none } })
  if bit (byteAt d 0x0E) 0 then put s1
  else put (s1.issueRead t false ring .data (walkAddr (leAt d 0 8) w.prog 0 w.moved) len tag)

/-- The bytes of a burst from the snapshot area, as the budget of DMA_SWEEP gave them; an offset outside the area has no stated value (R515, R594;
assumption 3). -/
def State.snapBytes (s : State) (t : Nat) (w : Work) (len : Nat) : Bytes × State :=
  let area := (s.tile t).win.snapArea
  let bytes := (List.range len).map (fun i =>
    let a := walkAddr (leAt w.first 0 8) w.prog 0 (w.moved + i)
    if a < 3920 then area.getD a 0 else BitVec.ofNat 8 (Config.freeValue (s.free + i)))
  (bytes, ({ s with free := s.free + len }).sweep t 4 (ceilDiv len 8))

/-- Ready bytes are written in walk order (R512): whole runs, and at the end of the copy or of a plain burst whatever is left. -/
def State.flushCopy (s : State) (t ring : Nat) (final : Bool) : Nat → Work → Work × State
  | 0, w => (w, s)
  | n + 1, w =>
    let d := w.first
    let dst := leAt d 0x10 8
    let run := runLen dst w.prog 2 (copyLen d) w.wrote 512
    if w.buf = [] ∨ run = 0 ∨ (w.buf.length < run ∧ !final) then (w, s)
    else
      let k := min run w.buf.length
      let a := walkAddr dst w.prog 2 w.wrote
      let s1 := (s.issueWrite t false ring a (w.buf.take k)).add (O.COPY_BYTES t) k
      let s2 := s1.modRing t false ring (fun r => { r with bytes := (r.bytes + k) % 2 ^ 64 })
      s2.flushCopy t ring final n { w with buf := w.buf.drop k, wrote := w.wrote + k, lastWrite := some (a + k - 1) }

/-! The start of a descriptor. -/

/-- Descriptors leave the list of those fetched and not started. -/
def Ring.started (r : Ring) (n : Nat) : Ring := { r with fetched := r.fetched.drop n }

/-- A descriptor or frame that breaks the rules is finished with DESC_ERR (R488, R512, R515). -/
def State.descErr (s : State) (t ring : Nat) (l : List (Nat × Bytes)) (frame : Bool) : State :=
  let r := s.ring t false ring
  let last := (l.getLastD (0, [])).1
  let d := (l.headD (0, [])).2
  let rec1 : Rec := { status := 3, gen := r.activeGen, idx := last, frameId := if frame then leAt d 0x0A 2 else 0, ring := ring,
                      residue := if frame then partsLen l else if descKind d = 1 then copyLen d else 0 }
  ((s.ringRecord t (setCq r.active) rec1).bump (O.DESC_ERRS t)).modRing t false ring (fun x => (x.started l.length).finish last l.length 0 true)

/-- A frame cut by a retraction is finished without sending anything; none of its descriptors started (R507). -/
def State.cutFrame (s : State) (t ring : Nat) (l : List (Nat × Bytes)) : State :=
  let r := s.ring t false ring
  let first := l.headD (0, [])
  let rec1 : Rec := { status := 2, gen := r.activeGen, idx := first.1, frameId := leAt first.2 0x0A 2, ring := ring, residue := partsLen l }
  (s.ringRecord t (setCq r.active) rec1).modRing t false ring (fun x => (x.started l.length).finish (l.getLastD (0, [])).1 l.length 0 true)

/-- The next burst of a transmit frame begins: a read inside the part in work (R489, R497). -/
def State.frameBurst (s : State) (t ring tag : Nat) (w : Work) : State :=
  let x := partAt w.descs w.moved 0
  let d := (w.descs.getD x.1 (0, [])).2
  let a := leAt d 0 8 + x.2
  let len := min (toBlock a) (partLen d - x.2)
  ((s.evc t 8 (s.ring t false ring).engine 1).issueRead t false ring .data a len tag).modRing t false ring (fun r => { r with
    work := some { w with burst := some len, got := none } })

/-- A transmit ring's engine starts its next descriptor, after the hand-over point (R487 to R491, R510). -/
def State.startTx (s0 : State) (t ring tag : Nat) : State :=
  let s := s0.handOver t false ring
  let r := s.ring t false ring
  match r.fetched with
  | [] => s
  | (i, d) :: _ =>
    let w : Work := { kind := .frame, descs := [(i, d)], gen := r.activeGen, cq := setCq r.active }
    let k := descKind d
    if k = 2 then
      let rec1 : Rec := { gen := r.activeGen, idx := i, ring := ring }
      let s1 := if descCmpl d then s.ringRecord t w.cq rec1 else s
      s1.modRing t false ring (fun x => (x.started 1).finish i 1 0 (descCmpl d))
    else if k = 3 then s.descErr t ring [(i, d)] false
    else if k = 1 then
      let prog := s.progOf t d
      if !copyOk d prog then s.descErr t ring [(i, d)] false
      else if !bit (byteAt d 0x0E) 0 && !s.canRead t tag then s0.memWait t
      else (s.modRing t false ring (fun x => x.started 1)).copyBurst t ring tag { w with kind := .copy, prog := prog }
    else match r.front with
      | .wait => s0
      | .cut l => s.cutFrame t ring l
      | .tooMany l => s.descErr t ring l true
      | .whole l =>
        if !frameOk l then s.descErr t ring l true
        else if !s.canRead t tag then s0.memWait t
        else (s.modRing t false ring (fun x => x.started l.length)).frameBurst t ring tag { w with descs := l }

/-! Transmit frames. -/

/-- The release records of a frame's descriptors with CMPL set, in order (R500). -/
def State.frameRecords (s : State) (t ring : Nat) (w : Work) : State :=
  w.descs.foldl (fun a e =>
    if descCmpl e.2 then a.ringRecord t w.cq { gen := w.gen, idx := e.1, frameId := w.frameId, ring := ring, bytes := partLen e.2 } else a) s

/-- What a transmit descriptor tells of its frame (R487, R490). -/
def Work.hostMeta (w : Work) (active : Nat) : HostMeta :=
  let d := w.first
  let c := byteAt d 0x0C
  { frameId := w.frameId, dstPort := byteAt d 0x0E, queue := byteAt d 0x0D % 16, launch := if bit c 1 then some (leAt d 0x18 8) else none,
    tsReq := bit c 2, csum := bit c 0, ptpCf := bit (byteAt d 0x0D) 7,
    fence := if setLock active then setFence active else leAt d 0x10 2 % 16384,
    desc := some ⟨(w.descs.headD (0, [])).1, w.gen, w.cq, bit c 3 || bit c 1⟩ }

/-- ENGINE_FRAME_OFFER: a staged frame is offered to the host feed: its fence, its release records, and the pipe (R32, R489, R499, R500). -/
def State.frameOffer (s : State) (t ring fid : Nat) : State :=
  let r := s.ring t false ring
  match r.work with
  | some w =>
    if w.kind ≠ .frame ∨ w.moved < partsLen w.descs ∨ w.burst.isSome ∨ !s.pipeOn t (r.engine / 8) ∨ r.st ≠ 1 then s
    else
      let last := w.descs.getLastD (0, [])
      let x := s.hostFrame (s.freshFid fid) (.engine t r.engine ring) w.buf (w.hostMeta r.active)
      if x.1 then
        let cov := descCmpl last.2
        (x.2.frameRecords t ring w).modRing t false ring (fun y => y.finish last.1 w.count (partLen last.2) cov)
      else x.2.endWork t false ring w { status := 4, gen := w.gen, idx := last.1, frameId := w.frameId, ring := ring, bytes := partLen last.2 } w.count
  | none => s

/-! Deliveries. -/

/-- A frame may be delivered into a receive ring: the descriptors it needs are posted (R493). -/
def State.rxReady (s : State) (t ring : Nat) : Bool :=
  let r := s.ring t true ring
  match tget [] s.ringQueues (2048 * t + ring) with
  | (fid, h) :: _ =>
    match s.both fid h with
    | some (c, f) =>
      let posted := idxDist r.tail r.head
      r.fetched != [] &&
        (r.cutThrough && Nat.ble (ceilDiv 16379 r.bufLen) posted || c.complete && Nat.ble (ceilDiv (c.bytes f).length r.bufLen) posted)
    | none => false
  | [] => false

/-- The part of a delivery that goes next: address and length; none when its buffer's descriptor is not fetched yet or the bytes are not there (R492, R497). The
descriptors used are those of the work; a further buffer comes from the front of those fetched. -/
def nextPart (r : Ring) (w : Work) (total : Nat) (whole : Bool) : Option (Nat × Nat × List (Nat × Bytes)) :=
  let k := w.moved / r.bufLen
  let off := w.moved % r.bufLen
  let used := if k < w.descs.length then some w.descs else r.fetched.head?.map (fun e => w.descs ++ [e])
  match used with
  | none => none
  | some l =>
    let a := leAt (l.getD k (0, [])).2 0 8 + off
    let len := min (min (toBlock a) (r.bufLen - off)) (total - w.moved)
    if !whole && Nat.ble total (w.moved + len) then none else some (a, len, l)

/-- The next burst of a delivery: its write is issued (R497); with the last, the frame has left its queue (R353). -/
def State.rxBurst (s : State) (t ring : Nat) (w : Work) : State :=
  let r := s.ring t true ring
  match s.both w.fid w.h with
  | none => s
  | some (c, f) =>
    let bs := c.bytes f
    match nextPart r w bs.length c.complete with
    | none => s
    | some (a, len, l) =>
      let fresh := l.length - w.descs.length
      let s0 := if bs.length ≤ w.moved + len then s.sojourn c else s
      ((s0.evc t 8 r.engine 1).issueWrite t true ring a (slice bs w.moved len)).modRing t true ring (fun x => { x.started fresh with
        bytes := (x.bytes + len) % 2 ^ 64,
        work := some { w with descs := l, moved := w.moved + len, burst := some len, lastWrite := some (a + len - 1) } })

/-- A frame starts delivery into a receive ring (R493, R510). -/
def State.startRx (s0 : State) (t ring : Nat) : State :=
  let k := 2048 * t + ring
  match tget [] s0.ringQueues k with
  | (fid, h) :: rest =>
    if !(s0.tile t).hdMemRdy then s0.memWait t
    else
      let s := s0.handOver t true ring
      let r := s.ring t true ring
      let w : Work := { kind := .deliver, descs := [], gen := r.activeGen, cq := setCq r.active, fid := fid, h := h }
      let s1 := ({ s with ringQueues := tput [] s.ringQueues k rest }).modCopy fid h (fun c => { c with place := .delivering })
      let begins := match s.both fid h with
        | some (c, f) => (nextPart r w (c.bytes f).length c.complete).isSome
        | none => false
      if begins then s1.rxBurst t ring w else s0
  | [] => s0

/-- A delivery has written its frame's last byte: the record, after a read-back (R498, R500, R503). -/
def State.rxDone (s : State) (t ring tag : Nat) (w : Work) (c : Copy) (f : Frame) : State :=
  let m := rxMeta f c
  let st := w.stand
  let rec1 : Rec := { status := if c.bad then 5 else 0, gen := w.gen, idx := st.1, rx := true, ring := ring, bytes := w.moved, residue := w.descs.length,
                      stamp := some (m.ts, m.tag), info := some m }
  if !s.canRead t tag then s.memWait t
  else (s.delivered w.fid w.h).endAfter t true ring w rec1 w.count tag

/-! The end of a burst. -/

/-- Work that was marked to stop ends at the end of its burst (R506, R508). -/
def State.burstStop (s : State) (t : Nat) (rx : Bool) (ring tag : Nat) (w : Work) : State :=
  let rec1 := w.record rx ring w.stop
  if w.lastWrite.isSome && w.kind != .frame then
    if s.canRead t tag then (s.dropWork w).endAfter t rx ring w rec1 w.count tag else s.memWait t
  else (s.dropWork w).endWork t rx ring w rec1 w.count

/-- The data of a burst is taken for a transmit frame (R489). -/
def State.frameEnd (s : State) (t ring tag : Nat) (w : Work) (data : Bytes) : State :=
  let w1 := { w with moved := w.moved + data.length, buf := w.buf ++ data, burst := none, got := none }
  let s1 := s.modRing t false ring (fun r => { r with bytes := (r.bytes + data.length) % 2 ^ 64, work := some w1 })
  if w.stop ≠ 0 then s1.burstStop t false ring tag w1
  else if partsLen w.descs ≤ w1.moved then s1
  else if s.canRead t tag then s1.frameBurst t ring tag w1
  else s.memWait t

/-- The data of a burst is taken for a copy, and its writes are issued (R497, R512). A burst that a stop waits for ends when nothing it read is left. -/
def State.copyEnd (s : State) (t ring tag : Nat) (w : Work) (data : Bytes) : State :=
  let total := copyLen w.first
  let moved := w.moved + data.length
  let r := readyBytes w.prog (data.length + 64) (w.raw ++ data)
  let final := moved = total ∨ byteAt w.first 0x0D = 0
  let w1 := { w with moved := moved, raw := r.2, buf := w.buf ++ r.1, burst := none, got := none }
  let x := s.flushCopy t ring final (total + 1) w1
  let w2 := x.1
  let s1 := x.2.modRing t false ring (fun y => { y with work := some w2 })
  let idx := (w.descs.headD (0, [])).1
  if w.stop ≠ 0 ∧ w2.buf = [] ∧ w2.raw = [] then (if s.canRead t tag then s1.burstStop t false ring tag w2 else s.memWait t)
  else if moved = total then
    if !descCmpl w.first then s1.modRing t false ring (fun y => y.finish idx 1 total false)
    else if s.canRead t tag then s1.endAfter t false ring w2 { gen := w.gen, idx := idx, ring := ring, bytes := w2.wrote } 1 tag
    else s.memWait t
  else if bit (byteAt w.first 0x0E) 0 ∨ s.canRead t tag then s1.copyBurst t ring tag w2
  else s.memWait t

/-- A cell of the frame that a receive ring delivers fails its CRC (R587). The event names the AFI channel of the engine's pipe, since its table names no ring
(DESIGN CHOICE, assumption 74). -/
def State.ringCellFails (s : State) (t : Nat) (rx : Bool) (ring : Nat) : State :=
  match rx, (s.ring t true ring).work with
  | true, some w => s.cellFails w.fid t 9 ((s.ring t true ring).engine / 8)
  | _, _ => s

/-- A burst of a delivery has ended (R497, R500, R508). -/
def State.rxEnd (s : State) (t ring tag : Nat) (w : Work) : State :=
  match s.both w.fid w.h with
  | none => s.modRing t true ring (fun r => { r with work := none })
  | some (c, f) =>
    if w.stop ≠ 0 then s.burstStop t true ring tag w
    else if c.complete ∧ (c.bytes f).length ≤ w.moved ∨ c.bad then s.rxDone t ring tag w c f
    else if (s.tile t).hdMemRdy then s.rxBurst t ring w else s.memWait t

/-- BURST_END: the burst in progress ends, and the engine continues the descriptor or finishes it (R497). -/
def State.burstEnd (s : State) (t : Nat) (rx : Bool) (ring tag : Nat) : State :=
  match (s.ring t rx ring).work with
  | some w =>
    match w.burst, w.kind with
    | some _, .deliver => s.rxEnd t ring tag w
    | some len, .copy =>
      if !(s.tile t).hdMemRdy then s.memWait t
      else if bit (byteAt w.first 0x0E) 0 then
        let x := s.snapBytes t w len
        x.2.copyEnd t ring tag w x.1
      else match w.got with
        | some data => s.copyEnd t ring tag w data
        | none => s
    | some _, .frame =>
      match w.got with
      | some data => s.frameEnd t ring tag w data
      | none => s
    | none, _ => s
  | none => s

/-! Deficit round robin (R486). -/

/-- The bytes a ring could start now; none when it has nothing to start or is at work. -/
def State.workOf (s : State) (t : Nat) (rx : Bool) (ring : Nat) (r : Ring) : Option Nat :=
  if r.st ≠ 1 ∨ r.abort ∨ r.work.isSome then none
  else if rx then
    if s.rxReady t ring then
      ((tget [] s.ringQueues (2048 * t + ring)).head?.bind (fun e => s.both e.1 e.2)).map (fun x => (x.1.bytes x.2).length)
    else none
  else match r.fetched with
    | [] => none
    | (_, d) :: _ =>
      if descKind d = 1 then some (copyLen d)
      else if descKind d ≠ 0 then some 0
      else match r.front with
        | .wait => none
        | .whole l => some (partsLen l)
        | _ => some 0

/-- A ring that an engine may choose: kind, number, cost, deficit, quantum, and its place after the ring served last. -/
structure Turn where
  rx   : Bool
  ring : Nat
  cost : Nat
  deficit : Nat
  quantum : Nat
  place : Nat
deriving DecidableEq, Repr

/-- The rings of an engine that have something to start, with their places in the round. -/
def State.turns (s : State) (t e : Nat) : List Turn :=
  let last := tget 0 s.engineAt (16 * t + e)
  (s.ringList t).filterMap (fun x =>
    if x.2.2.engine ≠ e then none
    else (s.workOf t x.1 x.2.1 x.2.2).map (fun c =>
      let key := (if x.1 then 2048 else 0) + x.2.1
      ⟨x.1, x.2.1, c, x.2.2.deficit, setWeight x.2.2.active * 512, (key + 4096 - last) % 4096⟩))

/-- The visits a ring needs until its deficit covers its cost. -/
def Turn.visits (x : Turn) : Nat := max 1 (ceilDiv (x.cost - x.deficit) x.quantum)

/-- The turn that comes first: the ring served last goes on while its deficit lasts; otherwise the fewest visits, then the place. -/
def pickTurn (last : Nat) (l : List Turn) : Option (Turn × Nat) :=
  match l.find? (fun x => (if x.rx then 2048 else 0) + x.ring + 1 == last && Nat.ble x.cost x.deficit && x.cost != 0) with
  | some x => some (x, 0)
  | none => l.foldl (fun (a : Option (Turn × Nat)) x =>
      match a with
      | none => some (x, x.visits)
      | some b => if x.visits < b.2 ∨ x.visits = b.2 ∧ x.place < b.1.place then some (x, x.visits) else some b) none

/-- The deficits after a turn is chosen. -/
def State.takeTurn (s : State) (t e : Nat) (l : List Turn) (x : Turn) (n : Nat) : State :=
  let s1 := l.foldl (fun a y =>
    let v := if n = 0 then 0 else if y.place ≤ x.place then n else n - 1
    a.modRing t y.rx y.ring (fun r => { r with deficit := r.deficit + v * y.quantum })) s
  let idle := (s.ringList t).filter (fun z => z.2.2.engine == e && z.2.2.work.isNone && !l.any (fun y => y.rx == z.1 && y.ring == z.2.1))
  let s2 := idle.foldl (fun a z => a.modRing t z.1 z.2.1 (fun r => { r with deficit := 0 })) s1
  ({ s2 with engineAt := tput 0 s2.engineAt (16 * t + e) ((if x.rx then 2048 else 0) + x.ring + 1) }).modRing t x.rx x.ring
    (fun r => { r with deficit := r.deficit - x.cost })

/-- A burst of the engine is in progress in a direction: reads of frames and copies, or writes of deliveries and copies (R486). -/
def State.engineBusy (s : State) (t e : Nat) (write : Bool) : Bool :=
  (s.ringList t).any (fun z => z.2.2.engine == e && (match z.2.2.work with
    | some w => w.burst.isSome && (w.kind == .copy || (w.kind == .deliver) == write)
    | none => false))

/-- The bytes of the frames an engine is staging, or holds staged until they are wholly in their pipe (R32, R489). -/
def State.staging (s : State) (t e : Nat) : Nat :=
  let reading := (s.ringList t).map (fun z => match z.2.2.work with
    | some w => if z.2.2.engine = e ∧ w.kind = .frame then partsLen w.descs else 0
    | none => 0)
  let offered := s.frames.map (fun z => match z.2 with
    | some f => match f.src with
      | .engine u k _ => if u = t ∧ k = e ∧ f.pass = 0 ∧ !f.lastSeg ∧ !f.bad then f.data.length else 0
      | _ => 0
    | none => 0)
  (reading ++ offered).foldl (· + ·) 0

/-- The kind of the descriptor at the front of a transmit ring. -/
def Ring.frontKind (r : Ring) : Nat := descKind (r.fetched.headD (0, [])).2

/-- The engine may begin what a turn names: no burst in its way, and for a frame room in the staging buffer of 32 KiB (R486, R489). -/
def State.mayBegin (s : State) (t e : Nat) (x : Turn) : Bool :=
  if x.rx then !s.engineBusy t e true
  else
    let k := (s.ring t false x.ring).frontKind
    !s.engineBusy t e false && (k != 1 || !s.engineBusy t e true) && (k != 0 || Nat.ble (s.staging t e + x.cost) 32768)

/-- The turn of an engine. -/
def State.engineTurn (s : State) (t e : Nat) : Option (Turn × Nat) := pickTurn (tget 0 s.engineAt (16 * t + e)) (s.turns t e)

/-- The chosen ring begins. -/
def State.beginTurn (s : State) (t e tag : Nat) (x : Turn) (n : Nat) : State :=
  let s1 := s.takeTurn t e (s.turns t e) x n
  let k := (s.ring t false x.ring).frontKind
  let reads := !x.rx && (k == 0 || (k == 1 && !bit (byteAt ((s.ring t false x.ring).fetched.headD (0, [])).2 0x0E) 0))
  if !s.mayBegin t e x then s
  else if reads && !s.canRead t tag then s.memWait t
  else if x.rx then s1.startRx t x.ring else s1.startTx t x.ring tag

/-- ENGINE_SCHEDULE: an engine starts the next descriptor by deficit round robin (R486). -/
def State.engineSchedule (s : State) (t e tag : Nat) : State :=
  if !s.dmaOn t then s
  else match s.engineTurn t (e % 16) with
    | some (x, n) => s.beginTurn t (e % 16) tag x n
    | none => s

/-- RX_DELIVERY_START: the engine's turn is a receive ring with enough descriptors, and its frame starts delivery (R486, R493). -/
def State.deliveryStart (s : State) (t ring : Nat) : State :=
  let e := (s.ring t true ring).engine
  match s.engineTurn t e with
  | some (x, n) => if x.rx ∧ x.ring = ring % 2048 ∧ s.dmaOn t then s.beginTurn t e 0 x n else s
  | none => s

/-- IDLE_HAND_OVER_POINT: a ring with no descriptor to start, or STOPPED (R510). -/
def State.idleHandOver (s : State) (t : Nat) (rx : Bool) (ring : Nat) : State :=
  let r := s.ring t rx ring
  if r.work.isSome ∨ r.st = 2 ∨ (s.workOf t rx (ring % 2048) r).isSome then s else s.handOver t rx ring

end Sys2Proof.Machine
end

