-- ==== Sys2Proof/Machine/Counters.lean ====
section
/-! DEFINITION. The counter unit (R523 to R535), the tenant counter pages (R540 to R543) and the proof store (R544 to R552). -/

namespace Sys2Proof.Machine

/-! Sources. -/

/-- A number inside a wide port, other than the port's first slot (R84, R527). -/
def State.insideWide (s : State) (p : Nat) : Bool :=
  match s.portOf p with
  | some o => o != p
  | none => false

/-- The counters of a source (R83, R527): 160 of a port slot, 64 event counters, none inside a wide port. -/
def State.sourceKeys (s : State) (t src : Nat) : List Nat :=
  if src = 18 then (List.range 64).map (O.EVC_VALUE t)
  else if s.insideWide (18 * t + src) then [] else (List.range 160).map (O.PCNT (18 * t + src))

/-- Counts that run with time are brought up to now before a source is read (R527). -/
def State.settleSource (s : State) (t src : Nat) : State := if src < 18 ∧ !s.insideWide (18 * t + src) then s.accountPort (18 * t + src) else s

/-! Event counters. -/

/-- Word positions that port segments took in a pipe's last cycle (R529): those that the commands of that cycle told of and, while a port frame is on its way
through the pipe, as many more as a free value gives (assumption 3). -/
def State.portSegments (s : State) (t k : Nat) : Nat × State :=
  let n := (s.word t k).before
  let moving := s.frames.any (fun e => match e.2 with
    | some g => g.laned && !g.lastSeg && !g.bad && g.slotNo.isSome && g.src.tile == t && g.src.pipe == k
    | none => false)
  if moving then (n + Config.freeValue s.free % (5 - n), { s with free := s.free + 1 }) else (n, s)

/-- The occupancy of a source, as COND OCC_ABOVE and OCC_SUM sample it (R529). -/
def State.occupancy (s : State) (t source id : Nat) : Nat × State :=
  if source = 0x20 then ((s.qstat (65536 * t + (if id / 4096 = 0 then id else id / 4096 * 4096 + id % 4096))).depth, s)
  else if source = 0x21 then (131072 - s.obj (O.CELLS_FREE t), s)
  else if source = 0x22 then
    (if id = 3 then 131072 - s.obj (O.CELLS_FREE t) - s.obj (O.MIN_USED t) - s.obj (O.SHARED_USED t) - s.obj (O.HEADROOM_USED t) else s.obj (poolKey t id), s)
  else if source = 0x23 then (tget 0 (s.tile t).staged id, s)
  else if source = 0x24 then ((if (s.afi t id).up then 1024 - (s.afi t id).txCredits else 0), s)
  else if source = 0x25 then ((tget {} s.tsqs id).entries.length, s)
  else s.portSegments t id

/-- EVC_SAMPLE: the occupancy counters of a tile take a sample, one in each nanosecond of L (R529). -/
def State.evcSample (s0 : State) (t : Nat) : State :=
  if (s0.tile t).evcAt = s0.L / nsU + 1 then s0
  else
  let s := s0.modTile t (fun x => { x with evcAt := s0.L / nsU + 1 })
  s.each (List.range 64) (fun i a =>
    let c := a.evcCfg t i
    if c.1 < 2 then a
    else
      let x := a.occupancy t c.2.1 c.2.2.1
      if c.1 = 2 then (if c.2.2.2 < x.1 then x.2.count (O.EVC_VALUE t i) 1 else x.2) else x.2.count (O.EVC_VALUE t i) x.1)

/-- A SOURCE is an event source or an occupancy (R529). -/
def evcKind (source : Nat) : Nat := if 1 ≤ source ∧ source ≤ 9 then 1 else if 0x20 ≤ source ∧ source ≤ 0x26 then 2 else 0

/-- A SOURCE_ID names a unit of the tile, or the whole tile where the table allows it (R529, R530). -/
def evcIdOk (t source id : Nat) : Bool :=
  let port := Nat.ble (18 * t) id && Nat.blt id (18 * t + 18)
  let queue := (id / 4096 == 0 && Nat.blt id 288) || (id / 4096 == 1 && Nat.blt (id % 4096) 2) || (id / 4096 == 2 && Nat.blt (id % 4096) 2048)
  if source = 1 ∨ source = 2 ∨ source = 0x25 then port
  else if source = 3 ∨ source = 4 ∨ source = 0x24 ∨ source = 0x26 then Nat.blt id 2
  else if source = 5 then queue || id == 0xFFFF
  else if source = 6 ∨ source = 7 ∨ source = 0x23 then Nat.blt id 3
  else if source = 8 then Nat.blt id 16 || id == 0xFFFF
  else if source = 0x20 then queue
  else if source = 0x22 then Nat.blt id 4
  else id == 0xFFFF

/-- The refusal of an EVC_CFG value by itself (R530): RESERVED_ENC, RANGE, or 0. -/
def evcCheck (v : Nat) : Nat :=
  let cond := octet v 0
  let source := octet v 1
  if octets v 8 8 ≠ 0 ∨ 3 < cond ∨ (evcKind source = 0 ∧ (source ≠ 0 ∨ cond ≠ 0)) then 0x06
  else if cond = 1 ∧ evcKind source ≠ 1 ∨ 2 ≤ cond ∧ evcKind source ≠ 2 then 0x05
  else if octets v 4 4 ≠ 0 ∧ cond ≠ 2 then 0x05 else 0

/-- The refusal of an EVC_CFG value by its unit (R530). -/
def evcConflict (t v : Nat) : Bool := octet v 0 != 0 && !evcIdOk t (octet v 1) (octets v 2 2)

/-- EVC_CFG is written: the counter starts again at 0 with its flag clear (R530). -/
def State.evcWrite (s : State) (t n v : Nat) : State :=
  let s1 := (s.setObj (O.EVC_CFG t n) v).setObj (O.EVC_VALUE t n) 0
  { s1 with wraps := tput none s1.wraps (O.EVC_VALUE t n) none }

/-! Presets and snapshots. -/

/-- The refusal of a CNT_PRESET value (R534). R83 reserves SRC 19 to 31 in its five bits and R534 says nothing of 32 to 255; the model refuses every SRC above 18 as reserved
(DESIGN CHOICE, assumption 75). -/
def State.presetCheck (s : State) (t v : Nat) : Nat :=
  let n := octets v 2 2
  if 18 < octet v 0 ∨ octet v 1 ≠ 0 then 0x06
  else if n ≠ 0xFFFF ∧ (s.sourceKeys t (octet v 0)).length ≤ n then 0x05 else 0

/-- A counter that R527 reserves reads 0 (and keeps 0 through a preset). -/
def reservedCounter (src n : Nat) : Bool := Nat.ble src 17 && ((Nat.ble 27 n && Nat.ble n 31) || n == 39 || (Nat.ble 47 n && Nat.ble n 63))

/-- A counter's value is replaced, and a wrap of the same cycle is lost with the count (R534, R535). -/
def State.presetOne (s : State) (key v : Nat) : State :=
  let s1 := s.setObj key v
  if tget none s.wraps key = some s.now then { s1 with wraps := tput none s1.wraps key none } else s1

/-- CNT_PRESET (R534): a value is replaced; a wrap flag set in an earlier cycle stays. -/
def State.cntPreset (s0 : State) (t v : Nat) : State :=
  let s := s0.settleSource t (octet v 0)
  let keys := s.sourceKeys t (octet v 0)
  let n := octets v 2 2
  (keys.zipIdx.filter (fun e => (n == 0xFFFF || e.2 == n) && !reservedCounter (octet v 0) e.2)).foldl (fun a e => a.presetOne e.1 (octets v 4 8)) s

/-- CNT_SNAP: every counter of SRC and its flag are captured, and the flags cleared (R532, R533). A reserved SRC leaves the field as it was (R8). -/
def State.cntSnap (s0 : State) (t src : Nat) : State :=
  if !s0.up t then s0
  else if (s0.tile t).win.csBusy then s0
  else
    let src1 := if src ≤ 18 then src else (s0.tile t).win.csSrc
    let s := s0.settleSource t src1
    let keys := s.sourceKeys t src1
    let vals := keys.map s.obj
    let flags := ofBits ((List.range keys.length).filter (fun i => (tget none s.wraps (keys.getD i 0)).isSome))
    let s1 := keys.foldl (fun a k => { a with wraps := tput none a.wraps k none }) s
    s1.modWin t (fun w => { w with csSrc := src1, csBusy := true, csCap := some (vals, flags, ts96 (s.presented t), s.tagP t) })

/-- CNT_SNAP_DONE: the result area is filled (R84). -/
def State.cntSnapDone (s : State) (t : Nat) : State :=
  match (s.tile t).win.csCap with
  | some (vals, flags, time, tag) =>
    s.modWin t (fun w => { w with
      csSeq := (w.csSeq + 1) % 2 ^ 32, csCount := vals.length, csBusy := false, csDone := true, csVals := vals, csWrap := flags, csTime := time,
      csTag := tag, csCap := none })
  | none => s

/-! Counter pages. -/

/-- KIND, NUMBER and ITEM of a reference (R542). -/
def refKind (v : Nat) : Nat := v / 2 ^ 28
/-- NUMBER. -/
def refNum (v : Nat) : Nat := v / 256 % 2 ^ 20
/-- ITEM. -/
def refItem (v : Nat) : Nat := v % 256

/-- The refusal of one reference (R542): RESERVED_ENC, RANGE, CONFIG_CONFLICT, or 0. -/
def refCheck (v : Variant) (t r : Nat) : Nat :=
  let k := refKind r
  let n := refNum r
  let i := refItem r
  if 7 < k then 0x06
  else
    let ok := if k = 0 then n == 0 && i == 0
      else if k = 1 then Nat.blt n v.ports && Nat.blt i 160
      else if k = 2 then Nat.blt n 16384 && Nat.blt i 4
      else if k = 3 ∨ k = 4 then Nat.blt n 2048 && Nat.blt i 2
      else if k = 5 then (Nat.blt n 288 || (n / 4096 == 1 && Nat.blt (n % 4096) 2) || (n / 4096 == 2 && Nat.blt (n % 4096) 2048)) && Nat.blt i 7
      else if k = 6 then Nat.blt n 64 && i == 0
      else Nat.blt n v.ports && Nat.blt i 2
    if !ok then 0x05 else if (k = 1 ∨ k = 7) ∧ tileOf n ≠ t then 0x09 else 0

/-- The refusal of a PAGE_MAP part (R542): the lowest check that fails over its 126 references. -/
def mapCheck (v : Variant) (t w : Nat) : Nat :=
  let l := (List.range 126).map (fun i => refCheck v t (octets w (4 * i) 4))
  if l.contains 0x06 then 0x06 else if l.contains 0x05 then 0x05 else if l.contains 0x09 then 0x09 else 0

/-- The live value a reference names (R540, R542). -/
def State.refValue (s0 : State) (t r : Nat) : Nat :=
  let k := refKind r
  let n := refNum r
  let i := refItem r
  if k = 1 then
    let s := s0.settleSource t (n % 18)
    if s.insideWide n then 0 else s.obj (O.PCNT n i)
  else if k = 2 then
    let p := s0.policer t n
    if i = 0 then p.green else if i = 1 then p.yellow else if i = 2 then p.red else p.bytes
  else if k = 3 ∨ k = 4 then
    let x := s0.ring t (k == 4) n
    if i = 0 then x.bytes else x.descs
  else if k = 5 then
    let q := s0.qstat (65536 * t + n)
    if i < 3 then q.admitted.getD i 0 else if i < 6 then q.drop.getD (i - 3) 0 else q.headroom
  else if k = 6 then s0.obj (O.EVC_VALUE t n)
  else if k = 7 then octets (s0.obj (O.WIN_LAST n)) (if i = 0 then 0x10 else 0x18) 8
  else 0

/-- The reference of slot `i` of page `k` (R551). -/
def State.pageRef (s : State) (t k i : Nat) : Nat := octets (s.obj (O.PAGE_MAP t (4 * k + i / 126))) (4 * (i % 126)) 4

/-- The 8-byte word of a page at a word offset (R540, R541). -/
def State.pageWord (s : State) (t k w : Nat) : Nat :=
  if !s.flag (O.PAGE_GRANT t k) then 0
  else if w = 0 then k + t * 256 + 2 ^ 32
  else if w = 1 then tget 0 s.mapGen (8 * t + k)
  else if w < 8 then 0
  else s.refValue t (s.pageRef t k (w - 8))

/-- PAGE_GRANT is written (R543). -/
def State.pageGrant (s : State) (t k v : Nat) : State :=
  let s1 := s.setObj (O.PAGE_GRANT t k) v
  if v = 0 then s1 else { s1 with mapGen := tmod 0 s1.mapGen (8 * t + k) (fun n => (n + 1) % 2 ^ 32) }

/-- A write to the aperture is counted (R541). -/
def State.pageWrite (s : State) (t : Nat) : State := s.bump (O.PAGE_WRITES t)

/-! The proof store. -/

/-- The image of a copy of the live state, without CRC and COMMIT: the header and the sections (R544). -/
def Proof.sections (x : Proof) : Bytes :=
  (List.range 256).flatMap (fun i => natLe (tget 0 x.life i) 8) ++ (List.range 9728).flatMap (fun i => natLe (tget 0 x.hist i) 4) ++
    padTo ((x.log.take 64).flatMap (fun r => padTo r 32)) 2048

/-- Bytes 0x0000 to 0x0037 of an image (R544). -/
def PsImage.head (x : PsImage) (slot : Nat) : Bytes :=
  natLe 0x50530001 4 ++ natLe slot 1 ++ natLe x.cause 1 ++ natLe x.lc 1 ++ natLe x.tag 1 ++ natLe x.seq 8 ++ natLe x.wall 12 ++ natLe 43072 4 ++
    natLe 0 24

/-- A whole image of 43,072 bytes (R544). -/
def PsImage.bytes (x : PsImage) (slot : Nat) : Bytes :=
  let h := x.head slot
  let c := crc32 (h ++ x.copy.sections)
  h ++ natLe c 4 ++ natLe (0xFFFFFFFF - c) 4 ++ x.copy.sections

/-- A window of 256 bytes of a source (R550): a slot's image, or the read copy of the live state, whose header no rule states (assumption 3). A slot that holds
no valid image has no stated content. -/
def State.psWindow (s : State) (src win : Nat) : Bytes :=
  let free := fun (n : Nat) => (List.range n).map (fun i => BitVec.ofNat 8 (Config.freeValue (s.psCopyAt + i)))
  let all := if src = 8 then free 64 ++ s.psCopy.sections
    else match tget none s.psSlots src with
      | some x => x.bytes src
      | none => free 43072
  padTo (slice all (256 * win) 256) 256

/-- A fault record joins the log of the live state (R544). -/
def State.logFault (s : State) (r : Bytes) : State := { s with proof := { s.proof with log := (r :: s.proof.log).take 64 } }

/-- The histogram bin of a temperature in tenths of a degree (R546). -/
def tempBin (v : Int) : Nat := if v < -350 then 0 else if 1150 ≤ v then 31 else ((v + 400) / 50).toNat

/-- The histogram bin of an SNR in tenths of a decibel (R546). -/
def snrBin (v : Nat) : Nat := if v < 90 then 0 else if 390 ≤ v then 31 else v / 10 - 8

/-- The histogram bin of a second's corrected symbols (R546). -/
def fecBin (c : Nat) (unc : Bool) : Nat := if unc then 31 else if c = 0 then 0 else if 2 ^ 29 ≤ c then 30 else Nat.log2 c + 1

/-- A lane's samples of the second (R546). -/
def State.laneSample (s : State) (l : Nat) : State :=
  let x := s.lane l
  let s1 := if s.obj (O.LANE_STATE l) = 4 then
      let a := s.bin ((0xC40 - 0x840) / 4 + 32 * l + snrBin (s.obj (O.SNR_NOW l)))
      match s.portOf l with
      | some p => if s.rsFec p then a.bin ((0x5440 - 0x840) / 4 + 32 * l + fecBin x.fecSec x.uncSec) else a
      | none => a
    else s
  s1.modLane l (fun y => { y with fecSec := 0, uncSec := false })

/-- PS_SECOND_SAMPLE: an operating second of T0 ends (R545, R546). -/
def State.secondSample (s : State) : State :=
  if !s.passed s.psSampleAt secU then s
  else
  let s1 := { s with psSampleAt := s.now }.life 1 1
  let powered := s.tileList.filter (fun t => (s.tile t).vregReq && (s.tile t).vregRdy)
  let s2 := powered.foldl (fun a t => a.bin (32 * t + tempBin (a.objS 32 (O.TILE_TEMP t)))) s1
  let lanes := List.range s.variant.ports
  let n := powered.length + (lanes.filter (fun l => s.obj (O.LANE_STATE l) == 4)).length * 2
  (lanes.foldl (fun a l => a.laneSample l) s2).sweep 0 1 n

/-- A checkpoint's copy is taken (R548). -/
def State.takeCheckpoint (s : State) (cause : Nat) : State :=
  let img : PsImage := ⟨cause, s.obj O.LC_STATE, s.tagP 0, s.obj O.PS_SEQ + 1, ts96 (s.presented 0), s.proof⟩
  let s1 := { s with psNow := some img, psLastAt := s.now, psHostAt := if cause = 2 then some s.now else s.psHostAt }
  let worn := Nat.blt (8 - popcount 8 (s.obj O.PS_BAD_SLOTS)) 2
  let s2 := s1.sweep 0 3 5384
  if worn then s2.raise 0 0x07 0 6 else s2

/-- A checkpoint for a cause: now, or as soon as the one in progress completes (R547). -/
def State.checkpoint (s : State) (cause : Nat) : State :=
  if s.psNow.isSome then { s with psWait := s.psWait ++ [cause] } else s.takeCheckpoint cause

/-- PS_CHECKPOINT = true: a host request, held for 15 minutes after the previous one, which may itself still wait (R547). -/
def State.hostCheckpoint (s : State) : State :=
  if s.psWait.contains 2 then { s with psHeld := true }
  else match s.psHostAt with
  | some i => if s.now < i + 900 * secU then { s with psHeld := true } else s.checkpoint 2
  | none => s.checkpoint 2

/-- PS_HOLD_EXPIRY: a held host request is taken (R547). -/
def State.psHoldExpiry (s : State) : State :=
  match s.psHostAt with
  | some i => if s.psHeld ∧ i + 900 * secU ≤ s.now then { s with psHeld := false }.checkpoint 2 else s
  | none => s

/-- PS_PERIODIC: 900 s of operating time after the previous checkpoint (R547). -/
def State.psPeriodic (s : State) : State := if s.passed s.psLastAt (900 * secU) then s.checkpoint 0 else s

/-- The slot after another, skipping those marked bad; none when all are (R548). -/
def State.nextSlot (s : State) (k : Nat) : Option Nat :=
  ((List.range 8).map (fun i => (k + 1 + i) % 8)).find? (fun i => !bit (s.obj O.PS_BAD_SLOTS) i)

/-- The valid image with the highest SEQ, with its slot (R549). -/
def State.newestImage (s : State) : Option (Nat × PsImage) :=
  s.psSlots.foldl (fun (a : Option (Nat × PsImage)) e =>
    match e.2, a with
    | some x, some y => if y.2.seq < x.seq then some (e.1, x) else a
    | some x, none => some (e.1, x)
    | none, _ => a) none

/-- PS_LATEST and PS_SEQ name the newest valid image (R552). -/
def State.showLatest (s : State) : State :=
  match s.newestImage with
  | some (k, x) => (s.setObj O.PS_LATEST k).setObj O.PS_SEQ x.seq
  | none => (s.setObj O.PS_LATEST 0xFF).setObj O.PS_SEQ 0

/-- The image stands in the slot after `k` (R548). -/
def State.psStore (s : State) (img : PsImage) (k : Nat) : State :=
  match s.nextSlot k with
  | none => s
  | some j => { s with psSlots := tput none s.psSlots j (some img) }.showLatest

/-- The slot after `k` failed twice and is marked bad (R548). -/
def State.psBad (s : State) (j : Nat) : State := ({ s with psSlots := tput none s.psSlots j none }.showLatest.setObjBit O.PS_BAD_SLOTS j true).life 18 1

/-- The image is written to slots in turn until one passes its read-back; the list tells for each slot tried whether it failed twice (R548). -/
def State.psWrite (img : PsImage) : List Bool → Nat → State → State
  | [], k, s => s.psStore img k
  | false :: _, k, s => s.psStore img k
  | true :: rest, k, s =>
    match s.nextSlot k with
    | none => s
    | some j => State.psWrite img rest j (s.psBad j)

/-- The slot that the next image follows: that of the newest valid image, or the one before slot 0. -/
def State.psFrom (s : State) : Nat := if s.obj O.PS_LATEST = 0xFF then 7 else s.obj O.PS_LATEST

/-- A reset ends a checkpoint in progress: what stood in the slot being written is lost, unless the writing had not begun (R548, R549; a free value tells). -/
def State.psCut (s : State) : State :=
  match s.psNow, s.nextSlot s.psFrom with
  | some _, some j =>
    let s1 := { s with psNow := none, free := s.free + 1 }
    if Config.freeValue s.free % 2 = 1 then { s1 with psSlots := tput none s1.psSlots j none } else s1
  | _, _ => { s with psNow := none }

/-- PS_CHECKPOINT_DONE (R548); the next checkpoint that waits is taken (R547). -/
def State.psDone (s : State) (bad : List Bool) : State :=
  match s.psNow with
  | none => s
  | some img =>
    let s1 := { State.psWrite img bad s.psFrom s with psNow := none }
    match s1.psWait with
    | c :: rest => { s1 with psWait := rest }.takeCheckpoint c
    | [] => s1

/-- The live state at reset release of T0 (R549), with the counts made while it was not loaded (R545). -/
def State.psLoad (s : State) : State :=
  let s1 := match s.newestImage with
    | some (_, x) => { s with proof := x.copy }.showLatest
    | none => { s with proof := {} }.showLatest.raise 0 0x06 0 6
  { s.lifeOwed.foldl (fun a e => a.life e.1 e.2) s1 with lifeOwed := [], psLastAt := s.now, psSampleAt := s.now }

/-- The refusal of a PS_SEL value (R550): its reserved bits, and a source above 8. -/
def psSelCheck (v : Nat) : Nat := if v % 256 ≠ 0 ∨ v / 2 ^ 20 ≠ 0 then 0x06 else if 8 < v / 2 ^ 16 then 0x05 else 0

/-- PS_SEL names source 8 with window 0: the live state is copied (R550, R594). -/
def State.psSelect (s : State) (v : Nat) : State :=
  if v / 256 = 0x800 then ({ s with psCopy := s.proof, psCopyAt := s.free, free := s.free + 64 }).sweep 0 1 5376 else s

end Sys2Proof.Machine
end

