-- ==== Sys2Proof/Machine/Fabric.lean ====
section
/-! DEFINITION. Col links and routes (R35 to R45, R641): route tables, staging buffers, and a link's training, failure and return. -/

namespace Sys2Proof.Machine

/-- COL_Ck_STATE: 0 ABSENT, 1 DOWN, 2 TRAINING, 3 UP, 4 FENCED (R45). -/
def State.col (s : State) (t k : Nat) : Nat := s.obj (colKey t k)

/-- Both ends of a col link enter a state (R45). -/
def State.setCol (s : State) (t k st : Nat) : State :=
  s.each [t, neighbour t k] (fun x a => (a.setObj (colKey x k) st).modTile x (fun y => { y with linkAt := tput 0 y.linkAt k a.now }))

/-- A col link is UP. -/
def State.colUp (s : State) (t k : Nat) : Bool := s.col t k == 3

/-- The tiles reached from a set over one more link that is UP. -/
def State.spread (s : State) (l : List Nat) : List Nat :=
  (l ++ l.flatMap (fun t => ((List.range s.variant.colLinks).filter (s.colUp t)).map (neighbour t))).eraseDups

/-- Tiles within `n` hops of a tile over links that are UP. -/
def State.within (s : State) (t : Nat) : Nat → List Nat
  | 0 => [t]
  | n + 1 => s.spread (s.within t n)

/-- Hops over links that are UP; none without a path (R38). -/
def State.hopsUp (s : State) (t d : Nat) : Option Nat := (List.range 8).find? (fun n => (s.within t n).contains d)

/-- The route entry of a destination in AUTO mode (R38). -/
def State.autoRoute (s : State) (t d : Nat) : Nat :=
  if d = t ∨ s.variant.tiles ≤ d then 0
  else
    let best := (List.range s.variant.colLinks).foldl (fun (a : Option (Nat × Nat)) k =>
      if !s.colUp t k then a
      else match s.hopsUp (neighbour t k) d, a with
        | none, _ => a
        | some h, none => some (k, h + 1)
        | some h, some b => if h + 1 < b.2 then some (k, h + 1) else a) none
    match best with
    | some b => if 3 < b.2 then 0 else b.1 + 1
    | none => 0

/-- The route table of a tile in AUTO mode (R37, R38). -/
def State.autoTable (s : State) (t : Nat) : Nat := (List.range 8).foldl (fun a d => a + s.autoRoute t d * 4 ^ d) 0

/-- In AUTO mode a tile's table reflects the link states (R38, R40). -/
def State.routeRecompute (s : State) (t : Nat) : State :=
  if s.obj (O.ROUTE_MODE t) = 0 then s.setObj (O.ROUTE t) (s.autoTable t) else s

/-- The route entry of a destination tile. -/
def State.routeTo (s : State) (t d : Nat) : Nat := s.obj (O.ROUTE t) / 4 ^ d % 4

/-- The refusal of a ROUTE value (R41): RANGE, or 0. -/
def routeCheck (v : Variant) (t w : Nat) : Nat :=
  if (List.range 8).any (fun d => let c := w / 4 ^ d % 4; c != 0 && (d == t || v.tiles ≤ d || v.colLinks < c)) then 0x05 else 0

/-- Bytes staged for a col link (R42). -/
def State.stagedBytes (s : State) (t k : Nat) : Nat := tget 0 (s.tile t).staged k

/-- Bytes staged for a col link at the start of the cycle: space freed in the cycle is not free yet (R42). -/
def State.stagedAtStart (s : State) (t k : Nat) : Nat :=
  let x := tget (0, 0) (s.tile t).freed k
  s.stagedBytes t k + if x.1 = s.now then x.2 else 0

/-- A copy is dropped in the fabric. -/
def State.fabricDrop (s : State) (fid h key : Nat) : State := (s.bump key).lose fid h 6

/-- A copy stands at tile `t` on its way to another: it was made there, or the col link it is on leads there. -/
def inTransit (c : Copy) (f : Frame) (t : Nat) : Bool :=
  c.dst.tile != t && c.dst != .recirc &&
  (match c.place with
   | .arrived => f.src.tile == t
   | .link u k => neighbour u k == t
   | _ => false)

/-- A copy takes its place in the staging buffer of a col link, which holds all its bytes until the last has passed the link (R42, R43). -/
def State.stageOn (s : State) (t k fid h n : Nat) : State :=
  (s.modCopy fid h (fun x => { x with place := .link t k, path := x.path ++ [(t, k)], staged := x.staged ++ [(t, k)] })).modTile t (fun x =>
    { x with staged := tmod 0 x.staged k (· + n) })

/-- A copy is routed onward from a tile: over the col link its route names, if that is UP, the copy has hops left and the buffer has room (R36 to R42). -/
def State.forward (s : State) (t fid h : Nat) (c : Copy) (f : Frame) : State :=
  let e := s.routeTo t c.dst.tile
  if e = 0 ∨ !s.colUp t (e - 1) then s.fabricDrop fid h (O.UNREACH_DROP t)
  else if 3 ≤ c.path.length then s.fabricDrop fid h (O.HOP_DROP t)
  else if 262144 < s.stagedAtStart t (e - 1) + 16384 then (s.fabricDrop fid h (stageDropKey t (e - 1))).evc t 6 (e - 1) 1
  else s.stageOn t (e - 1) fid h (c.bytes f).length

/-- A frame's first segment arrives at the staging buffer of its next col link, in the order of its feed and queue (R36 to R44); `whole` tells that its last byte has
left the link it came over, as that of a frame of one segment has. A cell whose CRC fails on entry ends every copy of its frame (R587). -/
def State.linkFrameIn (s : State) (t fid h : Nat) (whole crcBad : Bool) : State :=
  match s.both fid h with
  | none => s
  | some (c, f) =>
    if !inTransit c f t ∨ !s.copyInTurn c f then s
    else
      let s1 := if whole || Nat.ble f.segments 1 then s.passAll fid h else s
      match c.place with
      | .link _ k => if crcBad then s1.cellFails fid t 7 k else s1.forward t fid h c f
      | _ => s1.forward t fid h c f

/-- The copies whose bytes are on a col link in one direction: staged for it, in transfer, or only partly past it (R40). -/
def State.onLink (s : State) (t k : Nat) : List (Nat × Nat) :=
  (s.copies.filter (fun e => match e.2 with
    | some c => c.staged.contains (t, k)
    | none => false)).map (fun e => (e.1 / 64, e.1 % 64))

/-- The frames of a col link are discarded or ended, and counted where they were sent (R40). -/
def State.flushLink (s : State) (t k : Nat) : State :=
  s.each [t, neighbour t k] (fun x a => (a.onLink x k).foldl (fun b c => ((b.bump (stageDropKey x k)).endCopy c.1 c.2)) a)

/-- A col link leaves service for a state (R40, R590). -/
def State.linkOut (s : State) (t k st : Nat) : State := (s.setCol t k st).flushLink t k

/-- COL_LINK_DOWN is raised by both tiles of a link (R599, R641). -/
def State.linkReport (s : State) (t k : Nat) : State := (s.raise t 0x33 7 k).raise (neighbour t k) 0x33 7 k

/-- A col link in service goes DOWN (R40, R641). -/
def State.linkDownCol (s : State) (t k : Nat) : State :=
  if s.colUp t k then (s.linkOut t k 1).linkReport t k else s

/-- A col link that trains enters UP (R641). -/
def State.linkUpCol (s : State) (t k : Nat) : State := if s.col t k = 2 then s.setCol t k 3 else s

/-- The time since a col link's state began. -/
def State.linkFor (s : State) (t k len : Nat) : Bool := s.passed (tget 0 (s.tile t).linkAt k) len

/-- Training takes longer than 2 ms (R641). -/
def State.linkTrainTimeout (s : State) (t k : Nat) : State :=
  if s.col t k = 2 ∧ s.linkFor t k (2 * msU) then
    (((s.setCol t k 1).bump32 (O.COL_TRAIN_FAILS t)).bump32 (O.COL_TRAIN_FAILS (neighbour t k))).linkReport t k
  else s

/-- A tile has reached JOIN: it is in service, or in that step of its start (R637, R641). -/
def State.joined (s : State) (t : Nat) : Bool := s.runs t || (s.obj (O.TILE_STATE t) == 0 && s.obj (O.STARTUP_STEP t) == 6)

/-- Both ends of a col link have joined and have its domain on (R641). -/
def State.linkReady (s : State) (t k : Nat) : Bool :=
  s.joined t && s.joined (neighbour t k) && bit (s.obj (O.PD_ON t)) (50 + k) && bit (s.obj (O.PD_ON (neighbour t k))) (50 + k)

/-- A DOWN col link trains again after 1 s (R641). -/
def State.linkRetrain (s : State) (t k : Nat) : State :=
  if s.col t k = 1 ∧ s.linkFor t k secU ∧ s.linkReady t k then s.setCol t k 2 else s

/-- A col link that is DOWN and ready starts training (R641). -/
def State.linkStart (s : State) (t k : Nat) : State := if s.col t k = 1 ∧ s.linkReady t k then s.setCol t k 2 else s

/-- The col links of a tile that are DOWN and ready start training (R641). -/
def State.linksStart (s : State) (t : Nat) : State := s.each (List.range s.variant.colLinks) (fun k a => a.linkStart t k)

end Sys2Proof.Machine
end

