-- ==== Sys2Proof/Machine/Tiles.lean ====
section
/-! DEFINITION. What stops, loses and restarts in a tile (Power States and Wake, Integrity, Start-up): power domains, the STOPPING step, isolation, and the
reset of a tile, of T0's datapath and of the package. -/

namespace Sys2Proof.Machine

/-! Power domains. -/

/-- A power domain of a tile is on (R553). -/
def State.pd (s : State) (t d : Nat) : Bool := bit (s.obj (O.PD_ON t)) d

/-- A power domain of a tile is switched. -/
def State.setPd (s : State) (t d : Nat) (on : Bool) : State := s.setObjBit (O.PD_ON t) d on

/-- A port's lane domains and the domain of its slot are switched with its configuration (R555); a lane in deep rest keeps its domain (R177). The replica
of the slot starts or stops with it. -/
def State.portPower (s : State) (p : Nat) (on : Bool) : State :=
  let t := tileOf p
  let s1 := (s.lanesOf p).foldl (fun a l => if !on && a.resting l then a else a.setPd t (l % 18) on) s
  let s2 := s1.setPd t (18 + p % 18) on
  if on then s2.startReplica (8 + p) else s2.stopReplica (8 + p)

/-- The domains that CORE_PWR and BASIN_PWR ask for (R553, R556): bits of PD_ON. -/
def wantedDomains (v : Variant) (core basin : Nat) : List Nat :=
  (if bit core 2 then [38] else []) ++ ((List.range 8).filter (bit basin)).map (39 + ·) ++ (if bit core 3 then [47] else []) ++
    (if bit core 4 then [48] else []) ++ ((List.range v.colLinks).filter (fun k => bit core (5 + k))).map (50 + ·) ++
    ((List.range 2).filter (bit core)).map (36 + ·)

/-! What a domain loses. -/

/-- The frames of a queue of the tile are lost with the Burin that held the queue (R557). -/
def State.dropQueues (s : State) (t : Nat) : State :=
  let mine := s.copies.filter (fun e => match e.2 with
    | some c => (c.place == .queued || c.place == .selected || c.place == .arrived) && c.dst.tile == t
    | none => false)
  mine.foldl (fun a e => a.discardCopy (e.1 / 64) (e.1 % 64) 6) s

/-- The Burin of a tile loses its contents: queued frames, tags, shapers and hatch lists (R557). -/
def State.burinOff (s : State) (t : Nat) : State := (s.dropQueues t).each (portsOf t) (fun p a => (a.clearLists p).resetBurin p)

/-- The classifier of a tile loses its contents: its tables and policers return to their reset contents (R557). -/
def State.classifierOff (s : State) (t : Nat) : State :=
  let mine := fun (unit : Nat) (k : Nat) => k / unit == t
  ({ s with
    em := tput [] s.em t [], tc := tdrop (mine (2 * 16384 * 4)) s.tc, tcHits := tdrop (mine (2 * 16384)) s.tcHits,
    tcBad := tdrop (mine (2 * 16384)) s.tcBad, policers := tdrop (mine 16384) s.policers }).showTables t

/-- The DMA domain of a tile goes off (R557): both AFI_RDY signals are low. Its rings and queues are stopped and off, and what their engines held is lost; the
configuration written to them stays. -/
def State.afiOff (s : State) (t : Nat) : State :=
  s.each [0, 1] (fun ch a => (a.afiFall t ch false).modAfi t ch (fun x => { hdRdy := x.hdRdy }))

/-- Rings and completion queues of a tile keep only their configuration. -/
def State.ringsOff (s : State) (t : Nat) : State :=
  let r := s.rings.map (fun e => if e.1 / 4096 == t then (e.1, { cfg := e.2.cfg, active := e.2.active, shadow := e.2.shadow : Ring }) else e)
  let q := s.cqs.map (fun e => if e.1 / 1024 == t then (e.1, { cfg := e.2.cfg : Cq }) else e)
  { s with
    rings := r.filter (fun e => e.2 != {}), cqs := q.filter (fun e => e.2 != {}), engineAt := tdrop (fun k => k / 16 == t) s.engineAt }

/-- The DMA domain of a tile goes off. -/
def State.dmaOff (s : State) (t : Nat) : State := ((s.afiOff t).ringsOff t).modTile t (fun x => { x with reads := [], memWaiting := false })

/-- A domain switched off by CORE_PWR or BASIN_PWR loses its contents (R557). -/
def State.domainOff (s : State) (t d : Nat) : State :=
  let s1 := s.setPd t d false
  if d = 38 then s1.classifierOff t
  else if d = 47 then s1.burinOff t
  else if d = 48 then s1.dmaOff t
  else if 50 ≤ d ∧ d ≤ 52 then
    (if s1.colUp t (d - 50) then s1.linkDownCol t (d - 50) else if s1.col t (d - 50) = 2 then s1.setCol t (d - 50) 1 else s1)
  else s1

/-- A bank group of a tile is empty and asked to be off (R340, R557). -/
def State.groupOff (s : State) (t g : Nat) : State :=
  if bit (s.obj (O.BASIN_PWR t)) g || !s.pd t (39 + g) || !bit (s.obj (O.GROUPS_EMPTY t)) g then s else s.setPd t (39 + g) false

/-- The switches that CORE_PWR and BASIN_PWR ask for: those off at once, a bank group only when it is empty, those on in order (R557, R558). A pair that is not
complementary switches nothing (R584). -/
def State.switchDomains (s : State) (t : Nat) : State :=
  if !s.pairOk (.corePwr t) || !s.pairOk (.basinPwr t) then s.mismatch 0 5
  else
    let want := wantedDomains s.variant (s.obj (O.CORE_PWR t)) (s.obj (O.BASIN_PWR t))
    let off := [36, 37, 38, 47, 48, 50, 51, 52].filter (fun d => s.pd t d && !want.contains d)
    let s1 := off.foldl (fun a d => a.domainOff t d) s
    let s2 := s1.each (List.range 8) (fun g a => a.groupOff t g)
    s2.modTile t (fun x => { x with pdQueue := want.filter (fun d => !s2.pd t d) })

/-- A bank group of a tile is to go off and is not empty yet (R340, R557). -/
def State.offOwed (s : State) (t : Nat) : Bool := (List.range 8).any (fun g => s.pd t (39 + g) && !bit (s.obj (O.BASIN_PWR t)) g)

/-- DOMAIN_POWER_ON_DONE: the next domain of the tile is wiped and ready, once what goes off is off (R558). -/
def State.domainOn (s : State) (t d : Nat) : State :=
  let x := s.tile t
  if x.pdQueue.head? ≠ some d ∨ (x.pdAt ≠ 0 ∧ s.now < x.pdAt + 2 * usU) ∨ (s.runs t && s.offOwed t) then s
  else if !s.pairOk (.corePwr t) || !s.pairOk (.basinPwr t) then s.mismatch 0 5
  else
    let s1 := (s.setPd t d true).modTile t (fun y => { y with pdQueue := y.pdQueue.drop 1, pdAt := s.now })
    if 50 ≤ d then s1.linkStart t (d - 50) else s1

/-! Stopping. -/

/-- A port stops with its tile: a frame in transmission ends as a stomped frame, and its lanes go OFF; a change in progress is abandoned and counts
nowhere (R561, R580). -/
def State.stopPort (s : State) (p : Nat) : State :=
  if !s.portUp p then s
  else
    let s1 := (s.stompTx p).toDisabled p
    s1.each (s1.lanesOf p) (fun l a => (a.modLane l (fun x => { x with restPhase := .out, restHeld := none, pllTries := 0 })).setLane l 0)

/-- A RUNNING ring is aborted to its end, with its records written (R508, R561). -/
def State.abortNow (s : State) (t : Nat) (rx : Bool) (ring : Nat) : State :=
  if (s.ring t rx ring).st ≠ 1 then s
  else
    let s1 := s.ringAbort t rx ring
    let s2 := match (s1.ring t rx ring).work with
      | some w => (s1.dropWork w).endWork t rx ring w (w.record rx ring 1) w.count
      | none => s1
    s2.abortDone t rx ring

/-- A copy stands in a tile: in its Basin or a staging buffer of it, or on its way out of it. -/
def Copy.isAt (c : Copy) (t : Nat) : Bool :=
  match c.place with
  | .link x _ => x == t
  | _ => c.dst.tile == t

/-- A frame that entered Clemal in a tile that stops is over: its version count goes down, and what has not left the tile ends bad (R315, R561). -/
def State.cutOwn (s : State) (fid : Nat) (f : Frame) : State :=
  let s1 := if f.lastSeg then s else s.endFrame fid
  ((s1.modFrame fid (fun x => { x with ended := true, resolved := true, lastSeg := true, recirc := false })).land fid).tidy fid

/-- The frames of a tile that stops are discarded, counted in DORMANT_DISCARD (R561, R572, R590, R607). -/
def State.dropFrames (s : State) (t : Nat) (counted : Bool) : State :=
  let fids := s.frames.map (·.1)
  fids.foldl (fun a fid =>
    match a.frame fid with
    | none => a
    | some f =>
      let here := (a.copiesOf fid).filter (fun h => match a.copy fid h with
        | some c => c.isAt t
        | none => false)
      let b := if counted && !here.isEmpty then a.bump (O.DORMANT_DISCARD t) else a
      let c := here.foldl (fun x h => x.discardCopy fid h 6) b
      if f.src.tile = t then c.cutOwn fid f else c) s

/-- The col links of a tile leave service for a state: 1 DOWN, 4 FENCED (R561, R590). -/
def State.linksOut (s : State) (t st : Nat) : State :=
  s.each (List.range s.variant.colLinks) (fun k a =>
    if a.col t k = 0 ∨ a.col t k = 4 then a
    else if a.colUp t k then (a.linkOut t k st).linkReport t k else a.setCol t k st)

/-- What the STOPPING step does within a tile, with its col links left for a state (R561); a tile that leaves RUN takes no part in an etch that has not loaded it
(R310). -/
def State.stopWith (s : State) (t link : Nat) : State :=
  let s1 := s.each (portsOf t) (fun p a => a.stopPort p)
  let s2 := s1.afiOff t
  let s3 := (s2.ringList t).foldl (fun a e => a.abortNow t e.1 e.2.1) s2
  ((s3.dropFrames t true).linksOut t link).etchMiss t

/-- A tile stops: its bit in TILE_READY clears, and STOPPING begins (R561, R572, R607). -/
def State.stopTile (s : State) (t : Nat) : State :=
  if !s.runs t then s
  else ((s.setObj (O.TILE_PSTEP t) 1).stopWith t 1).modTile t (fun x => { x with stepAt := s.now })

/-- A tile is isolated (R590). -/
def State.isolate (s : State) (t : Nat) : State :=
  let s1 := (s.stopWith t 4).setObj (O.TILE_STATE t) 4
  (((s1.tileLife t 3).life 12 1).raise 0 0x04 10 t).checkpoint 3

/-! Resets. -/

/-- The objects that return to their defaults as a tile restarts: those it owns; of T0 alone, those of its datapath (R645, R646). -/
def restarts (v : Variant) (t key : Nat) : Bool :=
  match pageAt v (keyIndex key) with
  | none => false
  | some (p, i) =>
    match p.family with
    | .port => i / 18 == t
    | .tile => i == t && p.base != 0x1020 &&
        (t != 0 || !([0x1200, 0x1208, 0x1210, 0x1218, 0x1300, 0x7000, 0x7008, 0x7010, 0x7018].contains p.base))
    | _ => false

/-- What a tile keeps of itself through a reset: its inputs from the host die; T0 in a datapath reset also its control block (R646). -/
def Tile.wiped (x : Tile) (t0 : Bool) : Tile :=
  let a0 : Afi := { hdRdy := x.afi0.hdRdy }
  let a1 : Afi := { hdRdy := x.afi1.hdRdy }
  if t0 then { x with
    afi0 := a0, afi1 := a1, reads := [], memLowFrom := if x.hdMemRdy then none else some 0, memWaiting := false, limCredit := [], staged := [], pdQueue := [],
    scrubAt := 0, faults := [], isolateDue := false }
  else { afi0 := a0, afi1 := a1, hdMemRdy := x.hdMemRdy, memLowFrom := if x.hdMemRdy then none else some 0, linkAt := x.linkAt, updating := false }

/-- Everything a tile's datapath holds is gone. -/
def State.wipeTile (s : State) (t : Nat) : State :=
  let port := fun (k : Nat) => k / 18 == t
  let unit := fun (n : Nat) (k : Nat) => k / n == t
  let rep := fun (k : Nat) => (k / 4 == t && t != 0) || (8 ≤ k / 4 && (k / 4 - 8) / 18 == t)
  { s with
    ports := tdrop port s.ports, lanes := tdrop port s.lanes, replicas := tdrop rep s.replicas,
    commaTx := tdrop port s.commaTx, commaRx := tdrop port s.commaRx, tsqs := tdrop port s.tsqs, paths := tdrop port s.paths,
    windows := tdrop port s.windows, queues := tdrop (unit 288) s.queues, burins := tdrop port s.burins,
    words := tdrop (unit 2) s.words, bankAt := tput 0 s.bankAt t 0, bankUsed := tdrop (unit 64) s.bankUsed, rings := tdrop (unit 4096) s.rings, cqs := tdrop (unit 1024) s.cqs,
    engineAt := tdrop (unit 16) s.engineAt, qstats := tdrop (unit 65536) s.qstats, afiQueues := tdrop (unit 2) s.afiQueues,
    ringQueues := tdrop (unit 2048) s.ringQueues, policers := tdrop (unit 16384) s.policers, em := tput [] s.em t [],
    tc := tdrop (unit 131072) s.tc, tcHits := tdrop (unit 32768) s.tcHits, tcBad := tdrop (unit 32768) s.tcBad,
    inflight := tdrop (unit 4) s.inflight }

/-- The windows of a tile's ports begin again at the start of the default window that contains the present instant (R536, R539). -/
def State.freshWindows (s : State) (t : Nat) : State :=
  s.each (portsOf t) (fun p a => a.modWins p (fun w => { w with next := a.L / msU * msU }))

/-- A tile's objects and contents go; of T0 alone, those of its datapath (R637, R645, R646). -/
def State.clearTile (s0 : State) (t : Nat) : State :=
  let s := s0.dropFrames t false
  let s1 := { s with
    objs := tdrop (restarts s.variant t) s.objs, inForce := tdrop (restarts s.variant t) s.inForce, wraps := tdrop (restarts s.variant t) s.wraps,
    selects := s.selects.filter (fun e => !restarts s.variant t e.2.1),
    pairBad := s.pairBad.filter (fun n => match n with
      | .replicaActive rep => repTile rep != t || rep == 0
      | .current x _ => x != t
      | .operBase p => tileOf p != t
      | _ => true),
    mapGen := if t = 0 then s.mapGen else tdrop (fun k => k / 8 == t) s.mapGen }
  ((s1.wipeTile t).modTile t (fun x => x.wiped (t == 0))).freshWindows t

/-- A tile's links as it is reset: DOWN; a FENCED link stays so unless the tile recovers (R590, R591, R641). -/
def State.linksReset (s : State) (t : Nat) (recover : Bool) (was : List Nat) : State :=
  s.each (List.range s.variant.colLinks) (fun k a =>
    if a.col t k = 0 then a
    else if was.getD k 0 = 4 ∧ (!recover ∨ a.obj (O.TILE_STATE (neighbour t k)) = 4) then a.setCol t k 4 else a.setCol t k 1)

/-- The open group of a tile's mailbox is aborted as the tile is reset, and a response to the mailbox is lost (R126). -/
def State.mailboxReset (s : State) (t : Nat) : State :=
  let gone := fun (g : Group) => g.owner == Requester.mailbox t && g.applyAt.isNone
  { s with
    groups := s.groups.filter (fun g => !gone g), responses := s.responses.filter (fun x => x.1 != Requester.mailbox t) }.add O.GROUP_ABORTS
      (s.groups.filter gone).length

/-- A tile other than T0 is reset: it is held with nothing kept, until its release 20 µs later (R101, R634, R645). -/
def State.resetTile (s : State) (t : Nat) (recover : Bool) : State :=
  let was := (List.range 3).map (s.col t)
  let s1 := ((s.mailboxReset t).etchMiss t).each (List.range s.variant.colLinks) (fun k a => if a.colUp t k then (a.flushLink t k).linkReport t k else a)
  let s2 := ((s1.clearTile t).linksReset t recover was).tileLife t 6
  let s3 := ((s2.setObj (O.TILE_STATE t) 0).setObj (O.TILE_PSTEP t) 0).setObj (O.PD_ON t) (2 ^ 53)
  (s3.setObj (O.STARTUP_STEP t) 0).modTile t (fun x => { x with
    releaseAt := some (s.now + 20 * usU), coming := if s.runs 0 then .recover else .start })

/-- The objects that survive a package reset (R608, R644). -/
def persists (key : Nat) : Bool :=
  (keyIndex key == 0x1010 && key != O.LC_REQUEST) ||
  [O.KEY_ROLE 0, O.KEY_ROLE 1, O.KEY_ROLE 2, O.KEY_ROLE 3, O.ZW_NODE_ID, O.ZW_DATA_RATE, O.ZW_OPEN_ACCESS, O.PS_LATEST, O.PS_SEQ,
    O.PS_BAD_SLOTS, O.FW_STATE, O.FW_STAGED_VERSION].contains key ||
  (0x1020 ≤ keyIndex key && keyIndex key < 0x1028 && keySub key == 3)

/-- The objects that also survive package sleep (R572). -/
def survivesSleep (key : Nat) : Bool :=
  persists key || [O.FB_WAKE_TILES, O.PKG_SUPPLY_TIMEOUT, O.LAST_PKG_WAKE, O.PKG_WAKES, O.PKG_WAKE_FAIL].contains key

/-- The package with nothing but what it keeps and its inputs: key slots, proof store and firmware store, and the objects told (R572, R608). -/
def State.bare (s : State) (keep : Nat → Bool) : State :=
  { State.reset with
    pending := s.pending, now := s.now, lStart := s.lStart, free := s.free, variant := s.variant, out := s.out,
    pwrOk := s.pwrOk, porstN := s.porstN, serviceLow := s.serviceLow, porstAt := s.porstAt, lifeOwed := s.lifeOwed,
    objs := s.objs.filter (fun e => keep e.1), keys := s.keys, psSlots := s.psSlots, fwStore := s.fwStore, fwRunning := s.fwRunning,
    pairBad := s.pairBad.filter (fun n => n == .lcRunning || n == .lcStored), lcFatal := s.lcFatal,
    tiles := (s.tiles.map (fun e => (e.1, e.2.wiped false))).filter (fun e => e.2 != {}) }

/-- FW_STATE after a reset: an update in progress is over, its image still verified. -/
def State.fwIdle (s : State) : State := if s.obj O.FW_STATE = 4 then s.setObj O.FW_STATE 2 else s

/-- A count of the proof store, kept until the live state is loaded while T0 is not in service (R545, R549). -/
def State.lifeAny (s : State) (i n : Nat) : State :=
  if s.up 0 then s.life i n else { s with lifeOwed := tmod 0 s.lifeOwed i (· + n) }

/-- The whole package is reset for a cause (R101, R635, R644); domain L begins again (R416). -/
def State.packageReset (s : State) (cause : Nat) : State :=
  let s1 := { (s.psCut.bare persists).fwIdle with lStart := s.now }
  (s1.setObj O.RESET_CAUSE cause).lifeAny 0 1

/-- A lifecycle pair that is not complementary (R584, R606): the running pair is loaded again from the non-volatile pair; when that fails too, the access rules of
RETIRED apply. -/
def State.lcCheck (s : State) : State :=
  if s.pairOk .lcRunning then s
  else
    let s1 := s.mismatch 0 7
    if s.pairOk .lcStored then s1.restorePair .lcRunning else { s1 with lcFatal := true }.life 12 1

/-- The lifecycle state that access rules use (R584, R606). -/
def State.lcNow (s : State) : Nat := if s.lcFatal then 5 else s.obj O.LC_STATE

end Sys2Proof.Machine
end

