-- ==== Sys2Proof/Machine/Startup.lean ====
section
/-! DEFINITION. How tiles and the package start, wake and sleep (R560 to R579, R634 to R646). -/

namespace Sys2Proof.Machine

/-! Attempts. -/

/-- TILE_PSTEP of a tile (R561, R565). -/
def State.pstep (s : State) (t : Nat) : Nat := s.obj (O.TILE_PSTEP t)

/-- A tile enters a step of TILE_PSTEP. -/
def State.toStep (s : State) (t n : Nat) : State := (s.setObj (O.TILE_PSTEP t) n).modTile t (fun x => { x with stepAt := s.now })

/-- A tile enters a step of its start (R637). -/
def State.toStart (s : State) (t n : Nat) : State := (s.setObj (O.STARTUP_STEP t) n).modTile t (fun x => { x with stepAt := s.now })

/-- A tile comes up through the steps of a start, not of a wake (R565, R573, R637). -/
def State.starting (s : State) (t : Nat) : Bool := (s.tile t).coming != .wake

/-- A tile is in a step of a start. -/
def State.inStart (s : State) (t n : Nat) : Bool := s.starting t && s.obj (O.TILE_STATE t) == 0 && s.obj (O.STARTUP_STEP t) == n && s.pstep t == 0

/-- An attempt begins: the tile asks for its rail (R565). -/
def State.tryRail (s : State) (t : Nat) : State :=
  let n := (s.tile t).tries + 1
  let s1 := (s.toStep t 5).modTile t (fun x => { x with tries := n, vregReq := true, oscReq := false, vregRdy := false, oscRdy := false })
  if s.starting t then s1 else s1.setObj (O.WAKE_TRIES t) n

/-- What the last start of a tile left to read goes as a restart reaches its first step (R649). -/
def State.startCleared (s : State) (t : Nat) : State := ((s.setObj (O.STARTUP_RESULT t) 0).setObj (O.BIST_FAIL t) 0).setObj (O.TILE_START_US t) 0

/-- A tile leaves reset and enters SUPPLY (R634, R637). -/
def State.beginStart (s : State) (t : Nat) : State :=
  let s1 := (s.startCleared t).setObj (O.TILE_STATE t) 0
  let s2 := (s1.setObj (O.PD_ON t) (2 ^ 53)).modTile t (fun x => { x with
    releaseAt := none, startAt := s.now, tries := 0, cause := 0, failed := false, supplyFault := false, image := none, selfTest := false })
  (s2.toStart t 1).tryRail t

/-- TILE_RESET_RELEASE: 20 µs after the later of the two edges (R634). -/
def State.resetRelease (s : State) (t : Nat) : State :=
  match (s.tile t).releaseAt with
  | some i => if s.now < i || !s.pwrOk || !s.porstN || s.asleep then s else s.beginStart t
  | none => s

/-- A wake begins (R564, R573). -/
def State.beginWake (s : State) (t : Nat) : State :=
  let s1 := (s.lifeAny 4 1).modTile t (fun x => { x with
    tries := 0, cause := 0, coming := .wake, runHeld := false, supplyFault := false, failed := false, startAt := s.now })
  s1.tryRail t

/-- A wake request of a tile that is DORMANT or WAKE_FAULT and not coming up already (R564, R579); a tile whose start failed for its supply makes its attempts
again (R638), and one held in reset after a supply fault is released (R104). -/
def State.wakeTile (s : State) (t : Nat) : State :=
  let st := s.obj (O.TILE_STATE t)
  if (s.tile t).supplyFault ∧ st = 0 ∧ s.pstep t = 0 then (s.lifeAny 4 1).beginStart t
  else if (st ≠ 2 ∧ st ≠ 3) ∨ s.pstep t ≠ 0 then s
  else if st = 3 ∧ s.obj (O.STARTUP_STEP t) = 1 then (s.lifeAny 4 1).beginStart t
  else s.beginWake t

/-- An attempt ends with a cause: 1 VREG, 2 OSC, 3 VREG_DROP, 4 OSC_DROP (R565). -/
def State.retryWait (s : State) (t cause : Nat) : State :=
  let keep := (s.obj (O.PD_ON t)) % 2 ^ 47 / 2 ^ 39 * 2 ^ 39
  let s1 := (s.setObj (O.PD_ON t) (2 ^ 53 + (if (s.tile t).image.isSome then keep else 0))).modTile t (fun x => { x with
    vregReq := false, oscReq := false, vregRdy := false, oscRdy := false, cause := cause, pdQueue := [] })
  let s2 := if t = 0 then s1 else s1.stopReplica t
  if s.starting t then (s2.toStart t 1).toStep t 10 else s2.toStep t 10

/-- The VREG limit of a tile: PKG_SUPPLY_TIMEOUT at a start, 200 µs at a wake (R565, R573, R637). -/
def State.vregLimit (s : State) (t : Nat) : Nat := if s.starting t then s.obj O.PKG_SUPPLY_TIMEOUT * msU else 200 * usU

/-- A step of a limit is over: its timeout lasts at most 10 % more than stated (R566). -/
def State.overdue (s : State) (t limit : Nat) : Bool := (s.tile t).stepAt + limit + limit / 10 < s.now

/-- The rail is up: the tile asks for its oscillator (R565). -/
def State.railUp (s : State) (t : Nat) : State :=
  if s.pstep t ≠ 5 then s else if s.overdue t (s.vregLimit t) then s.retryWait t 1 else (s.toStep t 6).modTile t (fun x => { x with vregRdy := true, oscReq := true })

/-- The masters of A and B have counted from package reset as L has (R416, R418). -/
def State.startMasters (s : State) : State :=
  s.each [0, 1] (fun d a => a.modDom d (fun x => { x with time := x.at s.L, tickAt := s.L }))

/-- The domains of a tile start to come on, the time unit's first (R565, R637). -/
def State.powerUp (s : State) (t : Nat) : State :=
  let s1 := (s.setPd t 49 true).modTile t (fun x => { x with
    oscRdy := true, pdAt := 0, pdQueue := wantedDomains s.variant (s.obj (O.CORE_PWR t)) (s.obj (O.BASIN_PWR t)) })
  let s2 := if t = 0 then s1.startMasters else s1.startReplica t
  if s.starting t then (s2.toStep t 0).toStart t 2 else s2.toStep t 7

/-- The oscillator is ready (R565). -/
def State.oscUp (s : State) (t : Nat) : State := if s.pstep t ≠ 6 then s else if s.overdue t (2 * msU) then s.retryWait t 2 else s.powerUp t

/-- TILE_VREG_TIMEOUT (R565). -/
def State.railLate (s : State) (t : Nat) : State := if s.pstep t = 5 ∧ s.passed (s.tile t).stepAt (s.vregLimit t) then s.retryWait t 1 else s

/-- TILE_OSC_TIMEOUT (R565). -/
def State.oscLate (s : State) (t : Nat) : State := if s.pstep t = 6 ∧ s.passed (s.tile t).stepAt (2 * msU) then s.retryWait t 2 else s

/-- A tile is past its rail's step, or past its oscillator's, and not yet in service (R565). -/
def State.pastSupply (s : State) (t : Nat) (osc : Bool) : Bool :=
  (!osc && s.pstep t == 6) || (7 ≤ s.pstep t && s.pstep t ≤ 9) ||
    (s.starting t && s.obj (O.TILE_STATE t) == 0 && 2 ≤ s.obj (O.STARTUP_STEP t) && s.obj (O.STARTUP_STEP t) ≤ 6 && (s.tile t).vregReq)

/-- WAKE_RDY_DROP (R565). -/
def State.rdyDrop (s : State) (t : Nat) (osc : Bool) : State := if s.pastSupply t osc then s.retryWait t (if osc then 4 else 3) else s

/-- The package enters sleep: nothing but the always-on domain is left (R559, R572). -/
def State.sleepNow (s : State) : State :=
  let s1 := (s.bare survivesSleep).fwIdle
  let s2 := s1.each s1.tileList (fun t a => a.setObj (O.TILE_STATE t) 2)
  { s2 with asleep := true, fbStb := true, sleepAt := s.now }

/-- The fourth attempt has failed (R567, R575, R638). -/
def State.wakeFault (s : State) (t : Nat) : State :=
  if t = 0 ∧ (s.tile t).coming = .package then (s.sleepNow).bump32 O.PKG_WAKE_FAIL
  else
    let c := (s.tile t).cause
    let s1 := ((s.setObj (O.TILE_STATE t) 3).toStep t 0).setObj (O.WAKE_FAULT_CAUSE t) c
    let s2 := (s1.lifeAny (32 + 8 * t) 1).raise 0 0x02 10 t
    let s3 := if s.starting t then s2.setObj (O.STARTUP_RESULT t) (if c = 1 ∨ c = 3 then 2 else 3) else s2
    s3.modTile t (fun x => { x with vregReq := false, oscReq := false, failed := t == 0 })

/-- RETRY_WAIT_END: 1 ms with both requests low (R565, R567). -/
def State.retryEnd (s : State) (t : Nat) : State :=
  if s.pstep t ≠ 10 ∨ !s.passed (s.tile t).stepAt msU then s
  else if (s.tile t).tries < 4 then (s.lifeAny 5 1).tryRail t else s.wakeFault t

/-! The steps of a start. -/

/-- Every domain asked for is on (R558, R565, R637). -/
def State.allOn (s : State) (t : Nat) : State :=
  ((wantedDomains s.variant (s.obj (O.CORE_PWR t)) (s.obj (O.BASIN_PWR t))).foldl (fun a d => a.setPd t d true) s).modTile t (fun x => { x with pdQueue := [] })

/-- The domains still to come on, 2 µs apart, have had their time (R558). -/
def State.domainsTimed (s : State) (t : Nat) : Bool := s.passed (s.tile t).stepAt (2 * usU * ((s.tile t).pdQueue.length - 1))

/-- POWER_UP_DONE: to FW_LOAD, of T0's datapath alone to BIST, or at a wake to CHECK (R565, R637, R646). -/
def State.powerUpDone (s : State) (t : Nat) : State :=
  if !s.domainsTimed t then s
  else if s.inStart t 2 then (s.allOn t).toStart t (if t = 0 ∧ (s.tile t).coming = .recover then 4 else 3)
  else if s.pstep t = 7 then (s.allOn t).toStep t 8 else s

/-- A start has failed in the control block (R638). -/
def State.cbFail (s : State) (t : Nat) : State :=
  let s1 := (s.setObj (O.STARTUP_RESULT t) 4).modTile t (fun x => { x with failed := true, coming := .start })
  if t = 0 then s1 else s1.raise 0 0x04 10 t

/-- The staged image becomes the running image (R611, R639). -/
def State.adoptImage (s : State) : State := { s with fwRunning := s.obj O.FW_STAGED_VERSION + 1 }

/-- FW_LOAD_DONE: which of the two images has a good signature (R637, R639). -/
def State.fwLoaded (s : State) (t : Nat) (runOk stagedOk : Bool) : State :=
  if !s.inStart t 3 ∨ (s.tile t).failed then s
  else if runOk then s.toStart t 4
  else if stagedOk then
    let s1 := ((s.adoptImage).setObj O.FW_BOOT 1).toStart t 4
    if s.up 0 then s1.raise 0 0x0A 0 5 else s1
  else s.cbFail t

/-- BIST_DONE (R637, R638). -/
def State.bistDone (s : State) (t : Nat) (bad : Bool) (block addr : Nat) : State :=
  if !s.inStart t 4 ∨ (s.tile t).failed then s
  else if !bad then s.toStart t 5
  else
    let s1 := s.setObj (O.BIST_FAIL t) (block % 256 + addr % 2 ^ 32 * 2 ^ 32)
    if block = 5 then s1.cbFail t
    else
      let s2 := (s1.setObj (O.STARTUP_RESULT t) 5).lifeAny (32 + 8 * t + 2) 1
      if t = 0 ∧ (s.tile t).coming ≠ .recover then s2.modTile t (fun x => { x with failed := true }) else s2.isolate t

/-- WIPE_DONE: the tile joins (R637), and its col links may train (R641). -/
def State.wipeDone (s : State) (t : Nat) : State := if !s.inStart t 5 then s else (s.toStart t 6).linksStart t

/-- The roots that name a tile end as it returns to service (R603). -/
def State.endTileRoots (s : State) (t : Nat) : State :=
  s.endRoots 0 (fun r => r.cls == 10 && r.src == t && (r.kind == 1 || r.kind == 4 || r.kind == 5))

/-- Clemal clears both pipe bits of a tile's CORE_PWR (R571, R645). -/
def State.pipesOff (s : State) (t : Nat) : State :=
  ((s.restorePair (.corePwr t)).setObj (O.CORE_PWR t) (s.obj (O.CORE_PWR t) / 4 * 4)).switchDomains t

/-- The version of the running image that a tile has loaded (R611, R639). -/
def State.showFw (s : State) (t : Nat) : State := if s.fwRunning = 0 then s else s.setObj (O.CB_FW_VERSION t) (s.fwRunning - 1)

/-- A tile enters RUN (R637, R642); its col links have trained since JOIN (R641). -/
def State.enterRun (s : State) (t : Nat) : State :=
  ((s.setObj (O.TILE_STATE t) 1).setObj (O.TILE_PSTEP t) 0).endTileRoots t

/-- JOIN_DONE: the tile enters RUN (R637, R645, R646). T0 first loads the live state of the proof store, starts the dictionary (R549) and checks the lifecycle pair
(R584, R636); another tile waits for T0 (R635). -/
def State.joinDone (s : State) (t : Nat) : State :=
  if !s.inStart t 6 ∨ (t ≠ 0 ∧ !s.runs 0) then s
  else
    let c := (s.tile t).coming
    let s1 := (((s.toStart t 7).setObj (O.STARTUP_RESULT t) 1).setObj (O.TILE_START_US t) (s.usSince (s.tile t).startAt % 2 ^ 32)).showFw t
      |>.modTile t (fun x => { x with selfTest := true })
    let s2 := if c = .recover then (s1.pipesOff t).enterRun t else s1.enterRun t
    if t = 0 ∧ c ≠ .recover then
      let s3 := (s2.setObj O.STARTUP_US (s.usSince s.porstAt % 2 ^ 32)).psLoad.lcCheck
      if s.flag O.FW_BOOT then s3.raise 0 0x0A 0 5 else s3
    else s2

/-! Tile dormant. -/

/-- Bytes of image rows in a bank (R562). -/
def bankBytes (b : Nat) : Nat := if b < 32 then 699136 else 698880

/-- The banks a section takes from those not yet used, and the rest (R562). -/
def allot : Nat → List Nat → List Nat × List Nat
  | _, [] => ([], [])
  | need, b :: rest => if need = 0 then ([], b :: rest) else let r := allot (need - bankBytes b) rest; (b :: r.1, r.2)

/-- The banks of a set of groups. -/
def banksOf (groups : Nat) : List Nat := (List.range 48).filter (fun b => bit groups (b / 6))

/-- The valid rules of a tile in the CURRENT slot. -/
def State.ruleCount (s : State) (t : Nat) : Nat := (s.tc.filter (fun e => e.1 / 131072 == t && e.1 % 4 == s.currentSlot && e.2.isSome)).length

/-- The policers of a tile whose KIND is not OFF. -/
def State.policerCount (s : State) (t : Nat) : Nat :=
  (s.policers.filter (fun e => e.1 / 16384 == t && (match e.2 with
    | some p => p.kind != 0
    | none => false))).length

/-- The exact-match entries of a tile visible in the CURRENT slot. -/
def State.visibleEm (s : State) (t : Nat) : List EmEntry := (s.emOf t).filter (fun e => e.slots.contains s.currentSlot)

/-- The sizes of the sections in bytes: CONFIG at its limit, which one bank holds, TERNARY, POLICERS, EXACT (R562). -/
def State.sectionSizes (s : State) (t : Nat) : List Nat :=
  [524288, 128 * s.ruleCount t, 64 * s.policerCount t, ((s.visibleEm t).map (fun e => if e.key.length ≤ 32 then 64 else 128)).foldl (· + ·) 0]

/-- The sections laid out over banks, lowest first (R562). -/
def layout : Nat → List Nat → List Nat → List Section
  | _, [], _ => []
  | i, n :: rest, banks => let r := allot n banks; ⟨i, r.1⟩ :: layout (i + 1) rest r.2

/-- The banks the image would need if it were written now (R562): the retained ones first, then the others. -/
def State.saveBanks (s : State) (t : Nat) : Nat :=
  let g := s.obj (O.DORMANT_RETAIN t)
  ((layout 0 (s.sectionSizes t) (banksOf g ++ banksOf (255 - g % 256))).flatMap (·.banks)).length

/-- The refusal of TILE_POWER = DORMANT (R560, R584, R597): CONFIG_CONFLICT, BUSY_CONFLICT, or 0. -/
def State.dormantCheck (s : State) (t : Nat) : Nat :=
  if t = 0 then 0x09
  else if (banksOf (s.obj (O.DORMANT_RETAIN t))).length < s.saveBanks t then 0x09
  else if 5 ≤ s.pstep t ∨ !s.pairOk (.tilePower t) then 0x0A else 0

/-- TILE_POWER = DORMANT: a tile in service begins its entry; a wake held for the end of an entry in progress is taken back (R560, R563). -/
def State.powerDormant (s0 : State) (t : Nat) : State :=
  let s := s0.setObj (O.TILE_POWER t) 1
  if s.runs t then s.stopTile t else s.modTile t (fun x => { x with runHeld := false })

/-- A tile is in an entry to dormant, and not stopping for the whole package. -/
def State.entering (s : State) (t n : Nat) : Bool := s.pstep t == n && s.obj (O.TILE_STATE t) == 1 && !s.sleepEntry && s.lc.isNone

/-- What the CONFIG section holds: every RW and PRIV object the tile owns, the port counter sets and the event counters (R562). -/
def inConfig (v : Variant) (t key : Nat) : Bool :=
  ownerTile v key == t && (match rowAt v key with
    | some r => r.access == .rw || r.access == .priv ||
        (0x7100 ≤ keyIndex key && keyIndex key < 0x7100 + v.ports && r.access == .ro) || (List.range 64).any (fun i => key == O.EVC_VALUE t i)
    | none => false)

/-- DORMANT_SAVE: the save image is written (R562). -/
def State.dormantSave (s : State) (t : Nat) : State :=
  if !s.entering t 1 ∨ !s.passed (s.tile t).stepAt (20 * usU) then s
  else
    let img : Image := {
      objs := s.objs.filter (fun e => inConfig s.variant t e.1), sections := layout 0 (s.sectionSizes t) (banksOf (s.obj (O.DORMANT_RETAIN t))) }
    (s.modTile t (fun x => { x with image := some img })).toStep t 2

/-- DORMANT_SIGN: a signature for each bank of the image (R569). -/
def State.dormantSign (s : State) (t : Nat) : State :=
  if !s.entering t 2 then s
  else (s.modTile t (fun x => { x with image := x.image.map (fun i => { i with signed := i.sections.flatMap (·.banks) }) })).toStep t 3

/-- The parts of a tile's tables that the image holds outlive the switch-off (R562): visible entries, current rules, policers in use, and the configuration of rings and
queues. -/
def State.keepImage (s from' : State) (t : Nat) : State :=
  let k := from'.currentSlot
  { s with
    em := tput [] s.em t ((from'.visibleEm t).map (fun e => { e with slots := [k], bad := false })),
    tc := from'.tc.filter (fun e => e.1 / 131072 != t || e.1 % 4 == k),
    policers := from'.policers.filter (fun e => e.1 / 16384 != t || (match e.2 with
      | some p => p.kind != 0
      | none => false)),
    rings := (from'.ringsOff t).rings, cqs := (from'.ringsOff t).cqs }

/-- DORMANT_POWER_DOWN: the domains switch off and the tile is DORMANT (R559, R561); a wake held meanwhile starts at once (R563). -/
def State.dormantDown (s : State) (t : Nat) : State :=
  if !s.entering t 3 then s
  else
    let x := s.tile t
    let was := (List.range 3).map (s.col t)
    let s1 := (((s.clearTile t).linksReset t false was).keepImage s t).modTile t (fun y => { y with image := x.image })
    let s2 := ((s1.setObj (O.TILE_STATE t) 2).setObj (O.TILE_PSTEP t) 0).setObj (O.PD_ON t) (2 ^ 53 + s.obj (O.DORMANT_RETAIN t) % 256 * 2 ^ 39)
    let s3 := ((if t = 0 then s2 else s2.stopReplica t).tileLife t 5).raiseSev 0 0x01 10 t 0 true
    if x.runHeld then s3.wakeTile t else s3

/-- TILE_POWER = RUN: a wake, held while an entry is in progress (R563, R564). -/
def State.powerRun (s0 : State) (t : Nat) : State :=
  let s := s0.setObj (O.TILE_POWER t) 0
  if s.obj (O.TILE_STATE t) = 1 ∧ 1 ≤ s.pstep t ∧ s.pstep t ≤ 4 then s.modTile t (fun x => { x with runHeld := true }) else s.wakeTile t

/-! Tile wake. -/

/-- RETENTION_CHECK_DONE: the banks whose check failed, and the single-bit errors corrected (R569, R570). -/
def State.retentionCheck (s : State) (t : Nat) (bad : List Nat) (corrected : Nat) : State :=
  if s.pstep t ≠ 8 then s
  else
    let img := (s.tile t).image.getD {}
    let banks := img.sections.flatMap (·.banks)
    let lost := banks.filter (fun b => bad.contains b || !img.signed.contains b)
    let secs := (img.sections.filter (fun x => x.banks.any lost.contains)).map (·.lostBit)
    let s1 := ((s.lifeAny 7 banks.length).lifeAny (32 + 8 * t + 1) lost.length).lifeAny 8 corrected
    let s2 := (s1.setObj (O.BANKS_LOST t) (ofBits lost)).setObj (O.RESTORE_LOST t) (ofBits secs)
    (if lost.isEmpty then s2 else s2.raise 0 0x03 10 t).toStep t 9

/-- A policer restored starts with full buckets (R570). -/
def Policer.full (p : Policer) : Policer := { p with tc := p.cbs * 8000, te := p.ebs * 8000, cirNow := p.cir, pirNow := p.pir }

/-- The tables of a tile after its restore; a section with a lost bank is not restored (R570). -/
def State.restoreTables (s : State) (t lost : Nat) : State :=
  let k := s.currentSlot
  let here := s.tc.filter (fun e => e.1 / 131072 == t)
  let s1 : State := if bit lost 1 then { s with tc := tdrop (fun n => n / 131072 == t) s.tc }
    else here.foldl (fun a e => { a with tc := tput none (tput none a.tc e.1 none) (e.1 / 4 * 4 + k) e.2 }) s
  let s2 : State := if bit lost 2 then { s1 with policers := tdrop (fun n => n / 16384 == t) s1.policers }
    else { s1 with policers := s1.policers.map (fun e => if e.1 / 16384 == t then (e.1, e.2.map Policer.full) else e) }
  let s3 : State := if bit lost 3 then { s2 with em := tput [] s2.em t [] }
    else { s2 with em := tput [] s2.em t ((s2.emOf t).map (fun e => { e with slots := [k] })) }
  s3.showTables t

/-- The ports of a tile take up their restored configuration (R555, R571). -/
def State.restorePorts (s : State) (t : Nat) (lost : Bool) : State :=
  s.each (portsOf t) (fun p a =>
    let b := if lost then a.setObj (O.MAC_ENABLE p) 0 else a
    if b.portUp p then (b.portPower p true).refreshPort p else b)

/-- RESTORE_DONE: the sections are restored or skipped, the image's banks wiped, and the tile enters RUN (R570, R571). -/
def State.restoreDone (s : State) (t : Nat) : State :=
  if s.pstep t ≠ 9 then s
  else
    let lost := s.obj (O.RESTORE_LOST t)
    let img := (s.tile t).image.getD {}
    let s1 := if bit lost 0 then { s with rings := tdrop (fun k => k / 4096 == t) s.rings, cqs := tdrop (fun k => k / 1024 == t) s.cqs }
      else img.objs.foldl (fun a e => a.setObj e.1 e.2) s
    let s2 := (s1.restoreTables t lost).modTile t (fun x => { x with image := none })
    let s3 := if s2.flag (O.EVT_ENABLE t) then s2.evtStart t else s2
    let s4 := if lost = 0 then s3 else s3.pipesOff t
    ((((s4.enterRun t).linksStart t).restorePorts t (lost != 0)).showFw t).freshWindows t

/-! Package sleep. -/

/-- SLEEP_REQ takes effect: every tile in service stops, and T0 takes a checkpoint (R572). -/
def State.sleepStart (s : State) : State :=
  if s.sleepEntry then s
  else { (s.each s.tileList (fun t a => a.stopTile t)).checkpoint 4 with sleepEntry := true }

/-- The package wakes (R573): every tile to wake starts as after a reset. -/
def State.packageWake (s : State) : State :=
  let slept := (s.now - s.sleepAt) / secU
  let s1 := { s with asleep := false, fbStb := false, sleepEntry := false, wakeOwed := false, lStart := s.now, porstAt := s.now }
  let s2 := ((s1.setObj O.LAST_PKG_WAKE 1).bump32 O.PKG_WAKES).setObj O.RESET_CAUSE 3
  let s3 := (s2.lifeAny 4 1).lifeAny 2 slept
  s3.each s3.tileList (fun t a =>
    if t = 0 ∨ bit (s.obj O.FB_WAKE_TILES) t then
      (a.modTile t (fun x => { x with coming := if t = 0 then .package else .start })).beginStart t
    else a)

/-- SLEEP_ENTRY_DONE: the checkpoint is taken and every tile domain is off (R572); a WAKE frame received meanwhile starts the wake (R573). -/
def State.sleepDone (s : State) : State :=
  if !s.sleepEntry ∨ s.psNow.isSome ∨ !s.psWait.isEmpty then s
  else if s.wakeOwed then s.sleepNow.packageWake else s.sleepNow

/-- A WAKE frame at the field-bus node outside package sleep (R131, R132, R573, R579). -/
def State.wakeFrame (s : State) (ident : Nat) (data : Bytes) : State :=
  if !s.zwOn ∧ !s.sleepEntry ∨ ident ≠ 0x100 + s.node ∨ data ≠ bytesOf [0x55, 0x55] then s
  else if s.sleepEntry then { s with wakeOwed := true }
  else s.each s.tileList (fun t a => if bit (a.obj O.FB_WAKE_TILES) t ∧ (a.obj (O.TILE_STATE t) = 2 ∨ a.obj (O.TILE_STATE t) = 3) then a.wakeTile t else a)

/-! The wake detector. -/

/-- A run of length `r` holds n bits of length a / b, within ±15 % (R576). -/
def runFits (a b r n : Nat) : Bool := Nat.ble (17 * n * a) (20 * r * b) && Nat.ble (20 * r * b) (23 * n * a)

/-- The bits of a run, the nearest whole number of bit times. -/
def runBits (a b r : Nat) : Nat := (2 * r * b + a) / (2 * a)

/-- The levels decoded with a bit time; `level` is the level of the first run. None where a run does not fit (R576). -/
def decodeRuns (a b : Nat) : Bool → List Nat → Option (List Bool)
  | _, [] => some []
  | level, r :: rest =>
    let n := runBits a b r
    if 1 ≤ n ∧ n ≤ 5 ∧ runFits a b r n then (decodeRuns a b (!level) rest).map (fun l => List.replicate n level ++ l) else none

/-- Stuff bits removed: the bit after five equal bits, which must differ (ISO 11898-1). -/
def unstuff : Nat → Option Bool → List Bool → Option (List Bool)
  | _, _, [] => some []
  | n, last, b :: rest =>
    if n = 5 then (if some b = last then none else unstuff 1 (some b) rest)
    else (unstuff (if some b = last then n + 1 else 1) (some b) rest).map (b :: ·)

/-- The CAN CRC-15 of a list of bits (ISO 11898-1). -/
def crc15 (l : List Bool) : Nat := l.foldl (fun c b => let x := b2n (b != bit c 14); (2 * c % 2 ^ 15) ^^^ (x * 0x4599)) 0

/-- The bits of a number, most significant first. -/
def bitsMsb (w v : Nat) : List Bool := (List.range w).map (fun i => bit v (w - 1 - i))

/-- The bits of the WAKE frame of a node, from the start of frame to its CRC field (R576): a recessive bit is true. -/
def wakeBits (node : Nat) : List Bool :=
  let body := false :: bitsMsb 11 (0x100 + node) ++ [false, false, false] ++ bitsMsb 4 2 ++ bitsMsb 16 0x5555
  body ++ bitsMsb 15 (crc15 body)

/-- The bit times a list of runs may have, in the runs' unit over a denominator: each end of each run's range, and both limits of R576. -/
def bitTimes (runs : List Nat) : List (Nat × Nat) :=
  (4 * usU / 5, 1) :: (5 * usU / 4, 1) :: runs.flatMap (fun r => (List.range 5).flatMap (fun i => [(20 * r, 23 * (i + 1)), (20 * r, 17 * (i + 1))]))

/-- The detector accepts a frame given as the lengths of its runs of constant level, the first dominant (R576). -/
def detects (node : Nat) (runs : List Nat) : Bool :=
  (bitTimes runs).any (fun e =>
    Nat.ble (4 * usU * e.2) (5 * e.1) && Nat.ble (4 * e.1) (5 * usU * e.2) &&
      (match decodeRuns e.1 e.2 false runs with
        | some l => unstuff 0 none l == some (wakeBits node)
        | none => false))

/-- WAKE_DETECTOR_MATCH: a frame on the bus in package sleep (R573, R576): the length of the recessive level before it, at least 8 µs, and its runs. -/
def State.detectorFrame (s : State) (runs : List Nat) : State :=
  match runs with
  | [] => s
  | idle :: frame => if s.asleep && Nat.ble (8 * usU) idle && detects s.node frame then s.packageWake else s

/-! Resets from outside. -/

/-- PKG_PWR_OK and PKG_PORST_N together hold the package in reset or release it (R101, R634, R636). -/
def State.resetInputs (s : State) (pwr porst : Bool) (cause : Nat) : State :=
  let was := s.pwrOk && s.porstN
  let s1 := { s with pwrOk := pwr, porstN := porst }
  if pwr && porst then
    if was then s1
    else
      let s2 := { s1 with porstAt := s.now, lStart := s.now, fbStb := false }.lcCheck
      s2.each s2.tileList (fun t a => a.modTile t (fun x => { x with releaseAt := some (s.now + 20 * usU), coming := .start }))
  else if was then s1.packageReset cause
  else if pwr != s.pwrOk && !pwr then s1.setObj O.RESET_CAUSE 0 else s1

/-- TILE_RST_N_PULSE: TILE_RST_N falls and stays low for `width` units (R101, R634, R635); the tile is held while it is low. Between 40 ns and 60 ns the spec does not say
whether the pulse is taken (assumption 3). -/
def State.tilePulse (s0 : State) (t width : Nat) : State :=
  if width < 40 * nsU ∨ !s0.pwrOk ∨ !s0.porstN then s0
  else
    let r := if width < 60 * nsU then s0.draw 1 else (1, s0)
    let s := r.2
    if r.1 = 0 then s
    else if t = 0 then
      let s1 := { s.packageReset 2 with porstAt := s.now + width, fbStb := false }.lcCheck
      s1.each s1.tileList (fun x a => a.modTile x (fun y => { y with releaseAt := some (s.now + width + 20 * usU), coming := .start }))
    else (s.resetTile t false).modTile t (fun x => { x with releaseAt := some (s.now + width + 20 * usU) })

/-- TILE_SUPPLY_FAULT: a ready signal falls while its request is high, from RUN onward (R104, R565). The tile, T0 as any other, is held in reset until a tile reset or
a wake releases it. -/
def State.supplyFault (s : State) (t : Nat) : State :=
  if (s.obj (O.TILE_STATE t) ≠ 1 ∧ s.obj (O.TILE_STATE t) ≠ 4) ∨ !(s.tile t).vregReq then s
  else
    let s1 := (s.resetTile t false).modTile t (fun x => { x with
      releaseAt := none, supplyFault := true, coming := if s.runs 0 && t != 0 then .recover else .start, vregReq := false, oscReq := false, vregRdy := false,
      oscRdy := false })
    (s1.bump (O.TILE_SUPPLY_FAULT t)).raise 0 0x05 10 t

/-- TILE_RECOVER (R591, R646): the tile starts again; of T0 only its datapath, whose domains come on again. -/
def State.recover (s : State) (t : Nat) : State :=
  if t ≠ 0 then (s.resetTile t true).modTile t (fun x => { x with releaseAt := some s.now, coming := .recover })
  else
    let was := (List.range 3).map (s.col 0)
    let s1 := (s.etchMiss 0).each (List.range s.variant.colLinks) (fun k a => if a.colUp 0 k then (a.flushLink 0 k).linkReport 0 k else a)
    let s2 := (((s1.clearTile 0).linksReset 0 true was).tileLife 0 6).setObj (O.TILE_STATE 0) 0
    let s3 := ((s2.setObj (O.TILE_PSTEP 0) 0).setObj (O.PD_ON 0) (2 ^ 53 + 2 ^ 49)).modTile 0 (fun x => { x with coming := .recover, startAt := s.now })
    ((s3.modTile 0 (fun x => { x with pdAt := 0, pdQueue := wantedDomains s.variant (s.obj (O.CORE_PWR 0)) (s.obj (O.BASIN_PWR 0)) })).startCleared 0).toStart 0 2

end Sys2Proof.Machine
end

