-- ==== Sys2Proof/Machine/Act.lean ====
section
/-! DEFINITION. The frame every command runs in: the instant moves on and never back, the queue of waiting commands, the variant and the
start of domain L are not touched, what the effect leaves to do is done, and a command that names a unit the variant does not have changes
nothing but the instant. -/

namespace Sys2Proof.Machine

/-! The end of a command. -/

/-- A tile that a fatal fault has marked is isolated (R589, R590). -/
def State.isolateMarked (s : State) (t : Nat) : State :=
  if !(s.tile t).isolateDue then s
  else
    let s1 := s.modTile t (fun x => { x with isolateDue := false })
    if s1.runs t then s1.isolate t else s1

/-- No tile is marked for isolation. -/
def State.unmarked (s : State) : Bool := s.tiles.all (fun e => !e.2.isolateDue)

/-- No mark outlives the command that set it (R590). -/
def State.unmark (s : State) : State :=
  if s.unmarked then s else { s with tiles := tmap {} s.tiles (fun x => { x with isolateDue := false }) }

/-- What is left to do as a command ends: tiles with a fatal fault are isolated, and the fates of ring frames become records (R501, R590). -/
def State.settle (s : State) : State := (s.each s.tileList (fun t a => a.isolateMarked t)).writeFates.unmark

/-! Commands. -/

/-- The state a command's effect starts from: the instant of the command, or the present one if the command names an earlier
one (assumption 1). -/
def State.at (s : State) (now : Nat) : State := { s with now := max s.now now }

/-- An effect within the frame: what no command changes is as it was. -/
def State.framed (s : State) (f : State → State) : State :=
  { (f s).settle with pending := s.pending, now := s.now, lStart := s.lStart, variant := s.variant }

/-- A command with an effect. -/
def act (now : Nat) (f : State → State) (s : State) : Host.Outcome State Fault Refusal := .next ((s.at now).framed f)

/-- An effect within the frame of a reset or a wake of the package, which may begin domain L again (R416, R572): never later than now. -/
def State.framedReset (s : State) (f : State → State) : State :=
  { (f s).settle with pending := s.pending, now := s.now, lStart := min (f s).lStart s.now, variant := s.variant }

/-- A command that may reset or wake the package. -/
def actReset (now : Nat) (f : State → State) (s : State) : Host.Outcome State Fault Refusal := .next ((s.at now).framedReset f)

/-- A command to a unit: where the variant does not have the unit, nothing happens but the passing of time (R1, R2). -/
def actIf (ok : Bool) (now : Nat) (f : State → State) (s : State) : Host.Outcome State Fault Refusal := act now (if ok then f else id) s

/-- A command to a unit that may reset or wake the package. -/
def actResetIf (ok : Bool) (now : Nat) (f : State → State) (s : State) : Host.Outcome State Fault Refusal := actReset now (if ok then f else id) s

/-- A command to a tile. -/
def onTile (t now : Nat) (f : State → State) (s : State) : Host.Outcome State Fault Refusal := actIf (t < s.variant.tiles) now f s

/-- A command to a port or a lane. -/
def onPort (p now : Nat) (f : State → State) (s : State) : Host.Outcome State Fault Refusal := actIf (p < s.variant.ports) now f s

/-- A command to a col link of a tile. -/
def onLink (t k now : Nat) (f : State → State) (s : State) : Host.Outcome State Fault Refusal :=
  actIf (t < s.variant.tiles && k < s.variant.colLinks) now f s

end Sys2Proof.Machine
end

