-- ==== Sys2Proof/Machine/Integrity.lean ====
section
/-! DEFINITION. The scrub and the outcomes of memory errors (R585 to R590), the lifecycle (R604 to R608), and the update of control-block firmware (R609 to R611). -/

namespace Sys2Proof.Machine

/-! Memory errors. Memories of R585, by number: 0 Basin, 1 exact-match table, 2 ternary tables, 3 policer records, 4 queue state of the Burin, 5 hatch
lists, 6 ring state, 7 completion queue state, 8 descriptor prefetch buffers, 9 the control block's memory. -/

/-- The block that holds a memory (R599). -/
def memBlock (mem : Nat) : Nat := if mem = 0 then 0 else if mem ≤ 3 then 1 else if mem ≤ 5 then 2 else if mem ≤ 8 then 3 else 5

/-- BAD_ENTRY (R612). -/
def State.badEntry (s : State) (t table pipe n : Nat) : State := s.setObj (O.BAD_ENTRY t) (table + pipe * 256 + n % 2 ^ 32 * 2 ^ 32)

/-- The frames whose cells a bank of a tile holds, a number for each cell. -/
def State.cellsIn (s : State) (t b : Nat) : List Nat :=
  s.holds.flatMap (fun e => if e.1 % 8 == t then (e.2.banks.filter (· == b)).map (fun _ => e.1 / 8) else [])

/-- The frame that holds a cell ends, and its cells are let go (R586). The location is the bank plus 64 times the number of the cell among those in use. -/
def State.cellBad (s : State) (t loc : Nat) : State :=
  match (s.cellsIn t (loc % 64))[loc / 64]? with
  | some fid => (s.hold fid t).users.foldl (fun a h => a.endCopy fid h) s
  | none => s

/-- An exact-match entry is bad until an etch rewrites or deletes it (R586). -/
def State.emBad (s : State) (t loc : Nat) : State :=
  if loc < (s.emOf t).length then (s.setEm t ((s.emOf t).modify loc (fun e => { e with bad := true }))).badEntry t 1 0 loc else s

/-- A ternary rule matches every key with VERDICT DROP until an etch writes it (R586). The location is the rule plus 16384 times the pipe. -/
def State.tcBadAt (s : State) (t loc : Nat) : State :=
  (s.each [0, 1, 2, 3] (fun k a => { a with tcBad := tput false a.tcBad (tcNum t (loc / 16384 % 2) (loc % 16384) * 4 + k) true })).badEntry t 2 (loc / 16384 % 2) (loc % 16384)

/-- A queue's tag is assigned again from V, and its TOKENS become 0 (R362, R586). The location is 16 times the tile's port slot plus the queue; from 288 on it is
288 plus the port slot, the state of a port's shaper. -/
def State.queueBad (s : State) (t loc : Nat) : State :=
  if 288 ≤ loc then s.modBurin (18 * t + (loc - 288) % 18) (fun b => { b with tokens := 0 })
  else
    let p := 18 * t + loc / 16
    let s1 := s.modQueue p (loc % 16) (fun x => { x with tokens := 0 })
    if (s1.queue p (loc % 16)).head.tagged then s1.nextHead p (loc % 16) (s1.vtime p) else s1

/-- The outcome of an uncorrectable error (R586). -/
def State.errorOutcome (s : State) (t mem loc : Nat) : State :=
  if mem = 0 then s.cellBad t loc
  else if mem = 1 then s.emBad t loc
  else if mem = 2 then s.tcBadAt t loc
  else if mem = 3 then (s.modPolicer t (loc % 16384) (fun p => { p with bad := true })).badEntry t 3 0 (loc % 16384)
  else if mem = 4 then s.queueBad t loc
  else if mem = 5 then s.hatchMismatch (18 * t + loc % 18)
  else if mem = 7 then s.failCq t (loc % 1024)
  else if mem = 6 ∨ mem = 8 then s.fetchFailed t (bit loc 11) (loc % 2048)
  else s.fatal t

/-- A word is read: 0 good, 1 corrected, 2 uncorrectable (R585, R586). -/
def State.memoryRead (s : State) (t mem loc outcome : Nat) : State :=
  if outcome = 1 then s.eccCorrected t (memBlock mem)
  else if outcome = 2 then (s.eccUncorrected t (memBlock mem)).errorOutcome t mem loc else s

/-- The resource a scrub read costs one unit of: BASIN for the Basin, TABLE for the tables; other memories are read by their own blocks. -/
def scrubRes (mem : Nat) : Option Nat := if mem = 0 then some 0 else if mem ≤ 2 then some 1 else none

/-- The scrub reads a bank of the Basin: its group is enabled and on (R588). -/
def State.scrubs (s : State) (t b : Nat) : Bool := bit (s.obj (O.GROUPS_EN t)) (b / 6) && s.pd t (39 + b / 6)

/-- The words of a pass: the cells of the banks read, the entries of the exact-match table, the rules of both ternary tables (R588). -/
def State.scrubWords (s : State) (t : Nat) : List Nat :=
  [(((List.range 48).filter (s.scrubs t)).map bankCells).foldl (· + ·) 0, 2 ^ 20, 2 * 16384]

/-- The memory whose turn it is after `n` words of a pass (R588). -/
def scrubTurn : List Nat → Nat → Nat
  | [], _ => 0
  | w :: rest, n => if n < w then 0 else scrubTurn rest (n - w) + 1

/-- The scrub has read a word; the last ends a pass (R588). -/
def State.scrubbed (s : State) (t : Nat) : State :=
  let n := (s.tile t).scrubAt + 1
  if n < (s.scrubWords t).foldl (· + ·) 0 then s.modTile t (fun x => { x with scrubAt := n })
  else (s.modTile t (fun x => { x with scrubAt := 0 })).bump32 (O.SCRUB_PASSES t)

/-- SCRUB_READ: a word of the memory whose turn it is is read under the scrub's budget, which 0 stops (R588, R594, R595); a word of another memory is read by its own
block. -/
def State.scrubRead (s : State) (t mem loc outcome : Nat) : State :=
  if !s.up t then s
  else
    match scrubRes mem with
    | none => s.memoryRead t mem loc outcome
    | some r =>
      if scrubTurn (s.scrubWords t) (s.tile t).scrubAt ≠ mem then s.memoryRead t mem loc outcome
      else if (mem = 0 ∧ !s.scrubs t (loc % 64)) ∨ s.budget t 0 r = 0 then s
      else if s.budgetLeft t 0 r = 0 then s.budgetWait t 0
      else ((s.spend t 0 r 1).memoryRead t mem loc outcome).scrubbed t

/-! The lifecycle. -/

/-- The key of a slot (R121); never written, it is all zero. -/
def State.keyOf (s : State) (k : Nat) : Bytes := tget (List.replicate 16 0) s.keys k

/-- KEY_SET (R122). -/
def State.keySet (s : State) (k : Nat) : Bool := (s.keyOf k).any (· != 0)

/-- PROV_CHECK (R647). -/
def State.provCheck (s : State) : Nat :=
  ofBits ([(0, s.keySet 0), (1, s.obj O.ZW_NODE_ID != 0x7F), (2, Nat.ble (s.obj O.ZW_OPEN_ACCESS) 1), (3, s.obj O.PROV_SITE != 0),
    (4, Nat.ble (popcount 8 (s.obj O.PS_BAD_SLOTS)) 2), (5, s.tileList.all (fun t => (s.tile t).selfTest))].filterMap (fun e => if e.2 then some e.1 else none))

/-- The answer to a request of a lifecycle state (R604, R606, R648): RANGE where the table has no such transition, CONFIG_CONFLICT where its condition
fails. -/
def State.lcJudge (s : State) (v : Nat) : Nat :=
  let cur := s.lcNow
  if v = 0 ∨ (s.lcFatal ∧ v ≠ 1) then 0
  else if cur = 1 ∧ v = 2 then (if s.keySet 0 then 0 else 0x09)
  else if cur = 2 ∧ v = 3 then (if s.provCheck = 0x3F then 0 else 0x09)
  else if cur = 3 ∧ v = 2 then 0
  else if cur = 3 ∧ v = 4 then (if s.serviceLow then 0 else 0x09)
  else if cur = 4 ∧ (v = 2 ∨ v = 3) then 0
  else if (cur = 2 ∨ cur = 3 ∨ cur = 4) ∧ v = 5 then 0 else 0x05

/-- LC_REQUEST is accepted: the change starts once its response is sent (R604, R607). -/
def State.lcAsk (s : State) (who : Option Requester) (v : Nat) : State :=
  let s1 := s.setObj O.LC_REQUEST v
  if v = 0 then s1 else { s1 with lc := some ⟨v, who, false⟩ }

/-- The start of a lifecycle change (R607): sessions and key states end, groups and an open etch are aborted, every tile stops, and the checkpoint is
taken. A group that is committed and awaits its instant (R129) is dropped and counted too, and it and the writes held behind it get no response (DESIGN CHOICE,
assumption 82). -/
def State.lcBegin (s : State) : State :=
  match s.lc with
  | none => s
  | some c =>
    if c.begun then s
    else
      let s1 := { s with lc := some { c with begun := true }, sessions := [], challenges := [], groups := [] }
      let s2 := s1.add O.GROUP_ABORTS s.groups.length
      let s3 := match s2.etch with
        | some _ => if s2.obj O.ETCH_STATE = 1 then s2.etchAbortSelf else s2
        | none => s2
      let s4 := s3.each s3.tileList (fun t a => a.modTile t (fun x => { x with key := {} }))
      (s4.each s4.tileList (fun t a => a.stopTile t)).checkpoint 1

/-- The objects that keep their values through a lifecycle change (R608). -/
def survivesChange (key : Nat) : Bool := persists key || (0x5000 ≤ keyIndex key && keyIndex key ≤ 0x5002)

/-- A tile enters RUN at the end of a lifecycle change, with its domains as CORE_PWR and BASIN_PWR default to (R607); one in reset goes on with its
start. -/
def State.lcTile (s before : State) (t : Nat) : State :=
  let x := before.tile t
  let keep := fun (a : State) (k : Nat) => a.setObj k (before.obj k)
  if before.obj (O.TILE_STATE t) = 0 then
    (((((keep s (O.STARTUP_STEP t)).setObj (O.TILE_PSTEP t) (before.obj (O.TILE_PSTEP t))).setObj (O.PD_ON t) (before.obj (O.PD_ON t)))).modTile t (fun y => { y with
      releaseAt := x.releaseAt, startAt := x.startAt, stepAt := x.stepAt, tries := x.tries, cause := x.cause, coming := x.coming, vregReq := x.vregReq,
      oscReq := x.oscReq, vregRdy := x.vregRdy, oscRdy := x.oscRdy, failed := x.failed, supplyFault := x.supplyFault, selfTest := x.selfTest }))
  else
    let s1 := (s.modTile t (fun y => { y with vregReq := true, oscReq := true, vregRdy := true, oscRdy := true, selfTest := x.selfTest })).setObj (O.PD_ON t)
      (2 ^ 53 + 2 ^ 49)
    (s1.allOn t).setObj (O.TILE_STATE t) 1

/-- LIFECYCLE_WIPE: after the checkpoint every memory is wiped, every object outside the persistent set returns to its default, the new state stands in both
pairs, and the tiles enter RUN (R607, R608). -/
def State.lcWipe (s : State) : State :=
  match s.lc with
  | none => s
  | some c =>
    if !c.begun ∨ s.psNow.isSome ∨ !s.psWait.isEmpty then s
    else
      let b := (s.bare survivesChange).fwIdle
      let s1 : State := { b with
        domA := s.domA, domB := s.domB, replicas := s.replicas.filter (fun e => e.1 / 4 < 8), reepoch := s.reepoch, pLast := s.pLast,
        pLastAt := s.pLastAt, ppsEdge := s.ppsEdge, ppsLast := s.ppsLast, refBad := s.refBad, refGood := s.refGood, refAt := s.refAt, upstreamAt := s.upstreamAt, ppsOut := s.ppsOut,
        proof := s.proof, psHostAt := s.psHostAt, psLastAt := s.psLastAt, psHeld := s.psHeld, psSampleAt := s.psSampleAt, responses := s.responses, hbLast := s.hbLast, hbAt := s.hbAt,
        lcFatal := false, pairBad := s.pairBad.filter (fun n => match n with
          | .steer _ => true
          | .active => true
          | .replicaActive rep => rep < 8
          | _ => false) }
      let s2 := (s1.each s1.tileList (fun t a => a.lcTile s t))
      let s3 := ((s2.setObj O.LC_STATE c.target).bump32 O.LC_CHANGES).setObj O.LC_LAST (ts96 (s2.masterNow s2.active))
      let s4 := if c.target = 5 then (s3.each (List.range 4) (fun k a => a.setObj (O.KEY_ROLE k) 0) |> fun a => { a with keys := [] }) else s3
      (((s4.life 3 1).raise 0 0x08 0 7).each s4.tileList (fun t a => a.linksStart t)).each s4.tileList (fun t a => a.freshWindows t)

/-- LIFECYCLE_CHANGE: the change that was asked for starts (R607). -/
def State.lcChange (s : State) : State := s.lcBegin

/-- SERVICE_EN_N goes high (R605). -/
def State.serviceHigh (s : State) : State :=
  let s1 := { s with serviceLow := false }
  if s1.lcNow = 4 ∧ s1.lc.isNone then { s1 with lc := some ⟨3, none, false⟩ }.lcBegin else s1

/-- A sample of SERVICE_EN_N (R101): its level shows in SERVICE_PIN and allows SERVICE (R604). -/
def State.serviceSample (s : State) (level : Bool) : State := if level then s.serviceHigh else { s with serviceLow := true }

/-! Firmware. -/

/-- FW_OFFSET is written (R609). -/
def State.fwOffset (s : State) (v : Nat) : State := { (s.setObj O.FW_OFFSET v).setObj O.FW_STATE 1 with fwVerifying := false }

/-- FW_DATA: a chunk is stored at FW_OFFSET, which advances (R609). -/
def State.fwData (s : State) (d : Bytes) : State :=
  let off := s.obj O.FW_OFFSET
  let st := (d.foldl (fun (a : Nat × Tbl Byte) b => (a.1 + 1, tput 0 a.2 a.1 b)) (off, s.fwStore)).2
  { (s.setObj O.FW_OFFSET (off + 512)).setObj O.FW_STATE 1 with fwStore := st, fwVerifying := false }

/-- FW_VERIFY = true: the check of the staged image's signature begins (R609). -/
def State.fwVerify (s : State) : State := if s.obj O.FW_STATE = 4 then s else { s with fwVerifying := true }

/-- FW_VERIFY_DONE: whether the signature is good, and the version the image carries (R609). -/
def State.fwVerified (s : State) (good : Bool) (version : Nat) : State :=
  if !s.fwVerifying then s
  else
    let s1 := { s with fwVerifying := false }
    if good then (s1.setObj O.FW_STATE 2).setObj O.FW_STAGED_VERSION (version % 2 ^ 32) else s1.setObj O.FW_STATE 3

/-- FW_ACTIVATE is refused unless the image is verified and every tile named is in service (R610). -/
def State.fwRefused (s : State) (v : Nat) : Bool :=
  s.obj O.FW_STATE != 2 || (List.range 8).any (fun t => bit v t && (!(Nat.blt t s.tileCount) || !s.runs t))

/-- FW_ACTIVATE (R610): the named tiles in ascending order, T0 last. -/
def State.fwActivate (s : State) (v : Nat) : State :=
  let named := (List.range 8).filter (bit v)
  let order := named.filter (· != 0) ++ named.filter (· == 0)
  let s1 := s.setObj O.FW_ACTIVATE v
  if order.isEmpty then s1 else { s1.setObj O.FW_STATE 4 with fwUpdate := some ⟨order, none, 0, [], false⟩ }

/-- The update is complete (R611): with no tile gone back, the image is the running image from now on. -/
def State.fwFinish (s : State) (u : FwUpdate) : State :=
  let s1 := { s with fwUpdate := none }.setObj O.FW_STATE 2
  if u.reverted ∨ u.done.isEmpty then s1
  else
    let s2 := (s1.adoptImage).life 17 1
    (u.done.foldl (fun a t => a.showFw t) s2).raise 0 0x09 0 5

/-- The next tile of an update, or its end: a named tile that has left RUN is skipped (R610). -/
def State.fwNext (s : State) (u : FwUpdate) : State :=
  let left := u.left.dropWhile (fun t => !s.runs t)
  if left.isEmpty then s.fwFinish u else { s with fwUpdate := some { u with left := left } }

/-- FW_TILE_UPDATE: a tile's control block starts the staged image (R610). -/
def State.fwTile (s : State) (t : Nat) : State :=
  match s.fwUpdate with
  | none => s
  | some u =>
    if u.cur.isSome then s
    else
      let left := u.left.dropWhile (fun x => !s.runs x)
      if left.isEmpty then s.fwFinish u
      else if left.head? ≠ some t then s
      else { s with fwUpdate := some { u with left := left.drop 1, cur := some t, gapAt := s.now } }.modTile t (fun x => { x with updating := true })

/-- FW_SELF_CHECK_DONE: the tile resumes on the new image, or on the previous one (R611). -/
def State.fwChecked (s : State) (t : Nat) (good : Bool) : State :=
  match s.fwUpdate with
  | none => s
  | some u =>
    if u.cur ≠ some t then s
    else
      let gap := s.usSince u.gapAt
      let s1 := (s.setObj O.FW_GAP_MAX (max (s.obj O.FW_GAP_MAX) (gap % 2 ^ 32))).modTile t (fun x => { x with updating := false })
      if good then s1.fwNext { u with cur := none, done := u.done ++ [t] }
      else ((s1.bump32 O.FW_REVERTS).raise t 0x0A 0 5).fwNext { u with cur := none, reverted := true }

/-- TILE_TEMP_UPDATE (R671). -/
def State.tileTemp (s : State) (t : Nat) (v : Int) : State := if s.runs t then s.setObjS 32 (O.TILE_TEMP t) v else s

end Sys2Proof.Machine
end

