-- ==== Sys2Proof/Machine/Stack.lean ====
section
/-! DEFINITION. Stacking (R615 to R633) and time across the stack (R444 to R449): HELLO records, views and elections, joining, the stack time message, and
frames from a span link. -/

namespace Sys2Proof.Machine

/-! Precedence. -/

/-- SERIAL of the package as a number with byte 0 most significant (R622). -/
def State.serialBe (s : State) : Nat := beNat (natLe (s.obj O.SERIAL) 16)

/-- PRIORITY and SERIAL of a member: the package's own, or what its HELLO records say. -/
def State.rankOf (s : State) (m : Nat) : Nat × Nat :=
  if m = s.me then (s.obj O.STACK_PRIORITY, s.serialBe)
  else match tget none s.peers m with
    | some x => (x.priority, x.serial)
    | none => (0, 2 ^ 128)

/-- A member outranks another (R622). -/
def outranks (a b : Nat × Nat) : Bool := Nat.blt b.1 a.1 || (a.1 == b.1 && Nat.blt a.2 b.2)

/-- A member waits to join, so no election chooses it (R625; assumption 20). -/
def State.waiting (s : State) (m : Nat) : Bool :=
  match tget none s.peers m with
  | some x => m != s.me && x.role == 3
  | none => false

/-- The member of highest precedence in the view (R622). -/
def State.winner (s : State) : Nat :=
  ((List.range 4).filter (fun m => bit s.viewNow m && !s.waiting m)).foldl (fun a m => if outranks (s.rankOf m) (s.rankOf a) then m else a) s.me

/-! Roles. -/

/-- The package becomes the stack's master: its copies of A and B become masters at their current value (R622, R624, R449). -/
def State.becomeMaster (s : State) : State :=
  let s1 := (((s.setObj O.STACK_STATE 3).setObj O.STACK_MASTER s.me).setObj O.STACK_TIME_ROLE 1)
  s1.each [0, 1] (fun d a => a.modDom d (fun x => { x with rstate := 1, good := 0, bad := 0 }))

/-- T0's masters become copies of the masters upstream (R444): they go on at their present rate, or, in a package that has just joined, begin in ACQUIRE
(R429; assumption 20). -/
def State.toCopies (s : State) (fresh : Bool) : State :=
  s.each [0, 1] (fun d a => (a.endHold d).modDom d (fun x => { x with
    rate := if fresh then 0 else x.freq, integ := if fresh then 0 else x.freq, rstate := if fresh then 0 else x.rstate, good := 0, bad := 0, changes := [] }))

/-- The package is a member under a master. -/
def State.becomeMember (s : State) (m : Nat) (fresh : Bool) : State :=
  let s0 := if s.timeMember then s else s.toCopies fresh
  { ((s0.setObj O.STACK_STATE 2).setObj O.STACK_MASTER m).setObj O.STACK_TIME_ROLE 2 with
    handover := none, upstreamAt := if s.timeMember then s.upstreamAt else s.L }

/-- The package waits to join, and keeps its own time (R625). -/
def State.waitJoin (s : State) : State :=
  let s1 := ((s.setObj O.STACK_STATE 4).setObj O.STACK_MASTER 0xFF).setObj O.STACK_TIME_ROLE 0
  { s1.each [0, 1] (fun d a => a.modDom d (fun x => { x with rstate := 1 })) with handover := none }

/-- The package's member number is taken (R625). -/
def State.rejectDup (s : State) : State :=
  (((s.setObj O.STACK_STATE 5).setObj O.REJECT_CAUSE 1).setObj O.STACK_MASTER 0xFF).setObj O.STACK_TIME_ROLE 0

/-- The election's choice takes effect. -/
def State.settleElection (s : State) : State :=
  if s.winner = s.me then (if s.obj O.STACK_STATE = 3 then s else s.becomeMaster)
  else s.becomeMember s.winner (s.obj O.STACK_STATE == 1)

/-- An election is held (R622). -/
def State.election (s : State) : State := { (s.bump32 O.ELECTIONS).settleElection with electedAt := some s.now, handover := none }

/-- SERIAL and PRIORITY of the members in the view (R633). -/
def State.showMembers (s : State) : State :=
  s.each (List.range 4) (fun m a =>
    if !bit (a.obj O.STACK_VIEW) m then (a.setObj (O.MEMBER_SERIAL m) 0).setObj (O.MEMBER_PRIORITY m) 0
    else
      let r := a.rankOf m
      (a.setObj (O.MEMBER_SERIAL m) (leNat (natBe r.2 16))).setObj (O.MEMBER_PRIORITY m) r.1)

/-- The hand-over is over when the member it names leaves the view (R624). -/
def State.dropHandover (s : State) (v : Nat) : State := { s with handover := s.handover.filter (bit v) }

/-- The view is shown, and a change increments VIEW_EPOCH (R621). -/
def State.showView (s : State) (v : Nat) : State :=
  if v = s.obj O.STACK_VIEW then s else (s.setObj O.STACK_VIEW v).bump32 O.VIEW_EPOCH

/-- The loss of the master calls an election (R622). -/
def State.masterGone (s : State) (v : Nat) : State :=
  if s.obj O.STACK_STATE == 2 && !bit v (s.obj O.STACK_MASTER) then s.election else s

/-- The view follows what has been heard (R621, R622). -/
def State.refreshView (s : State) : State :=
  ((((s.showView s.viewNow).showMembers).dropHandover s.viewNow).masterGone s.viewNow)

/-- What the package knows of its stack is forgotten. -/
def State.clearStack (s : State) : State :=
  { s with helloAt := [], helloSeen := [], peers := [], electedAt := none, handover := none, joinOwed := false, upstream := none }

/-- STACK_ENABLE becomes true: FORMING begins (R622); STACK_MEMBER comes into force (R633). -/
def State.stackForm (s : State) : State :=
  if !s.flag O.STACK_ENABLE ∨ s.obj O.STACK_STATE ≠ 0 then s
  else
    let s1 := (s.clearStack).adopt O.STACK_MEMBER
    ({ s1 with formingAt := s.now }.setObj O.STACK_STATE 1).setObj O.REJECT_CAUSE 0 |>.refreshView

/-- STACK_ENABLE becomes false: the package stands alone, and its copies become its masters (R449, R615). -/
def State.stackAlone (s : State) : State :=
  let s1 := if s.timeMember then s.each [0, 1] (fun d a => a.modDom d (fun x => { x with rstate := 1 })) else s
  ((((s1.clearStack).setObj O.STACK_STATE 0).setObj O.STACK_MASTER 0xFF).setObj O.STACK_TIME_ROLE 0).setObj O.REJECT_CAUSE 0 |>.refreshView

/-! HELLO records. -/

/-- ROLE of the package's HELLO: a rejected package says WAIT_JOIN (R620; assumption 20). -/
def State.role (s : State) : Nat :=
  let st := s.obj O.STACK_STATE
  if st = 5 then 3 else st - 1

/-- The package's HELLO with HOPS 0 (R620). -/
def State.helloBytes (s : State) : Bytes :=
  let m := s.obj O.STACK_MASTER
  let valid := m != 0xFF
  bytesOf [1, s.role * 4 + s.me, s.obj O.STACK_PRIORITY, b2n valid * 4 + (if valid then m else 0)] ++ natLe (s.obj O.STACK_ID) 4 ++
    natLe (s.obj O.VIEW_EPOCH) 4 ++ natLe s.helloSeq 2 ++
    bytesOf [(if s.obj O.STACK_STATE = 3 then s.handover.getD 7 else 7) * 16 + s.viewNow, 0] ++ natLe (s.obj O.SERIAL) 16

/-- HELLO_SEND: every 50 µs a HELLO on each ACTIVE span port (R620). -/
def State.helloSend (s : State) : State :=
  if !s.up 0 ∨ !s.flag O.STACK_ENABLE ∨ (s.helloSent ≠ 0 ∧ !s.passed (s.helloSent - 1) (50 * usU)) then s
  else
    let b := s.helloBytes
    { s.each s.spanPorts (fun p a => a.sendRecord p 3 b) with helloSeq := (s.helloSeq + 1) % 65536, helloSent := s.now + 1 }

/-- ORIGIN, HOPS and SEQ of a HELLO. -/
def helloOrigin (m : Bytes) : Nat := byteAt m 1 % 4
/-- HOPS of a HELLO. -/
def helloHops (m : Bytes) : Nat := byteAt m 15 % 4

/-- What a HELLO says of its origin. -/
def helloPeer (m : Bytes) : Peer :=
  { role := field (byteAt m 1) 4 2, priority := byteAt m 2, master := if bit (byteAt m 3) 2 then some (byteAt m 3 % 4) else none,
    handover := field (byteAt m 14) 6 4, view := byteAt m 14 % 16, serial := beAt m 16 16 }

/-- A HELLO is forwarded on the other ACTIVE span ports when no copy of it went on with as few hops (R620). -/
def State.helloForward (s : State) (p : Nat) (m : Bytes) : State :=
  let key := 65536 * helloOrigin m + leAt m 12 2
  let h := helloHops m
  let low := (tget (9, 0) s.helloSeen key).1
  let go := Nat.blt h low && Nat.ble (h + 1) 2
  let kept := s.helloSeen.filter (fun e => Nat.ble s.now (e.2.2 + s.obj O.STACK_DEAD * usU))
  let s1 := { s with helloSeen := tput (9, 0) kept key (if go then h else min low 8, s.now) }
  if go then s1.each (s1.spanPorts.filter (· ≠ p)) (fun q a => a.sendRecord q 3 (patch m 15 [BitVec.ofNat 8 (setField (byteAt m 15) 1 0 (h + 1))])) else s1

/-- Members of the view that follow this package. -/
def State.hasMembers (s : State) : Bool :=
  (List.range 4).any (fun m => m != s.me && bit s.viewNow m && (match tget none s.peers m with | some x => x.master == some s.me | none => false))

/-- The last election is so recent that the views may still differ (R622; assumption 20). -/
def State.unsettled (s : State) : Bool :=
  match s.electedAt with
  | some i => Nat.ble s.now (i + 2 * s.obj O.STACK_DEAD * usU)
  | none => false

/-- A master meets the master of another stack (R625): it joins or waits where the other stack keeps running. -/
def State.meetMaster (s : State) (o : Nat) (x : Peer) : State :=
  if s.handover = some o then s.becomeMember o false
  else if s.unsettled then s.settleElection
  else
    let lone := !s.hasMembers
    let oLone := popcount 4 (x.view - x.view / 2 ^ s.me % 2 * 2 ^ s.me) == 1
    let yields := if lone && !oLone then true else if !lone && oLone then false else outranks (s.rankOf o) (s.rankOf s.me)
    if !yields then s
    else if lone && s.domState 0 == 0 && s.domState 1 == 0 then s.becomeMember o true
    else s.waitJoin

/-- A member hears of a master that is not its own (R622, R624, R625). -/
def State.otherMaster (s : State) (o : Nat) (x : Peer) : State :=
  let mine := s.obj O.STACK_MASTER
  let named := match tget none s.peers mine with
    | some y => y.handover == o || (y.role == 1 && y.master == some o)
    | none => true
  if named then s.becomeMember o false
  else if s.unsettled then s.settleElection
  else if popcount 4 (x.view - x.view / 2 ^ s.me % 2 * 2 ^ s.me) ≠ 1 ∧ outranks (s.rankOf o) (s.rankOf mine) then s.waitJoin
  else s

/-- What the package does upon another's HELLO (R622 to R625); a package that has declared a domain waits (R643). -/
def State.helloReact (s : State) (o : Nat) (x : Peer) : State :=
  let st := s.obj O.STACK_STATE
  if st = 1 then
    match x.master with
    | some m =>
      if m = s.me ∨ x.role = 3 then s
      else if s.domState 0 = 0 ∧ s.domState 1 = 0 then s.becomeMember m true else s.waitJoin
    | none => s
  else if st = 3 then (if x.role = 2 then s.meetMaster o x else s)
  else if st = 2 then
    if o = s.obj O.STACK_MASTER then
      if x.role = 2 ∧ x.handover = s.me then s.becomeMaster
      else if x.role = 3 then s.waitJoin
      else s
    else if x.role = 2 then s.otherMaster o x
    else s
  else s

/-- A HELLO with the package's own member number from another package (R625): a package that is not yet part of a stack is rejected. -/
def State.helloSame (s : State) (x : Peer) : State :=
  let st := s.obj O.STACK_STATE
  let part := x.role == 1 || x.role == 2
  if x.serial = s.serialBe then s
  else if (st = 1 ∨ st = 4 ∨ st = 3 ∧ !s.hasMembers) ∧ part then s.rejectDup
  else s

/-- HELLO_RECEIVED (R620, R621). -/
def State.helloReceived (s : State) (p : Nat) (m : Bytes) : State :=
  let o := helloOrigin m
  let x := helloPeer m
  if !s.up 0 ∨ !s.flag O.STACK_ENABLE ∨ !s.spanPorts.contains p ∨ m.length ≠ 32 ∨ byteAt m 0 ≠ 1 ∨ helloHops m = 3 then s
  else if o = s.me then s.helloSame x
  else
    let dup := bit s.viewNow o && (match tget none s.peers o with | some y => y.serial != x.serial | none => false)
    let s1 := { s with helloAt := tput 0 s.helloAt (1024 * o + 4 * p + helloHops m) (s.now + 1), peers := if dup then s.peers else tput none s.peers o (some x) }
    let s2 := (s1.helloForward p m).refreshView
    if dup then s2 else s2.helloReact o x

/-- MEMBER_TIMEOUT: a member of the view has not been heard within STACK_DEAD (R621). -/
def State.memberTimeout (s : State) (m : Nat) : State :=
  if s.flag O.STACK_ENABLE ∧ bit (s.obj O.STACK_VIEW) m ∧ m ≠ s.me ∧ !s.heard m then s.refreshView else s

/-- FORMING_TIMEOUT (R622). -/
def State.formingTimeout (s : State) : State :=
  if s.obj O.STACK_STATE = 1 ∧ s.passed s.formingAt (2 * s.obj O.STACK_DEAD * usU) then (s.refreshView).election else s

/-- STACK_HANDOVER names a member in the master's next HELLO (R624). -/
def State.stackHandover (s : State) (m : Nat) : State := if m = s.me then { s with handover := none } else { s with handover := some m }

/-- The refusal of a STACK_HANDOVER (R624). -/
def State.handoverConflict (s : State) (m : Nat) : Bool := s.obj O.STACK_STATE != 3 || !bit s.viewNow m

/-- STACK_JOIN = true joins a waiting package to the stack whose master it hears (R625, R626); its member number comes into force (R633). -/
def State.stackJoin (s : State) : State :=
  let st := s.obj O.STACK_STATE
  if st ≠ 4 ∧ st ≠ 5 then s
  else
    let s1 := (s.adopt O.STACK_MEMBER)
    let masters := (List.range 4).filter (fun m => s1.heard m && (match tget none s1.peers m with | some x => x.role == 2 | none => false))
    match masters with
    | [] => s
    | m :: l =>
      let best := l.foldl (fun a n => if outranks (s1.rankOf n) (s1.rankOf a) then n else a) m
      if s1.heard s1.me then s1.rejectDup
      else { ((s1.setObj O.REJECT_CAUSE 0).becomeMember best true).refreshView with joinOwed := true, upstream := none }

/-! Time across the stack. -/

/-- The commas a span port has sent on its first lane and their times in A and B, the last two (R445). -/
def State.commasOut (s : State) (p : Nat) : List (Nat × Nat × Nat) :=
  let n := s.commasSent p
  let ago := fun k => s.now - ((s.port p).streamAt + k * commaPeriod (s.mode p).lane)
  ((List.range (min n 2)).map (n - ·)).map (fun k => (k % 5, (s.txStamp p 1).1 - ago k, (s.txStamp p 2).1 - ago k))

/-- A comma reaches the first lane of a span port (R201, R445): its times are kept beside those of the one before, and those of the commas sent. -/
def State.commaNote (s : State) (l bits : Nat) : State :=
  match s.portOf l with
  | none => s
  | some p =>
    if l ≠ p ∨ !s.isSpan p then s
    else
      let c := s.rxCapture p
      let rx := tget [] s.commaRx p
      let s1 := if isComma bits then { s with commaRx := tput [] s.commaRx p (((commaPhase bits, c.vals.getD 0 0, c.vals.getD 1 0) :: rx).take 2) } else s
      { s1.sendCommas p with commaTx := tput [] s.commaTx p (s.commasOut p) }

/-- The stack time message of a port (R445): the last comma sent and the last received on its first lane. -/
def State.timeMessage (s : State) (p : Nat) : Bytes :=
  let tx := (tget [] s.commaTx p).headD (0, 0, 0)
  let rx := (tget [] s.commaRx p).headD (0, 0, 0)
  bytesOf [1, tx.1, rx.1, s.active, s.tagOf (8 + p) 0, s.tagOf (8 + p) 1, s.domState 1 * 4 + s.domState 0, 0] ++ natLe (s.obj O.PRES_OFFSET) 8 ++
    natLe (ts96 tx.2.1) 12 ++ natLe (ts96 tx.2.2) 12 ++ natLe (ts96 rx.2.1) 12 ++ natLe (ts96 rx.2.2) 12

/-- STACK_TIME_SEND: a master, or a member that forwards time downstream, sends its message, once in each comma period and 1 µs to 8 µs after the comma (R445,
R448). -/
def State.stackTimeSend (s : State) (p : Nat) : State :=
  let st := s.obj O.STACK_STATE
  let n := s.commasSent p
  let ago := s.now - ((s.port p).streamAt + n * commaPeriod (s.mode p).lane)
  if !s.up 0 ∨ !s.spanPorts.contains p ∨ (st ≠ 2 ∧ st ≠ 3) ∨ s.upstreamPort = p ∨ n = 0 ∨ ago < usU ∨ 8 * usU < ago ∨ (s.port p).timeSent = n then s
  else
    let s1 := { (s.sendCommas p).modPort p (fun x => { x with timeSent := n }) with commaTx := tput [] s.commaTx p (s.commasOut p) }
    s1.sendRecord p 2 (s1.timeMessage p)

/-- The error of a domain that a message gives, and the round-trip time (R446). -/
def spanError (t1 t4 t2 t3 asym : Int) : Int × Int :=
  let rtt := (t4 - t1) - (t3 - t2)
  (t1 + tdiv (rtt + asym) 2 - t2, rtt)

/-- A copy's servo and state for an error (R428, R429, R446). -/
def State.copyUpdate (s : State) (d : Nat) (e : Int) : State :=
  let x := s.dom d
  let r : Replica := { time := x.time, tickAt := x.tickAt, rate := x.rate, integ := x.integ, acc := x.acc, good := x.good, bad := x.bad, state := x.rstate }
  let r1 := (r.update e).counts e
  let st := if r1.state = 0 ∧ 16 ≤ r1.good ∨ r1.state = 2 ∧ 1000 ≤ r1.good then 1 else if r1.state = 1 ∧ 4 ≤ r1.bad then 2 else r1.state
  let keep := st == r1.state
  let s1 := s.modDom d (fun y => { y with
    time := r1.time, rate := r1.rate, integ := r1.integ, rstate := st, good := if keep then r1.good else 0, bad := if keep then r1.bad else 0 })
  if st = 2 ∧ r1.state = 1 then ((s1.bump32 (O.REPLICA_FAULTS 0)).tileLife 0 4).raise 0 0x51 10 0
  else if st = 1 ∧ r1.state ≠ 1 then s1.endRoots 0 (fun z => z.kind == 0x51 && z.cls == 10) else s1

/-- The state of a domain follows upstream, and a loss that was declared while nothing came is void (R444, R447). -/
def State.followState (s0 : State) (d st : Nat) : State :=
  let s := s0.modDom d (fun x => { x with changes := [] })
  if st = s.domState d then s
  else if st = 1 then s.becomeLocked d
  else if st = 2 ∧ s.domState d = 1 then s.becomeLost d 6
  else s.setObj (O.DOM_STATE d) st

/-- A generation that differs from upstream's puts the copies of a domain in ACQUIRE (R447). -/
def State.followGen (s : State) (d gen : Nat) : State :=
  if s.obj (O.DOM_GEN d) = gen then s
  else (s.setObj (O.DOM_GEN d) gen).modDom d (fun x => { x with rstate := 0, good := 0, bad := 0 })

/-- The domains, the active domain and O follow a message (R444). -/
def State.followUpstream (s : State) (u : Upstream) (stA stB : Nat) : State :=
  let s1 := (((s.followGen 0 u.genA).followGen 1 u.genB).copyUpdate 0 u.errA).copyUpdate 1 u.errB
  (((s1.followState 0 stA).followState 1 stB).setObj O.ACTIVE_DOMAIN u.active |>.setObjS 64 O.PRES_OFFSET u.off).restorePair .active

/-- A message that would move a LOCKED copy of the same generation by more than 1 µs (R476). -/
def State.jumps (s : State) (d gen : Nat) (e : Int) : Bool :=
  (s.dom d).rstate == 1 && s.obj (O.DOM_GEN d) == gen && Decidable.decide (65536000 < absI e)

/-- STACK_TIME_MESSAGE (R446, R447, R476): accepted from the upstream port when both pairings can be made. -/
def State.stackTimeMessage (s : State) (p : Nat) (m : Bytes) : State :=
  if !s.up 0 ∨ !s.timeMember ∨ !s.spanPorts.contains p ∨ s.upstreamPort ≠ p ∨ m.length ≠ 64 ∨ byteAt m 0 ≠ 1 then s
  else
    match (tget [] s.commaRx p).find? (fun c => c.1 == byteAt m 1 % 8), (tget [] s.commaTx p).find? (fun c => c.1 == byteAt m 2 % 8) with
    | some rx, some tx =>
      let asym := s.objS 64 (O.SPAN_ASYM p)
      let at1 := fun (off : Nat) => (unitsOf96 (leAt m off 12) : Int)
      let a := spanError (at1 0x10) (at1 0x28) rx.2.1 tx.2.1 asym
      let b := spanError (at1 0x1C) (at1 0x34) rx.2.2 tx.2.2 asym
      let act := byteAt m 3 % 2
      let u : Upstream := ⟨a.1, b.1, byteAt m 4 / 16 % 4, byteAt m 5 / 16 % 4, act, toS 64 (leAt m 8 8)⟩
      let use := if act = 0 then a else b
      if !s.joinOwed && (s.jumps 0 u.genA a.1 || s.jumps 1 u.genB b.1) then s.bump O.STACK_JUMP_DROP
      else
      let s1 := ({ s with upstreamAt := s.L }.setObjS 64 O.SPAN_OFFSET use.1).setObj O.SPAN_RTT (ofS 32 (tdiv (use.2 * 1000) 65536))
      if s.joinOwed then { s1 with upstream := some u }
      else s1.followUpstream u (byteAt m 6 % 4) (byteAt m 6 / 4 % 4)
    | _, _ => s

/-- UPSTREAM_TIMEOUT: each copy that is LOCKED is declared lost, and HOLDOVER follows as the loss takes effect (R424, R425, R447). -/
def State.upstreamTimeout (s : State) : State :=
  if s.timeMember ∧ s.upstreamAt + 100 * usU ≤ s.L then (s.declareLost 0 6).declareLost 1 6 else s

/-- The re-epoch of a join, at a whole microsecond of L once the upstream value is known (R383, R437, R438, R626). -/
def State.joinStep (s : State) : State :=
  match s.upstream with
  | some u =>
    if !s.joinOwed ∨ !s.wholeUs then s
    else
      let go := fun (d : Nat) (e : Int) (gen : Nat) (a : State) => (a.doReepoch d (wrapTime ((a.masterNow d : Int) + e))).setObj (O.DOM_GEN d) gen
      let s1 := go 1 u.errB u.genB (go 0 u.errA u.genA s)
      { (((s1.setObj O.ACTIVE_DOMAIN u.active).setObjS 64 O.PRES_OFFSET u.off).restorePair .active).hatchReepoch s with joinOwed := false, upstream := none }
  | none => s

/-! Frames from a span link. -/

/-- COLOUR of a stack header; the reserved code is taken as red (R619). -/
def stackColour (hdr : Bytes) : Nat := min 2 (byteAt hdr 5 / 64)

/-- Where a directed frame goes (R628): to this member's port and queue, or to the route toward its member. -/
def State.stackDst (s : State) (hdr : Bytes) : Option HostMeta :=
  let b := byteAt hdr 1
  let q := byteAt hdr 4 / 16
  if !bit b 1 then some {}
  else if b / 64 = s.me then some { dstPort := if byteAt hdr 3 = 0xFF then 0xFE else byteAt hdr 3, queue := q }
  else
    let r := s.stackRoute (b / 64)
    if r = 0xFF then none else some { dstPort := r, queue := q }

/-- STACK_FRAME_RECEIVED (R628, R629): a frame of a FRAME record enters the span port's pipe with the colour, the timestamp and the tag of its header; one that
would cross a fourth span link, or whose member is unreachable, is dropped and counted. -/
def State.stackFrame (s : State) (p fid : Nat) (hdr data : Bytes) : State :=
  if !s.spanPorts.contains p ∨ s.fresh fid = false ∨ hdr.length ≠ 32 then s
  else
    let b := byteAt hdr 1
    if !s.pipeOn (tileOf p) (pipeOf p) then s.bump (O.PIPE_OFF_DROP (tileOf p))
    else if bit b 1 && b / 64 != s.me && Nat.ble 2 (field b 3 2) then s.bump O.STACK_HOP_DROP
    else
      match s.stackDst hdr with
      | none => s.bump O.STACK_UNREACH_DROP
      | some hm =>
        let rx := unitsOf64 (leAt hdr 8 8)
        let tag := byteAt hdr 16
        s.arrive fid {
          data := data, src := .stack p, hm := hm, ended := true, wire := data.length + 4, colour := stackColour hdr, matchId := 0,
          cap := ⟨[rx, rx, rx, rx], [tag, tag, tag, tag]⟩, origin := some ⟨field b 5 4, byteAt hdr 2, field b 3 2, bit b 0, hdr⟩ }

end Sys2Proof.Machine
end

