-- ==== Sys2Proof/Machine/Checks.lean ====
section
/-! DEFINITION. The checks of a value written to a dictionary object that depend on the write and the object alone (R8, R113, R125): reserved encodings
(0x06) and ranges (0x05). 0 where the value passes. -/

namespace Sys2Proof.Machine

/-- The check a row states (R8, R113). -/
def Row.check1 (r : Row) (v : Nat) : Nat :=
  match r.check with
  | .any => 0
  | .codes l => if l.contains v then 0 else 0x06
  | .mask m => if Nat.land v m = v then 0 else 0x06
  | .range lo hi =>
    let x : Int := if r.ty = 4 ∨ r.ty = 5 then toS (8 * r.size) v else v
    if lo ≤ x ∧ x ≤ hi then 0 else 0x05
  | .zeroOr lo hi => if v = 0 ∨ lo ≤ v ∧ v ≤ hi then 0 else 0x05
  | .pow2 lo hi => if isPow2 v ∧ lo ≤ v ∧ v ≤ hi then 0 else 0x05
  | .stepped lo hi step => if lo ≤ v ∧ v ≤ hi ∧ v % step = 0 then 0 else 0x05
  | .time => if (if r.size = 12 then okTs96 v else okTs64 v) then 0 else 0x06
  | .special => 0

/-- Two checks: the one that comes first in the order of R113 is reported. -/
def firstCheck (reserved range : Bool) : Nat := if reserved then 0x06 else if range then 0x05 else 0

/-- TX_FIR_FIXED (R150, R151). -/
def firCheck (v : Nat) : Nat := firstCheck (v / 2 ^ 24 != 0) (!firInRange v || !firBalanced v)

/-- PROC_COPY_DST and its fellows (R293, R296): an AFI channel or a receive ring of the variant; a kind that is not listed is out of range (R8). The table names
nothing in bits 31:18 and does not call them reserved; the model refuses a value there as reserved (DESIGN CHOICE, assumption 75). -/
def procCheck (v : Variant) (x : Nat) : Nat :=
  let kind := x / 65536
  let dst := x % 65536
  firstCheck (Nat.ble (2 ^ 18) x)
    (kind == 0 || kind == 3 || if kind = 1 then Nat.ble (2 * v.tiles) dst else Nat.ble (2048 * v.tiles) dst)

/-- ADMIT_PROFILE_n (R344). -/
def profileRecCheck (x : Nat) : Nat := firstCheck (octets x 0x11 3 != 0) (Nat.blt 131072 (octets x 0 4) || Nat.blt 64 (octet x 0x10))

/-- QSEL and QSTAT_CLEAR (R355): a kind that is not listed and a number outside its kind are out of range (R8). -/
def qselCheck (x : Nat) (all : Bool) : Nat :=
  let kind := x / 4096
  let n := x % 4096
  if all && x == 0xFFFF then 0
  else firstCheck false (Nat.blt 2 kind || if kind = 0 then Nat.ble 288 n else if kind = 1 then Nat.ble 2 n else Nat.ble 2048 n)

/-- A shaper record (R379). -/
def shaperCheck (x : Nat) (queue : Bool) : Nat :=
  let w := octets x 0 2
  let ov := toS 32 (octets x 4 4)
  let rate := octets x 8 4
  let burst := octets x 12 4
  firstCheck (octets x 2 2 != 0 || (!queue && w != 0))
    ((queue && (w == 0 || Nat.blt 4096 w)) || Decidable.decide (ov < -64 ∨ 127 < ov) || Nat.blt 3200000 rate || burst == 0 || Nat.blt 16777216 burst)

/-- A part of an administrative list (R385, R8): OP other than SET_GATES and the byte after it are reserved. -/
def listCheck (x : Nat) : Nat := firstCheck ((List.range 64).any (fun i => octets x (8 * i + 2) 2 != 0)) false

/-- The ring a requester acts on: bit 15 of RING_SEL for a receive ring, and the ring (R519). -/
def selRx (sel : Nat) : Bool := bit sel 15

/-- What a requester wrote last to a selection or probe object (R125, R519). -/
def State.selection (s : State) (r : Requester) (key : Nat) : Nat :=
  match s.selects.find? (fun x => x.1 == r && x.2.1 == key) with
  | some x => leNat x.2.2
  | none => objDflt s.variant key

/-- A requester's selection is written. -/
def State.setSelection (s : State) (r : Requester) (key : Nat) (data : Bytes) : State :=
  { s with selects := (r, key, data) :: s.selects.filter (fun x => !(x.1 == r && x.2.1 == key)) }

/-- The check of a value whose rule stands with its object. `i` is the number of the object's tile or port. The row of RING_SEL names bits 15 and 10:0 and does not
call the others reserved; the model refuses a value in bits 14:11 as reserved (DESIGN CHOICE, assumption 75). -/
def State.specialCheck (s : State) (r : Requester) (key i v : Nat) : Nat :=
  if key = O.ROUTE i then routeCheck s.variant i v
  else if key = O.INBAND_PORT then firstCheck false (v != 0xFF && Nat.ble s.variant.ports v)
  else if key = O.VIEW_MEMBER then firstCheck false (v != 0xFF && Nat.blt 3 v)
  else if key = O.MAINT_SHARE i then shareCheck v
  else if keyIndex key = 0x1300 + i ∧ 1 ≤ keySub key ∧ keySub key ≤ 6 then budgetCheck (keySub key - 1) v
  else if key = O.TX_FIR_FIXED i then firCheck v
  else if key = O.EM_PROBE i then s.probeCheck (natLe v 68)
  else if key = O.TC_PROBE i then tcProbeCheck (natLe v 128)
  else if key = O.PROC_COPY_DST i ∨ key = O.PROC_UNMATCHED_DST i ∨ key = O.PROC_MALFORMED_DST i then procCheck s.variant v
  else if key = O.AFI_PROFILE i then firstCheck false (Nat.blt 31 (octet v 0) || Nat.blt 31 (octet v 1))
  else if key = O.QSEL i then qselCheck v false
  else if key = O.QSTAT_CLEAR i then qselCheck v true
  else if keyIndex key = 0x4010 + i then profileRecCheck v
  else if key = O.ADMIT_PROFILE i then firstCheck false ((List.range 16).any (fun q => Nat.blt 31 (octet v q)))
  else if key = O.POL_WRITE i then (if polCheck v = 0x09 then 0 else polCheck v)
  else if key = O.PORT_SHAPE i then shaperCheck v false
  else if keyIndex key = 0x4200 + i then shaperCheck v true
  else if keyIndex key = 0x4300 + i then listCheck v
  else if keyIndex key = 0x6000 + i then progCheck v
  else if key = O.RING_SEL i then firstCheck (field v 14 11 != 0) false
  else if key = O.RING_CFG i then ringCfgCheck (selRx (s.selection r (O.RING_SEL i))) v
  else if key = O.RING_SHADOW i then ringShadowCheck v
  else if key = O.CQ_CFG i then cqCfgCheck v
  else if key = O.CNT_PRESET i then s.presetCheck i v
  else if keyIndex key = 0x7008 + i then evcCheck v
  else if keyIndex key = 0x7018 + i then (if mapCheck s.variant i v = 0x09 then 0 else mapCheck s.variant i v)
  else if key = O.PS_SEL then psSelCheck v
  else 0

/-- Further checks of a value that passes its row's: where a port may stand (R227), a pattern that does not suit the lane (R174), and the lifecycle transitions
that do not exist (R604). -/
def State.furtherCheck (s : State) (key i v : Nat) : Nat :=
  if key = O.PORT_MODE i then modeRange i v
  else if key = O.TX_PATTERN i ∨ key = O.RX_CHECKER i then (if patternSuits v (s.obj (O.LANE_MODE i)) then 0 else 0x05)
  else if key = O.LC_REQUEST then (if s.lcJudge v = 0x05 then 0x05 else 0)
  else 0

/-- Checks 7 and 8 of R113 of a value written to an object. -/
def State.valueCheck (s : State) (req : Requester) (r : Row) (key v : Nat) : Nat :=
  let i := match pageAt s.variant (keyIndex key) with
    | some (_, n) => n
    | none => 0
  if r.effect = .etch ∧ r.check = .special then s.etchForm key v
  else if r.check = .special then s.specialCheck req key i v
  else if r.check1 v ≠ 0 then r.check1 v
  else s.furtherCheck key i v

end Sys2Proof.Machine
end

