-- ==== Sys2Proof/Machine/Crypto.lean ====
section
/-! DEFINITION. AES-128 as FIPS 197 defines it, AES-CMAC as RFC 4493 does, and the key unwrap of RFC 3394, which R118, R121, R134, R138 and R142 name. Blocks are
lists of 16 bytes as numbers. -/

namespace Sys2Proof.Machine

/-- The S-box of FIPS 197, in rows of 16. -/
def sbox : List (List Nat) :=
  [[0x63, 0x7c, 0x77, 0x7b, 0xf2, 0x6b, 0x6f, 0xc5, 0x30, 0x01, 0x67, 0x2b, 0xfe, 0xd7, 0xab, 0x76],
   [0xca, 0x82, 0xc9, 0x7d, 0xfa, 0x59, 0x47, 0xf0, 0xad, 0xd4, 0xa2, 0xaf, 0x9c, 0xa4, 0x72, 0xc0],
   [0xb7, 0xfd, 0x93, 0x26, 0x36, 0x3f, 0xf7, 0xcc, 0x34, 0xa5, 0xe5, 0xf1, 0x71, 0xd8, 0x31, 0x15],
   [0x04, 0xc7, 0x23, 0xc3, 0x18, 0x96, 0x05, 0x9a, 0x07, 0x12, 0x80, 0xe2, 0xeb, 0x27, 0xb2, 0x75],
   [0x09, 0x83, 0x2c, 0x1a, 0x1b, 0x6e, 0x5a, 0xa0, 0x52, 0x3b, 0xd6, 0xb3, 0x29, 0xe3, 0x2f, 0x84],
   [0x53, 0xd1, 0x00, 0xed, 0x20, 0xfc, 0xb1, 0x5b, 0x6a, 0xcb, 0xbe, 0x39, 0x4a, 0x4c, 0x58, 0xcf],
   [0xd0, 0xef, 0xaa, 0xfb, 0x43, 0x4d, 0x33, 0x85, 0x45, 0xf9, 0x02, 0x7f, 0x50, 0x3c, 0x9f, 0xa8],
   [0x51, 0xa3, 0x40, 0x8f, 0x92, 0x9d, 0x38, 0xf5, 0xbc, 0xb6, 0xda, 0x21, 0x10, 0xff, 0xf3, 0xd2]] ++
  [[0xcd, 0x0c, 0x13, 0xec, 0x5f, 0x97, 0x44, 0x17, 0xc4, 0xa7, 0x7e, 0x3d, 0x64, 0x5d, 0x19, 0x73],
   [0x60, 0x81, 0x4f, 0xdc, 0x22, 0x2a, 0x90, 0x88, 0x46, 0xee, 0xb8, 0x14, 0xde, 0x5e, 0x0b, 0xdb],
   [0xe0, 0x32, 0x3a, 0x0a, 0x49, 0x06, 0x24, 0x5c, 0xc2, 0xd3, 0xac, 0x62, 0x91, 0x95, 0xe4, 0x79],
   [0xe7, 0xc8, 0x37, 0x6d, 0x8d, 0xd5, 0x4e, 0xa9, 0x6c, 0x56, 0xf4, 0xea, 0x65, 0x7a, 0xae, 0x08],
   [0xba, 0x78, 0x25, 0x2e, 0x1c, 0xa6, 0xb4, 0xc6, 0xe8, 0xdd, 0x74, 0x1f, 0x4b, 0xbd, 0x8b, 0x8a],
   [0x70, 0x3e, 0xb5, 0x66, 0x48, 0x03, 0xf6, 0x0e, 0x61, 0x35, 0x57, 0xb9, 0x86, 0xc1, 0x1d, 0x9e],
   [0xe1, 0xf8, 0x98, 0x11, 0x69, 0xd9, 0x8e, 0x94, 0x9b, 0x1e, 0x87, 0xe9, 0xce, 0x55, 0x28, 0xdf],
   [0x8c, 0xa1, 0x89, 0x0d, 0xbf, 0xe6, 0x42, 0x68, 0x41, 0x99, 0x2d, 0x0f, 0xb0, 0x54, 0xbb, 0x16]]

/-- The inverse S-box of FIPS 197, in rows of 16. -/
def invSbox : List (List Nat) :=
  [[0x52, 0x09, 0x6a, 0xd5, 0x30, 0x36, 0xa5, 0x38, 0xbf, 0x40, 0xa3, 0x9e, 0x81, 0xf3, 0xd7, 0xfb],
   [0x7c, 0xe3, 0x39, 0x82, 0x9b, 0x2f, 0xff, 0x87, 0x34, 0x8e, 0x43, 0x44, 0xc4, 0xde, 0xe9, 0xcb],
   [0x54, 0x7b, 0x94, 0x32, 0xa6, 0xc2, 0x23, 0x3d, 0xee, 0x4c, 0x95, 0x0b, 0x42, 0xfa, 0xc3, 0x4e],
   [0x08, 0x2e, 0xa1, 0x66, 0x28, 0xd9, 0x24, 0xb2, 0x76, 0x5b, 0xa2, 0x49, 0x6d, 0x8b, 0xd1, 0x25],
   [0x72, 0xf8, 0xf6, 0x64, 0x86, 0x68, 0x98, 0x16, 0xd4, 0xa4, 0x5c, 0xcc, 0x5d, 0x65, 0xb6, 0x92],
   [0x6c, 0x70, 0x48, 0x50, 0xfd, 0xed, 0xb9, 0xda, 0x5e, 0x15, 0x46, 0x57, 0xa7, 0x8d, 0x9d, 0x84],
   [0x90, 0xd8, 0xab, 0x00, 0x8c, 0xbc, 0xd3, 0x0a, 0xf7, 0xe4, 0x58, 0x05, 0xb8, 0xb3, 0x45, 0x06],
   [0xd0, 0x2c, 0x1e, 0x8f, 0xca, 0x3f, 0x0f, 0x02, 0xc1, 0xaf, 0xbd, 0x03, 0x01, 0x13, 0x8a, 0x6b]] ++
  [[0x3a, 0x91, 0x11, 0x41, 0x4f, 0x67, 0xdc, 0xea, 0x97, 0xf2, 0xcf, 0xce, 0xf0, 0xb4, 0xe6, 0x73],
   [0x96, 0xac, 0x74, 0x22, 0xe7, 0xad, 0x35, 0x85, 0xe2, 0xf9, 0x37, 0xe8, 0x1c, 0x75, 0xdf, 0x6e],
   [0x47, 0xf1, 0x1a, 0x71, 0x1d, 0x29, 0xc5, 0x89, 0x6f, 0xb7, 0x62, 0x0e, 0xaa, 0x18, 0xbe, 0x1b],
   [0xfc, 0x56, 0x3e, 0x4b, 0xc6, 0xd2, 0x79, 0x20, 0x9a, 0xdb, 0xc0, 0xfe, 0x78, 0xcd, 0x5a, 0xf4],
   [0x1f, 0xdd, 0xa8, 0x33, 0x88, 0x07, 0xc7, 0x31, 0xb1, 0x12, 0x10, 0x59, 0x27, 0x80, 0xec, 0x5f],
   [0x60, 0x51, 0x7f, 0xa9, 0x19, 0xb5, 0x4a, 0x0d, 0x2d, 0xe5, 0x7a, 0x9f, 0x93, 0xc9, 0x9c, 0xef],
   [0xa0, 0xe0, 0x3b, 0x4d, 0xae, 0x2a, 0xf5, 0xb0, 0xc8, 0xeb, 0xbb, 0x3c, 0x83, 0x53, 0x99, 0x61],
   [0x17, 0x2b, 0x04, 0x7e, 0xba, 0x77, 0xd6, 0x26, 0xe1, 0x69, 0x14, 0x63, 0x55, 0x21, 0x0c, 0x7d]]

/-- One byte through the S-box. -/
def subByte (n : Nat) : Nat := (sbox.getD (n / 16) []).getD (n % 16) 0

/-- One byte back through the S-box. -/
def unsubByte (n : Nat) : Nat := (invSbox.getD (n / 16) []).getD (n % 16) 0

/-- Multiplication of a byte by x in GF(2^8). -/
def xtime (n : Nat) : Nat := 2 * n ^^^ n / 128 * 0x11B

/-- Two blocks added. -/
def xorBlock (a b : List Nat) : List Nat := List.zipWith (· ^^^ ·) a b

/-- MixColumns: each column multiplied by 2, 3, 1, 1. -/
def mixColumns : List Nat → List Nat
  | a :: b :: c :: d :: rest =>
    let t := a ^^^ b ^^^ c ^^^ d
    (a ^^^ t ^^^ xtime (a ^^^ b)) :: (b ^^^ t ^^^ xtime (b ^^^ c)) :: (c ^^^ t ^^^ xtime (c ^^^ d)) :: (d ^^^ t ^^^ xtime (d ^^^ a)) :: mixColumns rest
  | l => l

/-- InvMixColumns is MixColumns of columns to which 4 times the sum of each second pair has been added. -/
def unmixed : List Nat → List Nat
  | a :: b :: c :: d :: rest =>
    let u := xtime (xtime (a ^^^ c))
    let v := xtime (xtime (b ^^^ d))
    (a ^^^ u) :: (b ^^^ v) :: (c ^^^ u) :: (d ^^^ v) :: unmixed rest
  | l => l

/-- The rows of a block shifted, or shifted back. -/
def shiftRows (back : Bool) (st : List Nat) : List Nat :=
  (List.range 16).map (fun i =>
    let c := i / 4
    let r := i % 4
    st.getD (4 * ((c + (if back then 4 - r else r)) % 4) + r) 0)

/-- The next round key, with its round constant. -/
def nextKey (rcon : Nat) (k : List Nat) : List Nat :=
  let w := fun (i : Nat) => (k.drop (4 * i)).take 4
  let g := match w 3 with
    | [a, b, c, d] => [subByte b ^^^ rcon, subByte c, subByte d, subByte a]
    | l => l
  let w0 := xorBlock (w 0) g
  let w1 := xorBlock (w 1) w0
  let w2 := xorBlock (w 2) w1
  w0 ++ w1 ++ w2 ++ xorBlock (w 3) w2

/-- The round keys that follow a key. -/
def roundKeys : List Nat → List Nat → List (List Nat)
  | [], k => [k]
  | r :: rest, k => k :: roundKeys rest (nextKey r k)

/-- The eleven round keys of AES-128. -/
def keySchedule (key : List Nat) : List (List Nat) := roundKeys [0x01, 0x02, 0x04, 0x08, 0x10, 0x20, 0x40, 0x80, 0x1B, 0x36] key

/-- The rounds of encryption after the first key is added. -/
def encRounds : List (List Nat) → List Nat → List Nat
  | [], st => st
  | [k], st => xorBlock (shiftRows false (st.map subByte)) k
  | k :: rest, st => encRounds rest (xorBlock (mixColumns (shiftRows false (st.map subByte))) k)

/-- AES-128 encryption of a block. -/
def aesEnc (key block : List Nat) : List Nat :=
  match keySchedule key with
  | k :: rest => encRounds rest (xorBlock block k)
  | [] => block

/-- The rounds of decryption after the last key is added; the keys come in falling order. -/
def decRounds : List (List Nat) → List Nat → List Nat
  | [], st => st
  | [k], st => xorBlock ((shiftRows true st).map unsubByte) k
  | k :: rest, st => decRounds rest (mixColumns (unmixed (xorBlock ((shiftRows true st).map unsubByte) k)))

/-- AES-128 decryption of a block. -/
def aesDec (key block : List Nat) : List Nat :=
  match (keySchedule key).reverse with
  | k :: rest => decRounds rest (xorBlock block k)
  | [] => block

/-- A block doubled in GF(2^128), for the subkeys of RFC 4493. -/
def doubleBlock (b : List Nat) : List Nat :=
  let n := b.foldl (fun a x => a * 256 + x) 0
  let m := 2 * n % 2 ^ 128 ^^^ (if 2 ^ 127 ≤ n then 0x87 else 0)
  (List.range 16).map (fun i => m / 256 ^ (15 - i) % 256)

/-- The chain of CMAC over the blocks before the last. -/
def cmacChain (key : List Nat) : Nat → List Nat → List Nat → List Nat × List Nat
  | 0, x, m => (x, m)
  | n + 1, x, m => if m.length ≤ 16 then (x, m) else cmacChain key n (aesEnc key (xorBlock x (m.take 16))) (m.drop 16)

/-- AES-128-CMAC of a message (RFC 4493). -/
def cmac (key msg : Bytes) : Bytes :=
  let k := key.map (·.toNat)
  let m := msg.map (·.toNat)
  let k1 := doubleBlock (aesEnc k (List.replicate 16 0))
  let r := cmacChain k m.length (List.replicate 16 0) m
  let last := if r.2.length = 16 then xorBlock r.2 k1
    else xorBlock (r.2 ++ [0x80] ++ List.replicate (15 - r.2.length) 0) (doubleBlock k1)
  bytesOf (aesEnc k (xorBlock r.1 last))

/-- The first 8 bytes of a CMAC, as tags carry them (R118, R134, R138, R142). -/
def tag8 (key msg : Bytes) : Bytes := (cmac key msg).take 8

/-- The steps of RFC 3394's unwrap, from the last back: the register A and the two halves of the key. -/
def unwrapSteps (key : List Nat) : Nat → List Nat → List Nat → List Nat → List Nat × List Nat × List Nat
  | 0, a, r1, r2 => (a, r1, r2)
  | t + 1, a, r1, r2 =>
    let n := t + 1
    let a1 := a.take 7 ++ [a.getD 7 0 ^^^ n]
    if n % 2 = 0 then
      let b := aesDec key (a1 ++ r2)
      unwrapSteps key t (b.take 8) r1 (b.drop 8)
    else
      let b := aesDec key (a1 ++ r1)
      unwrapSteps key t (b.take 8) (b.drop 8) r2

/-- A wrapped key of 24 bytes unwrapped (RFC 3394): none where the integrity check fails. -/
def unwrapKey (key wrapped : Bytes) : Option Bytes :=
  let w := wrapped.map (·.toNat)
  let r := unwrapSteps (key.map (·.toNat)) 12 (w.take 8) ((w.drop 8).take 8) (w.drop 16)
  if r.1 = List.replicate 8 0xA6 then some (bytesOf (r.2.1 ++ r.2.2)) else none

end Sys2Proof.Machine
end

