-- ==== Sys2Proof/Machine/Conflicts.lean ====
section
/-! DEFINITION. The refusals of a write by other objects' values and by the interlocks (checks 11 and 12 of R113; R597), each with its row of the interlock
table, 0 for none. `a` holds the values after the write or its whole group (R128). -/

namespace Sys2Proof.Machine

/-- The number an object's index or subindex counts (R10): its tile, port, lane, slot or domain; at an index whose subindices count tiles, the tile. -/
def unitOf (v : Variant) (key : Nat) : Nat :=
  match pageAt v (keyIndex key) with
  | some (p, i) => if p.family == .tileSub then keySub key - 1 else i
  | none => 0

/-- The ring a requester has selected on a tile (R519): whether it is a receive ring, and its number. -/
def State.selRing (s : State) (r : Requester) (t : Nat) : Bool × Nat :=
  let v := s.selection r (O.RING_SEL t)
  (selRx v, v % 2048)

/-- The completion queue a requester has selected on a tile (R519). -/
def State.selCq (s : State) (r : Requester) (t : Nat) : Nat := s.selection r (O.CQ_SEL t) % 1024

/-- Selections and probes, kept for each requester (R125, R285, R288, R519, R631). -/
def isSelection (key i : Nat) : Bool :=
  key == O.RING_SEL i || key == O.CQ_SEL i || key == O.POL_SEL i || key == O.QSEL i || key == O.PS_SEL || key == O.EM_PROBE i || key == O.TC_PROBE i ||
    key == O.VIEW_MEMBER

/-- A key slot takes a wrapped key that unwraps under slot 0's (R121). -/
def State.loadKey (s : State) (k : Nat) (data : Bytes) : State :=
  match unwrapKey (s.keyOf 0) data with
  | some v => { s with keys := tput (List.replicate 16 0) s.keys k v }
  | none => s

/-- The value alone of a write put in its place, without any effect: what later checks of the same group see (R128). -/
def State.rawSet (s : State) (r : Requester) (key : Nat) (data : Bytes) : State :=
  let i := unitOf s.variant key
  let v := leNat data
  let ring := s.selRing r i
  if isSelection key i then s.setSelection r key data
  else if key = O.RING_CFG i then s.modRing i ring.1 ring.2 (fun x => { x with cfg := v })
  else if key = O.RING_SHADOW i then s.modRing i ring.1 ring.2 (fun x => { x with shadow := v })
  else if key = O.CQ_CFG i then s.modCq i (s.selCq r i) (fun x => { x with cfg := v })
  else if key = O.KEY_WRAPPED i then s.loadKey i data
  else if key = O.CQ_CTL i then (if v = 1 then (s.cqOn i (s.selCq r i)).2 else s)
  else s.setObj key v

/-! Objects writable only in a mode (check 4 of R113). -/

/-- Whether an object that is writable only in a mode may be written (R37, R154, R173, R519). -/
def State.modeAllows (s : State) (r : Requester) (key i : Nat) : Bool :=
  if key = O.TX_FIR_FIXED i then s.obj (O.TX_FIR_MODE i) == 1
  else if key = O.ROUTE i then s.obj (O.ROUTE_MODE i) == 1
  else if key = O.LOOP i then (match s.portOf i with
    | some p => p == i
    | none => true)
  else if key = O.RING_CFG i then (s.ring i (s.selRing r i).1 (s.selRing r i).2).st == 0
  else if key = O.CQ_CFG i then (s.cq i (s.selCq r i)).st == 0
  else true

/-! Conflicts by group of objects. Each answers the result code and the interlock row. -/

/-- A conflict of values: CONFIG_CONFLICT. -/
def config (bad : Bool) : Nat × Nat := if bad then (0x09, 0) else (0, 0)

/-- The first of two conflicts. -/
def orElse (x y : Nat × Nat) : Nat × Nat := if x.1 = 0 then y else x

/-- A lane's objects (R163, R176, R178). -/
def State.laneConflict (a : State) (l key v : Nat) : Nat × Nat :=
  if key = O.LOS_ASSERT_MV l ∨ key = O.LOS_DEASSERT_MV l then config (Nat.blt (a.obj (O.LOS_DEASSERT_MV l)) (a.obj (O.LOS_ASSERT_MV l) + 15))
  else if key = O.LOOP l ∨ key = O.TX_PATTERN l then a.testConflict l v
  else if key = O.LANE_REST l ∧ v = 1 then a.restConflict l
  else (0, 0)

/-- A queue of the port has launch time enabled. -/
def State.launches (s : State) (p : Nat) : Bool := (List.range 16).any (fun q => bit (s.obj (O.LAUNCH_CFG p q)) 0)

/-- A hatch list or launch time may not be enabled (R223, R241). -/
def State.hatchConflict (a : State) (p : Nat) : Nat × Nat :=
  if a.narrow p || a.widthChanging p then (0x0A, 11) else config (a.obj (O.DUPLEX_CFG p) != 0)

/-- A port's objects (R223, R228, R241, R247, R258, R597). -/
def State.portConflict (a : State) (p key v : Nat) : Nat × Nat :=
  if key = O.PORT_MODE p then (if a.laneWork p then (0x0A, 5) else config (portsConflict a p))
  else if key = O.FEC_MODE p then config (portsConflict a p)
  else if key = O.DUPLEX_CFG p then config (v != 0 && (a.obj (O.PORT_MODE p) != 17 || a.flag (O.HATCH_ENABLE p) || a.launches p))
  else if key = O.SGMII_SPEED p then config (v != 0 && a.obj (O.PORT_MODE p) != 17)
  else if key = O.HATCH_ENABLE p then (if v = 1 then a.hatchConflict p else (0, 0))
  else if (List.range 16).any (fun q => key == O.LAUNCH_CFG p q) then (if bit v 0 then a.hatchConflict p else (0, 0))
  else if key = O.HATCH_COMMIT p then (if v = 1 then (a.commitCheck p, 0) else (0, 0))
  else if key = O.PAUSE_REFRESH p ∨ key = O.PAUSE_TX_TIME p then config (Nat.blt (a.obj (O.PAUSE_TX_TIME p)) (a.obj (O.PAUSE_REFRESH p)))
  else config ((List.range 8).any (fun i => (key == O.XOFF_CELLS p i || key == O.XON_CELLS p i) && Nat.ble (a.obj (O.XOFF_CELLS p i)) (a.obj (O.XON_CELLS p i))))

/-- What CORE_PWR, BASIN_PWR and GROUPS_EN may not leave of a tile, and a ring or queue that may not run with the DMA domain off (R556). -/
def State.powerConflict (a : State) (t : Nat) : Bool :=
  let core := a.obj (O.CORE_PWR t)
  let basin := a.obj (O.BASIN_PWR t)
  let pipe := bit core 0 || bit core 1
  (pipe && (!bit core 2 || !bit core 3 || basin == 0)) || (bit core 3 && basin == 0) ||
    (!bit core 4 && ((a.ringList t).any (fun e => e.2.2.st == 1) || (List.range 1024).any (fun q => (a.cq t q).st == 1))) ||
    (List.range 8).any (fun g => !bit basin g && bit (a.obj (O.GROUPS_EN t)) g)

/-- The rings and queues of a tile (R484, R485, R509, R518, R519, R556). -/
def State.dmaConflict (a : State) (r : Requester) (t key v : Nat) : Nat × Nat :=
  let ring := a.selRing r t
  let off := !bit (a.obj (O.CORE_PWR t)) 4
  if key = O.RING_CTL t ∧ v = 1 then (if off then (0x09, 0) else ((a.ringStart t ring.1 ring.2).1, 0))
  else if key = O.RING_ARM t ∧ v = 1 then ((a.ringArm t ring.1 ring.2).1, 0)
  else if key = O.CQ_CTL t then (if v = 1 then (if off then (0x09, 0) else ((a.cqOn t (a.selCq r t)).1, 0)) else ((a.cqOff t (a.selCq r t)).1, 0))
  else (0, 0)

/-- A control-block update is in progress (R597): of one tile, or of any. -/
def State.updates (s : State) (t : Option Nat) : Bool :=
  match s.fwUpdate with
  | some u => (match t with
    | some x => u.cur == some x
    | none => true)
  | none => false

/-- The power of tiles and of the package, firmware and the lifecycle (R560, R597, R604, R610). -/
def State.packageConflict (a : State) (key v : Nat) : Nat × Nat :=
  let t := unitOf a.variant key
  if key = O.TILE_POWER t then (if v = 0 then (0, 0) else if a.updates (some t) then (0x0A, 6) else (a.dormantCheck t, 0))
  else if key = O.CORE_PWR t ∨ key = O.BASIN_PWR t then config (a.powerConflict t)
  else if key = O.SLEEP_REQ then (if v = 1 ∧ a.updates none then (0x0A, 6) else (0, 0))
  else if key = O.LC_REQUEST then (if v = 0 then (0, 0) else if a.updates none then (0x0A, 6) else (a.lcJudge v, 0))
  else if key = O.FW_ACTIVATE then
    (if a.updates none then (0x0A, 6) else if a.obj O.ETCH_STATE = 2 then (0x0A, 7) else config (a.fwRefused v))
  else (0, 0)

/-- A tile's other objects (R336, R341, R344, R530, R542, R543, R556, R595). -/
def State.tileConflict (a : State) (t key v : Nat) : Nat × Nat :=
  if key = O.POL_WRITE t then config (polCheck v == 0x09)
  else if key = O.GROUPS_EN t then orElse (config (a.powerConflict t)) (basinConflict a t key v, 0)
  else if (List.range 64).any (fun n => key == O.EVC_CFG t n) then config (evcConflict t v)
  else if (List.range 32).any (fun n => key == O.PAGE_MAP t n) then
    config (a.flag (O.PAGE_GRANT t ((key - O.PAGE_MAP t 0) / 4)) || mapCheck a.variant t v == 0x09)
  else if key = O.MAINT_SHARE t ∨ (List.range 6).any (fun i => key == O.BUDGET t i) then config (budgetConflict a t)
  else (basinConflict a t key v, 0)

/-- The stack's objects (R624, R631). -/
def State.stackConflict (a : State) (key v : Nat) : Nat × Nat :=
  if key = O.VIEW_MEMBER then config (v != 0xFF && a.obj O.STACK_STATE != 3)
  else if key = O.STACK_HANDOVER then config (a.handoverConflict v)
  else (0, 0)

/-- The interlocks that meet any write (R591, R597): a lifecycle change or an entry to package sleep, and an isolated tile. -/
def State.anyWriteConflict (s : State) (key : Nat) : Nat × Nat :=
  let t := ownerTile s.variant key
  if s.lc.isSome || s.sleepEntry then (0x0A, 8)
  else if s.obj (O.TILE_STATE t) = 4 ∧ key ≠ O.TILE_RECOVER t then (0x0A, 10)
  else (0, 0)

/-- A new key that does not unwrap (R121): that of slot 0 under slot 0's key before the write or its group, another slot's under the key that slot 0 holds after it
(R128). -/
def State.keyConflict (s a : State) (key : Nat) (data : Bytes) : Nat × Nat :=
  let k := unitOf s.variant key
  if key = O.KEY_WRAPPED k ∧ (unwrapKey ((if k = 0 then s else a).keyOf 0) data).isNone then (0x12, 0) else (0, 0)

/-- The conflict of a write: `s` before it, `a` with the values after it or its group (R113, R128, R597). -/
def State.conflict (s a : State) (r : Requester) (key : Nat) (data : Bytes) : Nat × Nat :=
  let i := unitOf s.variant key
  let v := leNat data
  let t := ownerTile s.variant key
  [s.anyWriteConflict key, a.laneConflict i key v, a.portConflict i key v, (timeConflict s a key v, 0), a.packageConflict key v, a.tileConflict t key v,
    a.dmaConflict r t key v, a.stackConflict key v, (if key = O.ETCH_CTL then (s.etchCtl r v).1 else 0, 0), s.keyConflict a key data].foldl orElse (0, 0)

end Sys2Proof.Machine
end

