-- ==== Sys2Proof/Machine/Effects.lean ====
section
/-! DEFINITION. What an accepted write of a dictionary object does (R13, R109): each object by the rule its table names; an object with no rule of its own
takes the value at once, or at the event its effect code names. -/

namespace Sys2Proof.Machine

/-! The effects of a lane's objects. -/

/-- LOOP applies to every lane of the port at once (R173). -/
def State.loopWrite (s : State) (p v : Nat) : State :=
  (s.each (s.lanesOf p) (fun l a => a.setObj (O.LOOP l) v)).testChanged p

/-- A lane's objects. -/
def State.laneEffect (s : State) (l key v : Nat) : Option State :=
  if key = O.HIST_CLEAR l then some (if v = 1 then s.histClear l else s)
  else if key = O.TX_FIR_FIXED l then some (s.firFixed l v)
  else if key = O.LOOP l then some (s.loopWrite l v)
  else if key = O.TX_PATTERN l then some ((s.setObj (O.TX_PATTERN l) v).testChanged l)
  else if key = O.RX_CHECKER l then some (s.checker l v)
  else if key = O.LANE_REST l then some (s.laneRest l (v == 1))
  else none

/-! The effects of a port's objects. -/

/-- MAC_ENABLE (R184). -/
def State.macEnable (s : State) (p v : Nat) : State := (s.setObj (O.MAC_ENABLE p) v).refreshPort p

/-- SHED_MODE (R223, R248): OFF on a narrow port asks for the full width, AUTO may end LPI. -/
def State.shedMode (s : State) (p v : Nat) : State :=
  ((s.setObj (O.SHED_MODE p) v).eeeCheck p).widenBack p

/-- FC_MODE, FC_DIR and PFC_PRIOS (R246): XOFF is in force only for priorities for which the port still generates; after a change of FC_MODE it starts anew. -/
def State.flowWrite (s : State) (p key v : Nat) : State :=
  let s1 := s.setObj key v
  let keep := if s1.generates p ≠ s.generates p ∨ s1.generates p = 0 then 0
    else if s1.generates p = 2 then Nat.land (s1.obj (O.XOFF_SENT p)) (s1.obj (O.PFC_PRIOS p)) else s1.obj (O.XOFF_SENT p)
  s1.setObj (O.XOFF_SENT p) keep

/-- A port's objects. -/
def State.portEffect (s : State) (p key v : Nat) : Option State :=
  if key = O.PORT_MODE p then some (s.formPorts [(p, v)])
  else if key = O.MAC_ENABLE p then some (s.macEnable p v)
  else if key = O.SHED_MODE p then some (s.shedMode p v)
  else if key = O.WAKE_CLEAR p then some (if v = 1 then s.wakeClear p else s)
  else if key = O.HATCH_ENABLE p then some ((s.hatchEnable p (v == 1)).eeeCheck p)
  else if (List.range 16).any (fun q => key == O.LAUNCH_CFG p q) then some ((s.setObj key v).eeeCheck p)
  else if key = O.FC_MODE p ∨ key = O.FC_DIR p ∨ key = O.PFC_PRIOS p then some (s.flowWrite p key v)
  else if key = O.HATCH_COMMIT p then some (if v = 1 then s.hatchCommit p else s)
  else if key = O.TSQ_FLUSH p then some (if v = 1 then s.tsqFlush p else s)
  else if key = O.PATH_DOMAIN p then some ((s.setObj (O.PATH_DOMAIN p) v).relearn p)
  else if key = O.PATH_SAMPLE p then some (s.pathSample p (toS 64 v))
  else if key = O.WIN_LEN p then some (s.winLen p v)
  else none

/-! The effects of a tile's objects. -/

/-- ROUTE_MODE and ROUTE (R37, R38). -/
def State.routeWrite (s : State) (t key v : Nat) : State := (s.setObj key v).routeRecompute t

/-- EVT_ENABLE (R96). -/
def State.evtEnable (s : State) (t v : Nat) : State :=
  let s1 := s.setObj (O.EVT_ENABLE t) v
  if v = 1 then s1.evtStart t else s1.evtStop t

/-- RING_CTL of the selected ring (R483, R485). -/
def State.ringCtl (s : State) (t : Nat) (rx : Bool) (ring v : Nat) : State :=
  if v = 1 then (s.ringStart t rx ring).2 else if v = 2 then s.ringAbort t rx ring else s.ringReset t rx ring

/-- CQ_CTL of the selected queue (R519). -/
def State.cqCtl (s : State) (t q v : Nat) : State := if v = 1 then (s.cqOn t q).2 else (s.cqOff t q).2

/-- The rings, queues and selections of a tile (R519). -/
def State.dmaEffect (s : State) (r : Requester) (t key v : Nat) : Option State :=
  let ring := s.selRing r t
  if key = O.RING_CFG t ∨ key = O.RING_SHADOW t ∨ key = O.CQ_CFG t then some (s.rawSet r key (natLe v 32))
  else if key = O.RING_ARM t then some (if v = 1 then (s.ringArm t ring.1 ring.2).2 else s)
  else if key = O.RING_CTL t then some (s.ringCtl t ring.1 ring.2 v)
  else if key = O.CQ_CTL t then some (s.cqCtl t (s.selCq r t) v)
  else none

/-- A tile's other objects. -/
def State.tileEffect (s : State) (t key v : Nat) : Option State :=
  if key = O.ROUTE_MODE t ∨ key = O.ROUTE t then some (s.routeWrite t key v)
  else if key = O.EVT_ENABLE t then some (s.evtEnable t v)
  else if key = O.LIM_COPY_BURST t then some ((s.setObj key v).capCredit t 0)
  else if key = O.LIM_UNMATCHED_BURST t then some ((s.setObj key v).capCredit t 1)
  else if key = O.LIM_MALFORMED_BURST t then some ((s.setObj key v).capCredit t 2)
  else if key = O.QSTAT_CLEAR t then some (s.qstatClear t v)
  else if key = O.POL_WRITE t then some (s.polWrite t v)
  else if key = O.CNT_PRESET t then some (s.cntPreset t v)
  else if keyIndex key = 0x7008 + t then some (s.evcWrite t (keySub key - 1) v)
  else if (List.range 8).any (fun k => key == O.PAGE_GRANT t k) then some (s.pageGrant t (keySub key - 1) v)
  else if key = O.TILE_RECOVER t then some (if v = 1 then s.recover t else s)
  else none

/-! The effects of the package's objects. -/

/-- DOM_SRC (R423, R424); a stack member follows its upstream instead (R444). -/
def State.domSrc (s : State) (d v : Nat) : State :=
  if s.timeMember || v == 0 then s.setObj (O.DOM_SRC d) v else if v = 1 then s.srcOk d else s.srcFailed d

/-- DIFF_CLEAR = true (R431, R450). -/
def State.diffClear (s : State) : State := (s.setObj O.DIFF_BA_MIN (s.obj O.DIFF_BA)).setObj O.DIFF_BA_MAX (s.obj O.DIFF_BA)

/-- A domain's objects (R420, R421, R424): FREQ_ADJ feeds the watchdog, and a write of the master configuration makes its complement pair good again (R584). -/
def State.domainEffect (s : State) (d key v : Nat) : Option State :=
  if key = O.DOM_SRC d then some (s.domSrc d v)
  else if key = O.FREQ_ADJ d then some (((s.setObj key v).steered d).restorePair (.steer d))
  else if key = O.SLEW_MAX d ∨ key = O.DOM_BASE d then some ((s.setObj key v).restorePair (.steer d))
  else if key = O.PHASE_ADJ d then some (s.phaseAdj d (toS 64 v))
  else none

/-- The time base of the package (R431, R436). -/
def State.timeEffect (s : State) (key v : Nat) : Option State :=
  if key = O.DIFF_CLEAR then some (if v = 1 then s.diffClear else s)
  else if key = O.REEPOCH_CMD then some (s.reepochCmd v)
  else if key = O.PPS_OUT_ENABLE ∨ key = O.PPS_OUT_WIDTH ∨ key = O.PPS_OUT_CORR then some (s.writeLater key v)
  else none

/-- CORE_PWR and BASIN_PWR of a tile that is RUN switch its domains (R556 to R558). -/
def State.powerWrite (s : State) (t key v : Nat) : State :=
  let s1 := (s.setObj key v).restorePair (if key = O.CORE_PWR t then .corePwr t else .basinPwr t)
  if s.runs t then s1.switchDomains t else s1

/-- TILE_POWER (R560, R563). -/
def State.tilePower (s : State) (t v : Nat) : State :=
  let s1 := s.restorePair (.tilePower t)
  if v = 1 then s1.powerDormant t else s1.powerRun t

/-- Power, firmware, lifecycle, keys and the proof store (R121, R547, R560, R572, R604, R609, R610). -/
def State.packageEffect (s : State) (r : Requester) (key : Nat) (data : Bytes) : Option State :=
  let t := unitOf s.variant key
  let v := leNat data
  if key = O.CORE_PWR t ∨ key = O.BASIN_PWR t then some (s.powerWrite t key v)
  else if key = O.DORMANT_RETAIN t then some ((s.setObj key v).restorePair (.retain t))
  else if key = O.TILE_POWER t then some (s.tilePower t v)
  else if key = O.SLEEP_REQ then some (if v = 1 then { s with afterResponse := s.afterResponse ++ [(r, key)] } else s)
  else if key = O.LC_REQUEST then some (s.lcAsk (some r) v)
  else if key = O.FW_OFFSET then some (s.fwOffset v)
  else if key = O.FW_DATA then some (s.fwData data)
  else if key = O.FW_VERIFY then some (if v = 1 then s.fwVerify else s)
  else if key = O.FW_ACTIVATE then some (s.fwActivate v)
  else if key = O.KEY_WRAPPED t then some (s.loadKey t data)
  else if key = O.PS_CHECKPOINT then some (if v = 1 then s.hostCheckpoint else s)
  else if key = O.ZW_NODE_ID ∨ key = O.ZW_DATA_RATE ∨ key = O.INBAND_PORT ∨ key = O.INBAND_MAC then
    some { s.writeLater key v with afterResponse := s.afterResponse ++ [(r, key)] }
  else none

/-- The stack (R624, R626). -/
def State.stackEffect (s : State) (key v : Nat) : Option State :=
  if key = O.STACK_ENABLE then some (let s1 := s.setObj key v; if v = 0 then s1.stackAlone else if s.flag O.STACK_ENABLE then s1 else s1.stackForm)
  else if key = O.STACK_ID then some (s.setObj key v)
  else if key = O.STACK_MEMBER then some (s.writeLater key v)
  else if key = O.STACK_JOIN then some (if v = 1 then s.stackJoin else s)
  else if key = O.STACK_HANDOVER then some ((s.setObj key v).stackHandover v)
  else none

/-- A shaper record of a port or of one of its queues (R378). -/
def isShaper (key p : Nat) : Bool := key == O.PORT_SHAPE p || (keyIndex key == 0x4200 + p && 0x10 ≤ keySub key)

/-- Whether the value of a write without a rule of its own comes into force at a later event (R13): RETRAIN objects at the next bring-up; shapers, budgets and shed
windows at the event their tables name. -/
def waits (r : Row) (key i : Nat) : Bool :=
  r.effect == .retrain || isShaper key i || key == O.MAINT_SHARE i || keyIndex key == 0x1300 + i ||
    key == O.SHED_WINDOW i || key == O.SHED_FILL i || key == O.WIDEN_HIGH i

/-- The selection or probe a requester writes (R285, R288, R519, R550). -/
def State.selectWrite (s : State) (r : Requester) (key i : Nat) (data : Bytes) : State :=
  let s1 := if key = O.EM_PROBE i then s.setSelection r key (s.emProbe i data) else s.setSelection r key data
  if key = O.PS_SEL then s1.psSelect (leNat data) else s1

/-- An accepted write takes its effect. -/
def State.applyWrite (s : State) (r : Requester) (key : Nat) (data : Bytes) : State :=
  let i := unitOf s.variant key
  let v := leNat data
  let own := s.laneEffect i key v <|> s.portEffect i key v <|> s.dmaEffect r i key v <|> s.tileEffect i key v <|> s.domainEffect i key v <|>
    s.timeEffect key v <|> s.packageEffect r key data <|> s.stackEffect key v
  if isSelection key i then s.selectWrite r key i data
  else match own with
    | some s1 => s1
    | none => match rowAt s.variant key with
      | some row => if row.access = .wo then s else if waits row key i then (if isShaper key i then s.shaperRefill i else s).writeLater key v
        else s.setObj key v
      | none => s

/-- Writes of a group take effect together (R129): port modes as one (R230), then the others in the order they were staged, commands last (R392), and the key of slot 0
before the keys wrapped under it (R121, R128). -/
def State.applyGroup (s : State) (r : Requester) (l : List (Nat × Bytes)) : State :=
  let isMode := fun (k : Nat) => Nat.ble 0x2000 (k / 256) && Nat.blt (k / 256) 0x2090 && k % 256 == 1
  let isCmd := fun (k : Nat) => match rowAt s.variant k with
    | some row => row.access == .wo
    | none => false
  let modes := (l.filter (fun e => isMode e.1)).map (fun e => (e.1 / 256 - 0x2000, leNat e.2))
  let s1 := if modes.isEmpty then s else s.formPorts modes
  let rest := l.filter (fun e => !isMode e.1)
  let s2 := (rest.filter (fun e => !isCmd e.1)).foldl (fun a e => a.applyWrite r e.1 e.2) s1
  let cmds := rest.filter (fun e => isCmd e.1)
  let s3 := (cmds.filter (fun e => e.1 == O.KEY_WRAPPED 0)).foldl (fun a e => a.applyWrite r e.1 e.2) s2
  (cmds.filter (fun e => e.1 != O.KEY_WRAPPED 0)).foldl (fun a e => a.applyWrite r e.1 e.2) s3

end Sys2Proof.Machine
end

