-- ==== Sys2Proof/Machine/Views.lean ====
section
/-! DEFINITION. What a read of an object returns (R109, R110): the value it holds, or, for an object that shows what stands elsewhere in the state, that. -/

namespace Sys2Proof.Machine

/-- The shaper state record of a queue or a port (R380). -/
def shapeRecord (tokens : Int) (finish : Nat) (prov conf active : Bool) (held : Nat) : Bytes :=
  natLe (ofS 64 tokens) 8 ++ natLe finish 8 ++ natLe (4 * b2n prov + 2 * b2n conf + b2n active) 4 ++ natLe 0 4 ++ natLe held 8

/-- PORT_SHAPE_STATE (R380). -/
def State.portShapeState (s : State) (p : Nat) : Bytes :=
  shapeRecord (s.burin p).tokens (s.vtime p) false (s.portConforms p) true (s.burin p).held

/-- QSTATE of a queue (R380). -/
def State.queueState (s : State) (p q : Nat) : Bytes :=
  let x := s.queue p q
  shapeRecord x.tokens x.head.f x.head.prov (s.queueConforms p q) (!x.frames.isEmpty && x.head.tagged) x.shapeHeld

/-- The capacity of a pipe in use: the sum over its ports (R45). -/
def State.pipeCap (s : State) (t n : Nat) : Nat :=
  (((portsOf t).filter (fun p => pipeOf p == n)).map (fun p => (s.mode p).mbps)).foldl (· + ·) 0

/-- The state of a tile's replica (R429); T0's follow its masters or, in a stack member, its copies. -/
def State.replicaState (s : State) (t d : Nat) : Nat := if t = 0 then (if d = 2 then 1 else (s.dom d).rstate) else (s.replica t d).state

/-- Path delay to a tile in ps (R427, R450). -/
def State.distDelay (s : State) (t : Nat) : Nat := if t = 0 then 0 else (tdiv ((s.replica t 2).delay * 1000) 65536).toNat

/-- Port slots of a tile with a replica that is not LOCKED (R450). -/
def State.replicaFaultMap (s : State) (t : Nat) : Nat :=
  ofBits ((List.range 18).filter (fun k => [0, 1, 2].any (fun d => !s.repLocked (8 + 18 * t + k) d)))

/-- Priorities whose pause timers run (R244). -/
def State.pausedNow (s : State) (p : Nat) : Nat := ofBits ((List.range 8).filter (s.paused p))

/-- A port's objects that show other state. -/
def State.portView (s : State) (p key : Nat) : Option Nat :=
  if key = O.BACKOFF_LEFT p then some (s.backoffLeft p)
  else if key = O.EEE_NOW p then some (s.eeeKind p)
  else if key = O.EEE_TW_TX p then some (s.eeeTw p)
  else if key = O.GATE_NOW p then some (s.gates p (s.txRef p))
  else if key = O.PAUSED_NOW p then some (s.pausedNow p)
  else if key = O.TSQ_DEPTH p then some (tget {} s.tsqs p).entries.length
  else if key = O.PORT_SHAPE_STATE p then some (leNat (s.portShapeState p))
  else if keyIndex key = 0x4200 + p ∧ 0x20 ≤ keySub key then some (leNat (s.queueState p (keySub key - 0x20)))
  else none

/-- A tile's objects that show other state; `r` reads what it has selected (R285, R288, R336, R355, R519). -/
def State.tileView (s : State) (r : Requester) (t key : Nat) : Option Nat :=
  let ring := s.selRing r t
  if key = O.PIPE_CAP_P0 t then some (s.pipeCap t 0)
  else if key = O.PIPE_CAP_P1 t then some (s.pipeCap t 1)
  else if key = O.AGG_OPEN t then some (s.tile t).agg.length
  else if key = O.ROOTS_ACTIVE t then some ((s.tile t).roots.filter (fun x => x.active s.now)).length
  else if key = O.QSTAT t then some (leNat ((s.qstat (65536 * t + s.selection r (O.QSEL t))).record s.now))
  else if key = O.POL_READ t then some (leNat (s.polRead t (s.selection r (O.POL_SEL t))))
  else if key = O.RING_CFG t then some (s.ring t ring.1 ring.2).cfg
  else if key = O.RING_SHADOW t then some (s.ring t ring.1 ring.2).shadow
  else if key = O.RING_STATUS t then some (leNat (s.ring t ring.1 ring.2).status)
  else if key = O.CQ_CFG t then some (s.cq t (s.selCq r t)).cfg
  else if key = O.CQ_STATUS t then some (leNat (s.cq t (s.selCq r t)).status)
  else if key = O.REPLICA_STATE_A t then some (s.replicaState t 0)
  else if key = O.REPLICA_STATE_B t then some (s.replicaState t 1)
  else if key = O.REPLICA_STATE_L t then some (s.replicaState t 2)
  else if key = O.DIST_DELAY t then some (s.distDelay t)
  else if key = O.PORT_REPLICA_FAULT t then some (s.replicaFaultMap t)
  else none

/-- The length of a list if an etch is open, else 0 (R320). -/
def State.staged {α : Type} (s : State) (f : Etch → List α) : Nat :=
  match s.etch with
  | some e => (f e).length
  | none => 0

/-- The package's objects that show other state. -/
def State.packageView (s : State) (r : Requester) (key : Nat) : Option Nat :=
  let t := unitOf s.variant key
  if key = O.TILE_READY then some s.tileReady
  else if key = O.PROV_CHECK then some s.provCheck
  else if key = O.SERVICE_PIN then some (b2n s.serviceLow)
  else if key = O.ZW_SESSIONS then some s.sessions.length
  else if key = O.KEY_SET t then some (b2n (s.keySet t))
  else if key = O.SAVE_BANKS t then some (s.saveBanks t)
  else if key = O.ETCH_STAGED_EM then some (s.staged Etch.ems)
  else if key = O.ETCH_STAGED_TC then some (s.staged Etch.tcs)
  else if key = O.ETCH_STAGED_OBJ then some (s.staged Etch.sets)
  else if (List.range 4).any (fun k => key == O.SLOT_INFLIGHT k) then
    some ((s.tileList.map (fun x => s.flying x (key - O.SLOT_INFLIGHT 0))).foldl (· + ·) 0)
  else if key = O.STACK_ROUTE then some s.routeBytes
  else if key = O.UPSTREAM_PORT then some s.upstreamPort
  else if keyIndex key = 0x7801 then
    some (leAt (s.psWindow (s.selection r O.PS_SEL / 65536) (s.selection r O.PS_SEL / 256 % 256)) (8 * (keySub key - 1)) 8)
  else none

/-- A read of TC_PROBE: the rule that the requester's last write selected, as it stands (R288); all 0 before a write. -/
def State.tcProbeRead (s : State) (r : Requester) (t : Nat) : Nat :=
  if s.selects.any (fun x => x.1 == r && x.2.1 == O.TC_PROBE t) then leNat (s.tcProbe t (natLe (s.selection r (O.TC_PROBE t)) 128)) else 0

/-- An object for span links on a port of another kind, which reads its default (R224). -/
def State.spanOnly (s : State) (p key : Nat) : Bool :=
  !s.isSpan p && [O.SPARING p, O.MIN_WIDTH p, O.REJOIN p, O.LANES_UP p, O.RETRY_COUNT p, O.SPARE_EVENTS p, O.RETRY_BUF p].contains key

/-- The value of an object as a requester reads it, and the state after: time counts of a port are brought up to now (R527), and what no rule states is a free
value (R157; assumption 3). -/
def State.readValue (s : State) (r : Requester) (row : Row) (key : Nat) : Nat × State :=
  let i := unitOf s.variant key
  if keySub key = 0 then (row.dflt, s)
  else if row.effect = .etch then (s.etchVal s.currentSlot key, s)
  else if key = O.TC_PROBE i then (s.tcProbeRead r i, s)
  else if isSelection key i then (s.selection r key, s)
  else if s.spanOnly i key then (objDflt s.variant key, s)
  else if key = O.CDR_PPM i then (if s.lol i then (0, s) else s.draw 32)
  else if keyIndex key = 0x7100 + i then let s1 := s.settleSource (tileOf i) (i % 18); (s1.obj key, s1)
  else match s.portView i key <|> s.tileView r i key <|> s.packageView r key with
    | some v => (v % 256 ^ row.size, s)
    | none => (s.obj key, s)

end Sys2Proof.Machine
end

