-- ==== Sys2Proof/Machine/Dictionary.lean ====
section
/-! DEFINITION. The operations of the Clemal Dictionary (R106 to R130): the checks of R113 in their order, READ, WRITE, READ_RANGE, DESCRIBE and atomic
groups. An operation leaves a response for its requester, which the requester's route delivers. -/

namespace Sys2Proof.Machine

/-! Requesters and responses. -/

/-- A requester on the field bus or in-band, with a session or without. -/
def inSession : Requester → Bool
  | .zwSession _ => true
  | .ibSession _ => true
  | _ => false

/-- The session of a requester. -/
def State.sessionOf (s : State) (r : Requester) : Option Session := (s.sessions.find? (fun x => x.1 == r)).map (·.2)

/-- Privileged requesters (R123), and the stack master at a member that trusts it (R631). -/
def State.privileged (s : State) (r : Requester) : Bool :=
  match r with
  | .mailbox t => (s.tile t).key.priv
  | .relay _ => s.flag O.STACK_TRUST
  | _ => match s.sessionOf r with
    | some x => bit (s.obj (O.KEY_ROLE x.slot)) 3
    | none => false

/-- A response waits to be delivered. -/
def State.respond (s : State) (r : Requester) (op code : Nat) (data : Bytes) : State :=
  { s with responses := s.responses ++ [(r, ⟨op, code, data⟩)] }

/-- An answer: result code, data, and the state after. -/
abbrev Answer := Nat × Bytes × State

/-- An answer becomes the requester's response. -/
def answer (r : Requester) (op : Nat) (x : Answer) : State := x.2.2.respond r op x.1 x.2.1

/-! Checks (R113). -/

/-- Check 3: VEND objects, and writes that the lifecycle state does not allow (R606). -/
def State.lifeCheck (s : State) (r : Requester) (row : Row) (key : Nat) (write : Option Bytes) : Nat :=
  if row.access == .vend && s.lcNow != 4 then 0x08
  else match write with
    | none => 0
    | some data =>
      if s.lcFatal then (if key == O.LC_REQUEST && inSession r && s.privileged r then 0 else 0x08)
      else if s.lcNow = 5 then 0x08
      else if s.lcNow = 1 ∧ key = O.MAC_ENABLE (unitOf s.variant key) ∧ leNat data = 1 then 0x08 else 0

/-- Check 4. -/
def State.accessCheck (s : State) (r : Requester) (row : Row) (key : Nat) (write : Bool) : Nat :=
  if write then
    (if row.access == .const || row.access == .ro || row.access == .rt || !s.modeAllows r key (unitOf s.variant key) then 0x03 else 0)
  else if row.access = .wo then 0x02 else 0

/-- Whether ZW_OPEN_ACCESS serves a client without a session: `need` 1 for reads, 2 for writes (R137). -/
def State.openFor (s : State) (r : Requester) (need : Nat) : Bool :=
  match r with
  | .zwClient _ => Nat.ble need (s.obj O.ZW_OPEN_ACCESS)
  | .ibClient _ => false
  | _ => true

/-- Check 5 (R12, R123, R137). -/
def State.rightCheck (s : State) (r : Requester) (row : Row) (write : Bool) : Nat :=
  let served := if write then s.openFor r 2 && (row.access == .rw || s.openFor r 3) else s.openFor r 1
  if !served then 0x17 else if write && row.access == .priv && !s.privileged r then 0x07 else 0

/-- The first of a list of checks that fails. -/
def firstOf (l : List Nat) : Nat := (l.find? (· != 0)).getD 0

/-- Check 9 (R108). -/
def State.ownerCheck (s : State) (key : Nat) : Nat := if s.up (ownerTile s.variant key) then 0 else 0x0C

/-- Every check of a READ. -/
def State.readCheck (s : State) (r : Requester) (key : Nat) : Nat :=
  match rowAt s.variant key with
  | none => 0x01
  | some row => firstOf [s.lifeCheck r row key none, s.accessCheck r row key false, s.rightCheck r row false, s.ownerCheck key]

/-- The checks of a WRITE from NO_OBJECT to TILE_NRDY (R113, R125). -/
def State.writeCheck (s : State) (r : Requester) (key : Nat) (data : Bytes) : Nat :=
  match rowAt s.variant key with
  | none => 0x01
  | some row =>
    firstOf [s.lifeCheck r row key (some data), s.accessCheck r row key true, s.rightCheck r row true, if data.length = row.size then 0 else 0x04,
      s.valueCheck r row key (leNat data), s.ownerCheck key]

/-! READ, READ_RANGE and DESCRIBE. -/

/-- READ (R110, R127). -/
def State.readOp (s : State) (r : Requester) (key : Nat) : Answer :=
  match s.readCheck r key, rowAt s.variant key with
  | 0, some row =>
    let x := s.readValue r row key
    (0, natLe x.1 row.size, x.2)
  | c, _ => (c, [], s)

/-- The values of READ_RANGE from a subindex on: how many, their bytes, and the state after (R111). -/
def State.rangeValues (s : State) (r : Requester) (idx : Nat) : Nat → Nat → Nat → Nat × Bytes × State
  | 0, _, _ => (0, [], s)
  | n + 1, sub, used =>
    if 255 < sub then (0, [], s)
    else match s.readCheck r (256 * idx + sub), rowAt s.variant (256 * idx + sub) with
      | 0, some row =>
        if 512 < used + row.size then (0, [], s)
        else
          let x := s.readValue r row (256 * idx + sub)
          let y := x.2.rangeValues r idx n (sub + 1) (used + row.size)
          (y.1 + 1, natLe x.1 row.size ++ y.2.1, y.2.2)
      | _, _ => (0, [], s)

/-- READ_RANGE (R111), and its transfers under the bulk-read budget of the owning tile (R594). A count of 0 is told in the order of R113: after what a READ of the first
object would be refused for, and before its tile. -/
def State.rangeOp (s : State) (r : Requester) (idx sub : Nat) (data : Bytes) : Answer :=
  let first := s.readCheck r (256 * idx + sub)
  if data.length ≠ 1 then (0x11, [], s)
  else if byteAt data 0 = 0 then (if first = 0 ∨ first = 0x0C then 0x05 else first, [], s)
  else
    let x := s.rangeValues r idx (byteAt data 0) sub 1
    if x.1 = 0 then (if first = 0 then 0x04 else first, [], s)
    else (0, natLe x.1 1 ++ x.2.1, x.2.2.sweep (ownerTile s.variant (256 * idx + sub)) 5 (ceilDiv x.2.1.length 8))

/-- ACCESS of a descriptor (R112). -/
def Access.code : Access → Nat
  | .const => 0
  | .ro => 1
  | .rw => 2
  | .wo => 3
  | .rt => 4
  | .priv => 5
  | .vend => 6

/-- EFFECT of a descriptor (R112). -/
def Effect.code : Effect → Nat
  | .imm => 0
  | .evt => 1
  | .etch => 2
  | .retrain => 3
  | .rst => 4
  | .none => 0xFF

/-- Objects that may be staged in an atomic group (R125). -/
def Row.groupable (r : Row) : Bool :=
  (r.access == .rw || r.access == .wo || r.access == .priv || r.access == .vend) && r.effect != .etch

/-- The name of an object: members of a numbered range of subindices carry their number (R9, R10). -/
def Row.nameAt (r : Row) (sub : Nat) : String :=
  if r.numbered = 0 then r.name else r.name ++ "_" ++ toString (sub - r.first + r.start)

/-- The descriptor record (R112). -/
def describe (v : Variant) (row : Row) (key : Nat) : Bytes :=
  let has := row.hasDflt && !isPerPart key
  natLe row.ty 1 ++ natLe row.access.code 1 ++ natLe row.size 2 ++ natLe row.effect.code 1 ++ natLe (2 * b2n row.groupable + b2n has) 1 ++ natLe 0 2 ++
    natLe (if has && Nat.ble row.size 8 then (if keySub key = 0 then row.dflt else objDflt v key) else 0) 8 ++
    padTo (asciiBytes (row.nameAt (keySub key))) 32

/-- DESCRIBE (R112). -/
def State.describeOp (s : State) (key : Nat) : Answer :=
  match rowAt s.variant key with
  | none => (0x01, [], s)
  | some row => if s.ownerCheck key ≠ 0 then (0x0C, [], s) else (0, describe s.variant row key, s)

/-! WRITE. -/

/-- An object with effect code ETCH (R13). -/
def State.isEtch (s : State) (key : Nat) : Bool :=
  match rowAt s.variant key with
  | some row => row.effect == .etch
  | none => false

/-- The open group of a requester (R125). -/
def State.openGroup (s : State) (r : Requester) : Option Group := s.groups.find? (fun g => g.owner == r && g.applyAt.isNone)

/-- The open groups changed. -/
def State.modGroups (s : State) (f : Group → Group) : State := { s with groups := s.groups.map f }

/-- What an accepted write leaves behind it: groups of others that hold the object staged are spoiled (R128), and a PRIV write by a window keeps its key state
(R119). -/
def State.wrote (s : State) (r : Requester) (key : Nat) : State :=
  let s1 := s.modGroups (fun g => if g.owner == r || g.applyAt.isSome then g
    else { g with writes := g.writes.map (fun w => if w.key == key then { w with spoiled := true } else w) })
  match r, rowAt s.variant key with
  | .mailbox t, some row => if row.access = .priv then s1.modTile t (fun x => { x with key := { x.key with privAt := s.now } }) else s1
  | _, _ => s1

/-- A refusal leaves only what its rule records: the interlocks (R597), and the count of a commit without a slot (R114, R307). -/
def State.refusal (s : State) (r : Requester) (key : Nat) (data : Bytes) (row : Nat) : State :=
  if row ≠ 0 then s.interlock row else if key = O.ETCH_CTL then (s.etchCtl r (leNat data)).2 else s

/-- A write of an ETCH object (R300 to R303). A value that is wrong in itself is told before a conflict (R113). -/
def State.etchOp (s : State) (r : Requester) (key : Nat) (data : Bytes) : Nat × State :=
  let x := s.etchWrite r key data
  if x.1 ≠ 0x0A then x
  else
    let y := ((s.etchIdle).etchOpen r).stageChecked key data
    if y.1 = 0x05 ∨ y.1 = 0x06 then (y.1, s) else x

/-- A write that has passed checks 1 to 9 is judged by the others and takes effect (R109, R113). -/
def State.writeNow (s : State) (r : Requester) (key : Nat) (data : Bytes) : Nat × State :=
  if s.isEtch key then
    let c := s.anyWriteConflict key
    if c.1 ≠ 0 then (c.1, s.refusal r key data c.2)
    else
      let x := s.etchOp r key data
      (x.1, if x.1 = 0 then x.2.wrote r key else x.2)
  else
    let c := s.conflict (s.rawSet r key data) r key data
    if c.1 ≠ 0 then (c.1, s.refusal r key data c.2)
    else if key = O.ETCH_CTL then (0, (s.etchCtl r (leNat data)).2.wrote r key)
    else (0, (s.applyWrite r key data).wrote r key)

/-- A write is staged in the requester's open group (R125, R126). -/
def State.stageWrite (s : State) (r : Requester) (key : Nat) (data : Bytes) (g : Group) : Nat × State :=
  let others := g.writes.filter (fun w => w.key != key)
  let bytes := (others.map (fun w => w.data.length)).foldl (· + ·) 0
  let put : List StagedWrite := if g.writes.any (fun w => w.key == key) then g.writes.map (fun w => if w.key == key then ⟨key, data, false⟩ else w)
    else g.writes ++ [⟨key, data, false⟩]
  if s.isEtch key then (0x10, s)
  else if 256 ≤ others.length ∨ 16384 < bytes + data.length then (0x0E, s)
  else (0, s.modGroups (fun x => if x.owner == r && x.applyAt.isNone then { x with writes := put } else x))

/-- A validated group that has not been applied everywhere holds single writes to its objects (R130). -/
def Group.holds (g : Group) (key : Nat) : Bool := g.applyAt.isSome && g.writes.any (fun w => w.key == key)

/-- A requester whose group or etch another member of the stack holds may stage nothing here, and what it has open here it may not stage there (R631). -/
def State.stagesElsewhere (s : State) (r : Requester) (here : Option Nat) (etch : Bool) : Bool :=
  s.abroad.any (fun x => x.1 == r && x.2.2 == etch && here != some x.2.1)

/-- WRITE (R109, R125, R130): judged, then staged in an open group, held behind a group under validation, or applied. -/
def State.writeOp (s : State) (r : Requester) (key : Nat) (data : Bytes) : State :=
  let c := s.writeCheck r key data
  if c ≠ 0 then s.respond r 2 c []
  else if s.stagesElsewhere r none false || (s.isEtch key && s.stagesElsewhere r none true) then s.respond r 2 0x09 []
  else match s.openGroup r with
    | some g => let x := s.stageWrite r key data g; x.2.respond r 2 x.1 []
    | none =>
      if s.groups.any (fun g => g.holds key) then
        s.modGroups (fun g => if g.holds key then { g with held := g.held ++ [(r, key, data)] } else g)
      else let x := s.writeNow r key data; x.2.respond r 2 x.1 []

/-! Atomic groups (R125 to R130). -/

/-- GROUP_OPEN. R137 names reads and RW writes only; the group operations of a client without a session are served as RW writes are (DESIGN CHOICE, assumption 56). -/
def State.groupOpen (s : State) (r : Requester) : Answer :=
  if !s.openFor r 2 then (0x17, [], s)
  else if (s.openGroup r).isSome then (0x0D, [], s) else (0, [], { s with groups := s.groups ++ [⟨r, [], s.now, none, [], []⟩] })

/-- The open group of a requester closes. -/
def State.closeGroup (s : State) (r : Requester) : State := { s with groups := s.groups.filter (fun g => !(g.owner == r && g.applyAt.isNone)) }

/-- GROUP_ABORT. -/
def State.groupAbort (s : State) (r : Requester) : Answer :=
  if !s.openFor r 2 then (0x17, [], s)
  else if (s.openGroup r).isNone then (0x0D, [], s) else (0, [], s.closeGroup r)

/-- Clemal aborts a requester's open group by itself and counts it (R126). -/
def State.groupAbortSelf (s : State) (r : Requester) : State := if (s.openGroup r).isSome then (s.closeGroup r).bump O.GROUP_ABORTS else s

/-- The validation of a group: result code, interlock row, and the write it concerns (R128). -/
def State.groupJudge (s : State) (r : Requester) (l : List StagedWrite) : Nat × Nat × Option StagedWrite :=
  let a := l.foldl (fun b w => b.rawSet r w.key w.data) s
  match l.find? (fun w => !a.modeAllows r w.key (unitOf s.variant w.key)) with
  | some w => (0x03, 0, some w)
  | none =>
    if l.any (fun w => s.ownerCheck w.key != 0) then (0x0C, 0, none)
    else match l.find? (·.spoiled) with
      | some w => (0x0F, 0, some w)
      | none => match l.find? (fun w => (s.conflict a r w.key w.data).1 != 0) with
        | some w => let c := s.conflict a r w.key w.data; (c.1, c.2, some w)
        | none => (0, 0, none)

/-- The tiles that own a group's objects. -/
def State.groupTiles (s : State) (l : List StagedWrite) : List Nat := s.tileList.filter (fun t => l.any (fun w => ownerTile s.variant w.key == t))

/-- A group's writes to the objects of some tiles are applied. -/
def State.applyPart (s : State) (r : Requester) (l : List StagedWrite) (mine : Nat → Bool) : State :=
  let part := (l.filter (fun w => mine (ownerTile s.variant w.key))).map (fun w => (w.key, w.data))
  let s1 := s.applyGroup r part
  let s2 := part.foldl (fun a e => if e.1 = O.ETCH_CTL then (a.etchCtl r (leNat e.2)).2 else a) s1
  part.foldl (fun a e => a.wrote r e.1) s2

/-- GROUP_COMMIT (R128, R129): a group of one tile is applied at once; one that spans tiles waits for a common instant, and its response with it. -/
def State.groupCommit (s : State) (r : Requester) : State :=
  if !s.openFor r 2 then s.respond r 0x11 0x17 []
  else match s.openGroup r with
    | none => s.respond r 0x11 0x0D []
    | some g =>
      let c := s.groupJudge r g.writes
      let s1 := s.closeGroup r
      if c.1 = 0x0F then
        (s1.bump O.GROUP_CONFLICTS).respond r 0x11 0x0F (match c.2.2 with
          | some w => natLe (keyIndex w.key) 2 ++ natLe (keySub w.key) 1
          | none => [])
      else if c.1 ≠ 0 then
        (match c.2.2 with
          | some w => s1.refusal r w.key w.data c.2.1
          | none => s1).respond r 0x11 c.1 []
      else
        let tiles := s.groupTiles g.writes
        if tiles.length ≤ 1 then (s1.applyPart r g.writes (fun _ => true)).respond r 0x11 0 []
        else { s1 with groups := s1.groups ++ [{ g with applyAt := some (ceilDiv (s.L + 10 * usU) usU * usU), left := tiles }] }

/-- A group that has been applied everywhere: its response, and the writes held behind it (R130). -/
def State.groupDone (s : State) (g : Group) : State :=
  g.held.foldl (fun a e => let x := a.writeNow e.1 e.2.1 e.2.2; x.2.respond e.1 2 x.1 []) (s.respond g.owner 0x11 0 [])

/-- A group that is due is applied on one of its tiles; a tile that has left RUN applies nothing (R128, R129). -/
def State.groupApplyOne (s : State) (t : Nat) (g : Group) : State :=
  let s1 := if s.up t then s.applyPart g.owner g.writes (· == t) else s
  let left := g.left.filter (· != t)
  if left.isEmpty then { s1 with groups := s1.groups.filter (· != g) }.groupDone g
  else s1.modGroups (fun x => if x == g then { g with left := left } else x)

/-- A group whose common instant has come and which a tile has not applied. -/
def State.groupDue (s : State) (t : Nat) (g : Group) : Bool :=
  g.left.contains t && (match g.applyAt with
    | some i => Nat.ble i s.L
    | none => false)

/-- GROUP_APPLY: the groups that are due are applied on a tile (R129). -/
def State.groupApply (s : State) (t : Nat) : State := (s.groups.filter (s.groupDue t)).foldl (fun a g => a.groupApplyOne t g) s

/-- GROUP_IDLE: a group has seen no operation for GROUP_IDLE (R126). -/
def State.groupIdle (s : State) (r : Requester) : State :=
  match s.openGroup r with
  | some g => if s.passed g.lastAt (s.obj O.GROUP_IDLE * msU) then s.groupAbortSelf r else s
  | none => s

/-- An operation of a requester keeps its group open (R126). -/
def State.touchGroup (s : State) (r : Requester) : State :=
  s.modGroups (fun g => if g.owner == r && g.applyAt.isNone then { g with lastAt := s.now } else g)

end Sys2Proof.Machine
end

