-- ==== Sys2Proof/Machine/Sessions.lean ====
section
/-! DEFINITION. The privileged key state of a window (R118 to R120) and the sessions of field-bus and in-band clients (R138 to R140). -/

namespace Sys2Proof.Machine

/-! The key state. -/

/-- The message of a window's unlock proof (R118). -/
def unlockMessage (t nonce : Nat) : Bytes := asciiBytes "ZWWK" ++ natLe t 1 ++ natLe nonce 16

/-- KEY_CHALLENGE: a new nonce, which makes the one before unusable (R118). -/
def State.keyChallenge (s : State) (t : Nat) : Answer :=
  let d := s.draw 128
  (0, natLe d.1 16, d.2.modTile t (fun x => { x with key := { x.key with nonce := some d.1 } }))

/-- The proof of a KEY_UNLOCK: the slot has roles WINDOW and PRIV, and the tag is that of the nonce (R118). -/
def State.unlockGood (s : State) (t : Nat) (data : Bytes) : Bool :=
  let k := byteAt data 0
  match (s.tile t).key.nonce with
  | some n => bit (s.obj (O.KEY_ROLE k)) 0 && bit (s.obj (O.KEY_ROLE k)) 3 && slice data 1 8 == tag8 (s.keyOf k) (unlockMessage t n)
  | none => false

/-- KEY_UNLOCK (R118, R120). -/
def State.keyUnlock (s : State) (t : Nat) (data : Bytes) : Answer :=
  let k := (s.tile t).key
  if 3 < byteAt data 0 then (0x05, [], s)
  else if k.locked then (0x13, [], s)
  else if s.unlockGood t data then
    (0, [], (s.modTile t (fun x => { x with key := { k with priv := true, nonce := none, fails := 0, privAt := s.now } })).bump32 (O.KEY_USES (byteAt data 0)))
  else
    let s1 := s.bump O.WK_FAIL
    if k.fails + 1 < 4 then (0x12, [], s1.modTile t (fun x => { x with key := { k with nonce := none, fails := k.fails + 1 } }))
    else (0x12, [], (s1.modTile t (fun x => { x with key := { k with nonce := none, fails := 0, locked := true, lockAt := s.now } })).bump32 O.WK_LOCKOUTS)

/-- KEY_LOCK (R119). -/
def State.keyLock (s : State) (t : Nat) : Answer := (0, [], s.modTile t (fun x => { x with key := { x.key with priv := false } }))

/-- WK_IDLE_EXPIRY: no PRIV write came through the window for WK_IDLE (R119). -/
def State.keyIdle (s : State) (t : Nat) : State :=
  let k := (s.tile t).key
  if k.priv ∧ s.passed k.privAt (s.obj O.WK_IDLE * secU) then s.modTile t (fun x => { x with key := { x.key with priv := false } }) else s

/-- KEY_LOCKOUT_END (R120). -/
def State.lockoutEnd (s : State) (t : Nat) : State :=
  let k := (s.tile t).key
  if k.locked ∧ s.passed k.lockAt (10 * secU) then s.modTile t (fun x => { x with key := { x.key with locked := false } }) else s

/-! Sessions. -/

/-- The session a field-bus or in-band client has or would have; none on other routes. -/
def sessionId : Requester → Option Requester
  | .zwSession c => some (.zwSession c)
  | .zwClient c => some (.zwSession c)
  | .ibSession c => some (.ibSession c)
  | .ibClient c => some (.ibSession c)
  | _ => none

/-- The same client outside its session. -/
def outside : Requester → Requester
  | .zwSession c => .zwClient c
  | .ibSession c => .ibClient c
  | r => r

/-- CLIENT of a requester. -/
def clientOf : Requester → Nat
  | .mailbox _ => 0
  | .zwSession c => c
  | .zwClient c => c
  | .ibSession c => c
  | .ibClient c => c
  | .relay c => c

/-- The role a slot must have for a session on this route: FIELDBUS or INBAND (R138, R143). -/
def routeRole : Requester → Nat
  | .ibSession _ => 2
  | .ibClient _ => 2
  | _ => 1

/-- SK (R138). -/
def State.sessionKey (s : State) (r : Requester) (c : Challenge) : Bytes :=
  cmac (s.keyOf c.slot) (asciiBytes "ZWSK" ++ natLe (clientOf r) 1 ++ natLe s.node 1 ++ c.nc ++ c.nn)

/-- The exchange a session's client has open. -/
def State.challengeOf (s : State) (sid : Requester) : Option Challenge := (s.challenges.find? (fun x => x.1 == sid)).map (·.2)

/-- The etch a requester has open is aborted (R304). -/
def State.etchLeft (s : State) (r : Requester) : State :=
  match s.etch with
  | some e => if e.owner = r then s.etchAbortSelf else s
  | none => s

/-- A session ends: its open group and its open etch are aborted (R126, R140, R304). -/
def State.endSession (s : State) (sid : Requester) : State :=
  if (s.sessionOf sid).isNone then s
  else ({ s with sessions := s.sessions.filter (fun x => x.1 != sid) }.groupAbortSelf sid).etchLeft sid

/-- A session changed. -/
def State.modSession (s : State) (sid : Requester) (f : Session → Session) : State :=
  { s with sessions := s.sessions.map (fun x => if x.1 == sid then (x.1, f x.2) else x) }

/-- SESSION_OPEN: the exchange opens with a node nonce (R120, R138, R140). -/
def State.sessionOpen (s : State) (sid : Requester) (data : Bytes) : Answer :=
  let k := byteAt data 0
  if 3 < k then (0x05, [], s)
  else if !bit (s.obj (O.KEY_ROLE k)) (routeRole sid) then (0x12, [], s)
  else if 4 ≤ (s.sessions.filter (fun x => x.1 != sid)).length then (0x15, [], s)
  else
    let d := (s.endSession sid).draw 64
    let nn := natLe d.1 8
    (0, nn, { d.2 with challenges := (sid, ⟨k, slice data 1 8, nn⟩) :: d.2.challenges.filter (fun x => x.1 != sid) })

/-- SESSION_PROVE: the session opens, or the exchange ends with nothing kept (R138). -/
def State.sessionProve (s : State) (sid : Requester) (auth : Bool) (fresh : Nat) (data : Bytes) : Answer :=
  match s.challengeOf sid with
  | none => (0x14, [], s)
  | some c =>
    let sk := s.sessionKey sid c
    let s1 := { s with challenges := s.challenges.filter (fun x => x.1 != sid) }
    if !auth ∨ fresh ≠ 1 ∨ data ≠ tag8 sk (c.nc ++ c.nn) then (0x12, [], s1)
    else if 4 ≤ s1.sessions.length then (0x15, [], s1)
    else
      (0, natLe (s.obj (O.KEY_ROLE c.slot)) 1,
        ({ s1 with sessions := s1.sessions ++ [(sid, ⟨c.slot, sk, 1, 0, 0, s.now⟩)] } : State).bump32 (O.KEY_USES c.slot))

/-- SESSION_CLOSE (R140). -/
def State.sessionClose (s : State) (sid : Requester) : Answer :=
  if (s.sessionOf sid).isNone then (0x14, [], s) else (0, [], s.endSession sid)

/-- ZW_SESSION_IDLE: no message of the session was accepted for that long (R140). -/
def State.sessionIdle (s : State) (sid : Requester) : State :=
  match s.sessionOf sid with
  | some x => if s.passed x.lastAt (s.obj O.ZW_SESSION_IDLE * secU) then s.endSession sid else s
  | none => s

/-- The count of messages whose tag fails, by route (R139, R142). -/
def tagFailKey : Requester → Nat
  | .ibSession _ => O.INBAND_TAG_FAIL
  | .ibClient _ => O.INBAND_TAG_FAIL
  | _ => O.ZW_TAG_FAIL

/-- A message with AUTH 1 that fails is counted; the sixteenth failure closes the session (R139). -/
def State.tagFail (s : State) (sid : Requester) : State :=
  let s1 := s.bump (tagFailKey sid)
  match s.sessionOf sid with
  | some x => if x.fails + 1 < 16 then s1.modSession sid (fun y => { y with fails := y.fails + 1 }) else s1.endSession sid
  | none => s1

/-- A message with AUTH 1 is judged (R139): its tag under the session's key, or for SESSION_PROVE under the key of the exchange (R138), and its FRESH. `body` are the
bytes under the tag. An accepted message of a session moves its FRESH and its idle time. -/
def State.authentic (s : State) (sid : Requester) (op fresh : Nat) (body tag : Bytes) : Bool × State :=
  if op = 0x42 then
    match s.challengeOf sid with
    | some c => if tag = tag8 (s.sessionKey sid c) body ∧ 0 < fresh then (true, s) else (false, s.tagFail sid)
    | none => (true, s)
  else
    match s.sessionOf sid with
    | some x =>
      if tag = tag8 x.sk body ∧ x.rx < fresh then (true, s.modSession sid (fun y => { y with rx := fresh, lastAt := s.now }))
      else (false, s.tagFail sid)
    | none => (false, s.tagFail sid)

/-- FRESH has reached its end in either direction (R140). -/
def State.freshEnd (s : State) (sid : Requester) : State :=
  match s.sessionOf sid with
  | some x => if 2 ^ 32 - 1 ≤ x.rx ∨ 2 ^ 32 - 1 ≤ x.tx then s.endSession sid else s
  | none => s

end Sys2Proof.Machine
end

