-- ==== Sys2Proof/Machine/Routes.lean ====
section
/-! DEFINITION. The routes to the dictionary: an operation as it is asked for, its checks and where it is served (R110, R113, R137, R143, R610, R631), relayed
operations of a stack, and the messages of Zwiwa (R131 to R137) and of in-band management (R141 to R145). -/

namespace Sys2Proof.Machine

/-- The object an operation addresses. -/
def Ask.key (a : Ask) : Nat := 256 * (a.idx % 65536) + a.sub % 256

/-! Where an operation may come from. -/

/-- A mailbox. -/
def isMailbox : Requester → Bool
  | .mailbox _ => true
  | _ => false

/-- A field-bus or in-band client, in a session or not. -/
def onBus (r : Requester) : Bool := (sessionId r).isSome

/-- An in-band client outside a session. -/
def isIbClient : Requester → Bool
  | .ibClient _ => true
  | _ => false

/-- The tile whose control block takes a requester's operations. -/
def homeTile : Requester → Nat
  | .mailbox t => t
  | _ => 0

/-- Operations that every route has (R110). -/
def commonOps : List Nat := [0x00, 0x01, 0x02, 0x03, 0x04, 0x10, 0x11, 0x12]

/-- OP exists on the route (R110). -/
def opAllowed (r : Requester) (op : Nat) : Bool :=
  commonOps.contains op || (isMailbox r && [0x20, 0x21, 0x22].contains op) || (onBus r && [0x40, 0x42, 0x44].contains op)

/-- LEN is allowed for OP (R110, R111, R113); that of a WRITE is judged against the object. -/
def lenAllowed (op n : Nat) : Bool :=
  if op = 0x02 then true else if op = 0x03 then n == 1 else if op = 0x21 ∨ op = 0x40 then n == 9 else if op = 0x42 then n == 8 else n == 0

/-- An in-band client outside a session is served only these (R143). -/
def Ask.dropped (a : Ask) : Bool := isIbClient a.who && !([0x04, 0x40, 0x42].contains a.op)

/-! An operation served here. -/

/-- The operations on keys and sessions. -/
def State.secureOp (s : State) (a : Ask) : State :=
  match a.who, sessionId a.who with
  | .mailbox t, _ =>
    answer a.who a.op (if a.op = 0x20 then s.keyChallenge t else if a.op = 0x21 then s.keyUnlock t a.data else s.keyLock t)
  | _, some sid =>
    if a.op = 0x40 then (let x := s.sessionOpen sid a.data; answer (outside sid) (if x.1 = 0 then 0x41 else 0x40) x)
    else if a.op = 0x42 then
      (let x := s.sessionProve sid a.auth a.fresh a.data; answer (if x.1 = 0 then sid else outside sid) (if x.1 = 0 then 0x43 else 0x42) x)
    else answer a.who 0x44 (s.sessionClose sid)
  | _, none => s

/-- An operation on this package's dictionary. -/
def State.localOp (s : State) (a : Ask) : State :=
  if a.op = 0x00 then s.respond a.who 0x00 0 []
  else if a.op = 0x01 then answer a.who 0x01 (s.readOp a.who a.key)
  else if a.op = 0x02 then s.writeOp a.who a.key a.data
  else if a.op = 0x03 then answer a.who 0x03 (s.rangeOp a.who (a.idx % 65536) (a.sub % 256) a.data)
  else if a.op = 0x04 then answer a.who 0x04 (s.describeOp a.key)
  else if a.op = 0x10 then answer a.who 0x10 (if s.stagesElsewhere a.who none false then (0x0D, [], s) else s.groupOpen a.who)
  else if a.op = 0x11 then s.groupCommit a.who
  else if a.op = 0x12 then answer a.who 0x12 (s.groupAbort a.who)
  else s.secureOp a

/-! An operation that the master relays to a member (R631). -/

/-- The objects that stay on the master under every VIEW_MEMBER: those at 0x1500 to 0x1502. -/
def Ask.stays (a : Ask) : Bool := [0x01, 0x02, 0x03, 0x04].contains a.op && Nat.ble 0x1500 a.idx && Nat.ble a.idx 0x1502

/-- An operation goes to the dictionary of another member. -/
def State.goesAway (s : State) (a : Ask) : Bool :=
  let m := s.selection a.who O.VIEW_MEMBER
  s.obj O.STACK_STATE == 3 && m != 0xFF && m != s.me && commonOps.contains a.op && !a.stays

/-- Whether an object has effect code ETCH or is ETCH_CTL, in the largest variant. -/
def etchKey (key : Nat) : Bool :=
  key == O.ETCH_CTL || (match rowAt .clm144 key with
    | some row => row.effect == .etch
    | none => false)

/-- What the master itself refuses: a member outside the view, a right that the requester does not have, and staging that belongs to another member. -/
def State.relayCheck (s : State) (a : Ask) : Nat :=
  let m := s.selection a.who O.VIEW_MEMBER
  let right := if a.op = 0x02 then (match rowAt .clm144 a.key with
      | some row => s.rightCheck a.who row true
      | none => 0)
    else if a.op = 0x01 ∨ a.op = 0x03 then (if s.openFor a.who 1 then 0 else 0x17)
    else if a.op = 0x10 ∨ a.op = 0x11 ∨ a.op = 0x12 then (if s.openFor a.who 2 then 0 else 0x17) else 0
  let group := (s.openGroup a.who).isSome || s.stagesElsewhere a.who (some m) false
  let etch := (match s.etch with
    | some e => e.owner == a.who
    | none => false) || s.stagesElsewhere a.who (some m) true
  if right ≠ 0 then right
  else if !bit s.viewNow m ∨ 0xFE ≤ s.stackRoute m then 0x0C
  else if a.op = 0x10 ∧ group then 0x0D
  else if a.op = 0x02 ∧ (group || (etchKey a.key && etch)) then 0x09
  else 0

/-- Bytes 0x00 to 0x0D + BYTES of the management layout (R142). -/
def mgmtHead (func node : Nat) (auth : Bool) (client seq op sub idx result : Nat) (data : Bytes) : Bytes :=
  bytesOf [1, func, node, 0, 128 * b2n auth + client % 128, seq, op, sub] ++ natLe idx 2 ++ natLe data.length 2 ++ bytesOf [result, 0] ++ data

/-- CLIENT that the master has chosen for a requester, and the state that keeps the choice. -/
def State.relayId (s : State) (r : Requester) : Nat × State :=
  if s.relayIds.contains r then (s.relayIds.idxOf r + 1, s) else (s.relayIds.length + 1, { s with relayIds := s.relayIds ++ [r] })

/-- The request leaves in a DICT record toward the member. -/
def State.relayOut (s : State) (a : Ask) : State :=
  let m := s.selection a.who O.VIEW_MEMBER
  let c := s.relayCheck a
  if c ≠ 0 then s.respond a.who a.op c []
  else
    let x := s.relayId a.who
    let seq := (s.relayNext + 1) % 256
    let s1 := ({ x.2 with relayNext := seq, relayed := x.2.relayed ++ [⟨x.1, a.who, m, a.op, seq, a.key, leNat a.data⟩] } : State)
    s1.sendRecord (s.stackRoute m) 4 (mgmtHead 4 s.node false x.1 seq a.op (a.sub % 256) (a.idx % 65536) 0 a.data)

/-! An operation as it arrives. -/

/-- Tiles whose control block an operation needs: the one that takes it, and the owners of what it addresses. -/
def State.servants (s : State) (a : Ask) : List Nat :=
  homeTile a.who :: (if [0x01, 0x02, 0x03, 0x04].contains a.op then [ownerTile s.variant a.key]
    else if a.op = 0x11 then (match s.openGroup a.who with
      | some g => s.groupTiles g.writes
      | none => [])
    else [])

/-- An operation waits while a control block it needs is updated, and behind the requester's own that wait (R610). -/
def State.mustWait (s : State) (a : Ask) : Bool := (s.servants a).any (fun t => (s.tile t).updating) || s.heldOps.any (fun x => x.who == a.who)

/-- A requester that names a session has one. -/
def State.sessionOk (s : State) (a : Ask) : Bool := !inSession a.who || [0x40, 0x42].contains a.op || (s.sessionOf a.who).isSome

/-- An operation that is not held is answered (R113), and keeps the requester's group and session alive (R126, R140). -/
def State.serve (s : State) (a : Ask) : State :=
  let s1 := ((s.lcCheck).touchGroup a.who).modSession a.who (fun x => { x with lastAt := s.now })
  if !opAllowed a.who a.op || !lenAllowed a.op a.data.length then s1.respond a.who a.op 0x11 []
  else if !s1.sessionOk a then s1.respond a.who a.op 0x14 []
  else if s1.goesAway a then s1.relayOut a
  else s1.localOp a

/-- The responses to relayed requests leave for the master (R631). -/
def State.sendRelays (s : State) : State :=
  s.relayIn.foldl (fun a q =>
    match a.responses.find? (fun x => x.1 == Requester.relay q.client) with
    | some x =>
      { a with responses := a.responses.erase x, relayIn := a.relayIn.erase q }.sendRecord q.port 4
        (mgmtHead 5 s.node false q.client q.seq q.op q.sub q.idx x.2.code x.2.data)
    | none => a) s

/-- An operation arrives: it is held (R610), dropped (R143), or served. -/
def State.perform (s : State) (a : Ask) : State :=
  if !s.up (homeTile a.who) || a.dropped then s
  else if s.mustWait a then { s with heldOps := s.heldOps ++ [a] }
  else (s.serve a).sendRelays

/-- A write of an object by a requester. -/
def State.writeBy (s : State) (r : Requester) (key : Nat) (data : Bytes) : State :=
  s.perform ⟨r, 0x02, keyIndex key, keySub key, data, false, 0⟩

/-- The operations that were held are taken in the order they came (R610). -/
def State.resume (s : State) : State := s.heldOps.foldl (fun a x => a.perform x) { s with heldOps := [] }

/-! The response is sent. -/

/-- What a requester's writes have left to do once their response is sent (R122, R124, R572). -/
def State.afterSent (s : State) (r : Requester) : State :=
  let mine := s.afterResponse.filter (fun x => x.1 == r)
  mine.foldl (fun a x => if x.2 = O.SLEEP_REQ then a.sleepStart else a.adopt x.2) { s with afterResponse := s.afterResponse.filter (fun x => x.1 != r) }

/-- A response has been sent. -/
def State.sent (s : State) (x : Requester × Response) : State := { s with responses := s.responses.erase x }.afterSent x.1

/-- The first response that waits for one of some requesters. -/
def State.nextResponse (s : State) (p : Requester → Bool) : Option (Requester × Response) := s.responses.find? (fun x => p x.1)

/-- A response's OP answers a request's (R110). -/
def answersOp (req res : Nat) : Bool := req == res || (req == 0x40 && res == 0x41) || (req == 0x42 && res == 0x43)

/-- FUNC of a response: SESSION for the operations on sessions, else RESPONSE (R132). -/
def funcOf (op : Nat) : Nat := if 0x40 ≤ op then 3 else 5

/-- AUTH, the next FRESH and the key of a message to a requester in a session (R139). -/
def State.authOf (s : State) (r : Requester) : Option (Nat × Bytes) := (s.sessionOf r).map (fun x => (x.tx + 1, x.sk))

/-! Zwiwa (R132 to R137). -/

/-- A client of the field bus. -/
def isZw (c : Nat) (r : Requester) : Bool := r == .zwSession c || r == .zwClient c

/-- A request of a client that is not whole. -/
def State.zwPartial (s : State) (c : Nat) : Option ZwRequest := s.zwReqs.find? (fun q => q.client == c && !q.whole)

/-- A request is discarded and answered FRAG (R135). -/
def State.fragFail (s : State) (who : Requester) (q : ZwRequest) : State :=
  (({ s with zwReqs := s.zwReqs.filter (fun x => !(x.client == q.client && !x.whole)) ++ [{ q with whole := true }] } : State).bump O.ZW_FRAG_FAIL).respond who q.op 0x16 []

/-- The requester a message speaks for: its client's session where AUTH is 1. -/
def State.zwWho (s : State) (c : Nat) (auth : Bool) (op : Nat) : Requester :=
  if auth && op != 0x42 && (s.sessionOf (.zwSession c)).isSome then .zwSession c else .zwClient c

/-- The header of a fragment as the request it starts or goes on (R134, R135). -/
def fragHeader (msg : Bytes) (now : Nat) : ZwRequest :=
  { client := byteAt msg 0 % 128, seq := byteAt msg 1, op := byteAt msg 2, idx := leAt msg 4 2, sub := byteAt msg 3, auth := bit (byteAt msg 0) 7,
    next := 1, data := slice msg 0x0A (byteAt msg 7), lastAt := now, whole := bit (byteAt msg 6) 7, fresh := leAt msg 0x30 4 }

/-- A fragment goes on with the request in progress (R135): the next number, the same header, within 10 ms. -/
def ZwRequest.goesOn (q h : ZwRequest) (frag now : Nat) : Bool :=
  frag == q.next && q.op == h.op && q.idx == h.idx && q.sub == h.sub && q.auth == h.auth && Nat.ble now (q.lastAt + 10 * msU)

/-- A request has all its fragments: it waits for its response and is carried out. -/
def State.zwWhole (s : State) (q : ZwRequest) : State :=
  ({ s with zwReqs := s.zwReqs.filter (fun x => !(x.client == q.client && !x.whole)) ++ [{ q with whole := true }] } : State).perform
    ⟨s.zwWho q.client q.auth q.op, q.op, q.idx, q.sub, q.data, q.auth, q.fresh⟩

/-- A client's request in progress is discarded (R136): what it waits in, and its response; what was to follow the response happens at once. -/
def State.zwForget (s : State) (c : Nat) : State :=
  let s1 : State := { s with zwReqs := s.zwReqs.filter (fun x => x.client != c), heldOps := s.heldOps.filter (fun x => !isZw c x.who) }
  (s1.responses.filter (fun x => isZw c x.1)).foldl (fun a x => a.sent x) s1

/-- A fragment of a request, its tag verified (R135, R136). A fragment with a FRAG or BYTES that R134 does not allow disagrees with every request and is answered FRAG
(DESIGN CHOICE, assumption 79). -/
def State.zwTake (s : State) (msg : Bytes) : State :=
  let h := fragHeader msg s.now
  let frag := byteAt msg 6 % 16
  let who := s.zwWho h.client h.auth h.op
  let old := (s.zwPartial h.client).filter (fun q => q.seq == h.seq)
  let s1 := if old.isSome then s else s.zwForget h.client
  match old with
  | none =>
    if frag ≠ 0 ∨ 38 < byteAt msg 7 then s1.fragFail who h
    else if h.whole then s1.zwWhole h else { s1 with zwReqs := s1.zwReqs ++ [h] }
  | some q =>
    if !q.goesOn h frag s.now ∨ 13 < frag ∨ 38 < byteAt msg 7 then s1.fragFail who q
    else
      let q1 := { q with next := q.next + 1, data := q.data ++ h.data, lastAt := s.now, fresh := h.fresh, whole := h.whole }
      if h.whole then s1.zwWhole q1 else { s1 with zwReqs := s1.zwReqs.map (fun x => if x == q then q1 else x) }

/-- ZW_FRAGMENT: a CAN FD frame on the field bus (R132, R134, R135, R139). -/
def State.zwFragment (s : State) (ident : Nat) (msg : Bytes) : State :=
  let c := byteAt msg 0 % 128
  let sid := Requester.zwSession c
  if !s.zwOn ∨ msg.length ≠ 64 ∨ (ident ≠ 3 * 128 + s.node ∧ ident ≠ 4 * 128 + s.node) ∨ c = 0 ∨ c = 0x7F then s
  else if !bit (byteAt msg 0) 7 then s.zwTake msg
  else
    let x := s.authentic sid (byteAt msg 2) (leAt msg 0x30 4) (natLe ident 2 ++ msg.take 0x34) (slice msg 0x34 8)
    if x.1 then (x.2.zwTake msg).freshEnd sid else x.2

/-- ZW_FRAG_TIMEOUT (R135). -/
def State.fragTimeout (s : State) (c : Nat) : State :=
  match s.zwPartial c with
  | some q => if q.lastAt + 10 * msU < s.now then s.fragFail (s.zwWho c q.auth q.op) q else s
  | none => s

/-- One fragment of a response (R134, R135, R139). A session whose FRESH reaches its end with a fragment ends there, and the rest of a response that began in it is not
sent (R140). -/
def State.zwPart (s : State) (x : Requester × Response) (seq idx sub i n : Nat) (secure : Bool) : State :=
  let a := s.authOf x.1
  let m : ZwMsg := {
    auth := a.isSome, client := clientOf x.1, seq := seq, op := x.2.op, sub := sub, idx := idx, last := i + 1 == n, frag := i, result := x.2.code,
    data := slice x.2.data (38 * i) 38, fresh := (a.map (·.1)).getD 0 }
  match a with
  | some (fresh, sk) =>
    ((s.zwSend (funcOf x.2.op) m (tag8 sk (natLe (funcOf x.2.op * 128 + s.node) 2 ++ m.body))).modSession x.1 (fun y => { y with tx := fresh })).freshEnd x.1
  | none => if secure then s else s.zwSend (funcOf x.2.op) m

/-- ZW_RESPONSE_SEND: the fragments of a client's next response (R135, R136); a response to a request that was discarded is not sent. -/
def State.zwResponse (s : State) (c : Nat) : State :=
  match s.nextResponse (isZw c) with
  | none => s
  | some x =>
    if !s.zwOn then s
    else match s.zwReqs.find? (fun q => q.client == c && q.whole && answersOp q.op x.2.op) with
      | some q =>
        let n := max 1 (ceilDiv x.2.data.length 38)
        let s1 := s.each (List.range n) (fun i a => a.zwPart x q.seq q.idx q.sub i n (s.authOf x.1).isSome)
        { s1 with zwReqs := s1.zwReqs.erase q }.sent x
      | none => s.sent x

/-! In-band management (R141 to R145). -/

/-- A client of the in-band route. -/
def isIb (c : Nat) (r : Requester) : Bool := r == .ibSession c || r == .ibClient c

/-- The VLAN tag of a management frame, and its payload (R141, R142). -/
def mgmtParts (fr : Bytes) : Option Bytes × Bytes := if beAt fr 12 2 = 0x88B5 then (none, fr.drop 14) else (some (slice fr 12 4), fr.drop 18)

/-- A management frame within its port's rate reaches T0's control block (R139, R142, R143). -/
def State.mgmtTake (s : State) (p : Nat) (fr : Bytes) : State :=
  let v := mgmtParts fr
  let m := v.2
  let c := byteAt m 4 % 128
  let n := leAt m 0x0A 2
  let sid := Requester.ibSession c
  let auth := bit (byteAt m 4) 7
  let func := byteAt m 1 % 16
  if byteAt m 0 ≠ 1 ∨ (func ≠ 3 ∧ func ≠ 4) ∨ byteAt m 2 ≠ s.node ∨ c = 0 ∨ c = 0x7F ∨ 512 < n ∨ m.length < 0x1A + n then s
  else
    let x := if auth then s.authentic sid (byteAt m 6) (leAt m (0x0E + n) 4) (m.take (0x12 + n)) (slice m (0x12 + n) 8) else (true, s)
    let who := if auth && byteAt m 6 != 0x42 then sid else Requester.ibClient c
    let a : Ask := ⟨who, byteAt m 6, leAt m 8 2, byteAt m 7, slice m 0x0E n, auth, leAt m (0x0E + n) 4⟩
    if !x.1 ∨ a.dropped then x.2
    else
      (({ x.2 with ibReqs := x.2.ibReqs ++ [⟨c, byteAt m 5, a.op, a.idx, a.sub, auth, p, slice fr 6 6, v.1, a.data, a.fresh, func⟩] } : State).perform a).freshEnd sid

/-- A management frame arrives at its port (R141, R145). -/
def State.inbandFrame (p : Nat) (fr : Bytes) (s : State) : State :=
  if !s.up 0 then s
  else
    let recent := (s.port p).mgmtAt.filter (fun i => Nat.blt s.now (i + secU))
    if s.obj O.INBAND_RATE ≤ recent.length ∨ 16 ≤ s.ibReqs.length then s.bump O.INBAND_DROP
    else (s.modPort p (fun x => { x with mgmtAt := s.now :: recent })).mgmtTake p fr

/-- INBAND_FRAME: a whole management frame at a port (R141). -/
def State.inbandTake (s : State) (p : Nat) (fr : Bytes) : State :=
  if takenKind s.mgmt { data := fr, src := .port p } = 3 ∧ s.link p = 6 then s.inbandFrame p fr else s

/-- A frame of the control block's own enters a queue of a port (R144). -/
def State.sendOwn (s : State) (p q : Nat) (data : Bytes) : State :=
  let fid := s.freshFid 0
  let f : Frame := {
    data := padTo data (max 60 data.length), src := .afi (tileOf p) 0, hm := { dstPort := p, queue := q }, laned := true, resolved := true,
    lastSeg := true, ended := true, wire := max 60 data.length + 4 }
  ((s.arrive fid f).setCopy fid 0 (some { dst := .port p q, place := .arrived, complete := true })).basinAdmit fid 0

/-- The frame of a response (R142, R144). -/
def State.ibResponseFrame (s : State) (q : InbandRequest) (x : Requester × Response) : State :=
  let a := s.authOf x.1
  let fresh := (a.map (·.1)).getD 0
  let body := mgmtHead (funcOf x.2.op) s.node a.isSome q.client q.seq x.2.op q.sub q.idx x.2.code x.2.data ++ natLe fresh 4
  let tag := match a with
    | some (_, sk) => tag8 sk body
    | none => natLe 0 8
  let fr := q.src ++ natLe (s.force O.INBAND_MAC) 6 ++ q.tag.getD [] ++ natBe 0x88B5 2 ++ body ++ tag
  (s.sendOwn q.port (s.obj O.INBAND_QUEUE) fr).modSession x.1 (fun y => { y with tx := fresh })

/-- INBAND_RESPONSE: a client's next response is sent (R144). -/
def State.ibResponse (s : State) (c : Nat) : State :=
  match s.nextResponse (isIb c) with
  | none => s
  | some x =>
    match s.ibReqs.find? (fun q => q.client == c && answersOp q.op x.2.op) with
    | some q => ((({ s with ibReqs := s.ibReqs.erase q }.ibResponseFrame q x).sent x)).freshEnd (.ibSession c)
    | none => s.sent x

/-! DICT records (R631). -/

/-- A relayed request reaches a member. -/
def State.relayTake (s : State) (p : Nat) (m : Bytes) : State :=
  let c := byteAt m 4 % 128
  let a : Ask := ⟨.relay c, byteAt m 6, leAt m 8 2, byteAt m 7, m.drop 0x0E, false, 0⟩
  ({ s with
    responses := s.responses.filter (fun x => x.1 != Requester.relay c),
    relayIn := s.relayIn ++ [⟨c, byteAt m 5, a.op, a.idx, a.sub, false, p, [], none, [], 0, 4⟩] } : State).perform a

/-- What the master keeps of groups and etches that its requesters have open on members. -/
def State.noteAbroad (s : State) (q : Relayed) (code : Nat) : State :=
  let gone := fun (e : Bool) (a : State) => { a with abroad := a.abroad.filter (fun x => x != (q.who, q.member, e)) }
  let put := fun (e : Bool) (a : State) => { gone e a with abroad := (gone e a).abroad ++ [(q.who, q.member, e)] }
  if q.op = 0x10 ∧ code = 0 then put false s
  else if q.op = 0x11 ∨ q.op = 0x12 then gone false s
  else if q.op = 0x02 ∧ q.key = O.ETCH_CTL ∧ code = 0 then (if q.val = 1 then put true s else gone true s)
  else s

/-- The response to a relayed request reaches the master. -/
def State.relayBack (s : State) (m : Bytes) : State :=
  match s.relayed.find? (fun q => q.client == byteAt m 4 % 128 && q.seq == byteAt m 5) with
  | some q => ({ s with relayed := s.relayed.erase q }.noteAbroad q (byteAt m 0x0C)).respond q.who q.op (byteAt m 0x0C) (m.drop 0x0E)
  | none => s

/-- STACK_DICT_RECORD. -/
def State.dictRecord (s : State) (p : Nat) (m : Bytes) : State :=
  let func := byteAt m 1 % 16
  if !s.up 0 ∨ !s.spanPorts.contains p ∨ m.length < 0x0E ∨ m.length ≠ 0x0E + leAt m 0x0A 2 ∨ byteAt m 0 ≠ 1 then s
  else if func = 4 ∧ s.obj O.STACK_STATE = 2 then s.relayTake p m
  else if func = 5 ∧ s.obj O.STACK_STATE = 3 then s.relayBack m
  else s

/-- Requests for a member that has left the view end in TILE_NRDY, and so do all once the package is no longer master (R631). -/
def State.settleRelays (s : State) : State :=
  let gone := fun (m : Nat) => s.obj O.STACK_STATE != 3 || !bit s.viewNow m
  let s1 := { s with relayed := s.relayed.filter (fun q => !gone q.member), abroad := s.abroad.filter (fun x => !gone x.2.1) }
  (s.relayed.filter (fun q => gone q.member)).foldl (fun a q => a.respond q.who q.op 0x0C []) s1

end Sys2Proof.Machine
end

