-- ==== Sys2Proof/Machine/CounterEvents.lean ====
section
/-! DEFINITION. The meanings of the events of counters, windows, the proof store, budgets and the scrub (Counters, Windows and the Proof Store; Integrity, Budgets and
Fault Handling). -/

namespace Sys2Proof.Machine

/-- EVC_SAMPLE (R529). -/
def execEvcSample (now t : Nat) (s : State) : Host.Outcome State Fault Refusal := onTile t now (fun a => a.evcSample t) s

/-- WINDOW_PUBLISH (R538). -/
def execWindowPublish (now p : Nat) (s : State) : Host.Outcome State Fault Refusal := onPort p now (fun a => a.windowPublish p) s

/-- PS_SECOND_SAMPLE (R545, R546): while T0 is in service. -/
def execPsSecondSample (now : Nat) (s : State) : Host.Outcome State Fault Refusal := act now (fun a => if a.up 0 then a.secondSample else a) s

/-- PS_PERIODIC (R547): while T0 is in service. -/
def execPsPeriodic (now : Nat) (s : State) : Host.Outcome State Fault Refusal := act now (fun a => if a.up 0 then a.psPeriodic else a) s

/-- PS_HOLD_EXPIRY (R547): while T0 is in service. -/
def execPsHoldExpiry (now : Nat) (s : State) : Host.Outcome State Fault Refusal := act now (fun a => if a.up 0 then a.psHoldExpiry else a) s

/-- PS_CHECKPOINT_DONE (R547, R548). -/
def execPsCheckpointDone (now : Nat) (bad : List Bool) (s : State) : Host.Outcome State Fault Refusal := act now (fun a => a.psDone bad) s

/-- BUDGET_PERIOD (R594). -/
def execBudgetPeriod (now t : Nat) (s : State) : Host.Outcome State Fault Refusal := onTile t now (fun a => a.budgetPeriod t) s

/-- SCRUB_READ (R585 to R588). -/
def execScrubRead (now t mem loc outcome : Nat) (s : State) : Host.Outcome State Fault Refusal :=
  onTile t now (fun a => a.scrubRead t mem loc outcome) s

end Sys2Proof.Machine
end

