-- ==== Sys2Proof/Machine/Flags.lean ====
section
/-! DEFINITION. The flag and status words a tile's control window shows (R79, R83, R85, R88), and the pins that show the state of the package (R101, R102). -/

namespace Sys2Proof.Machine

/-! Status words of the control window. -/

/-- TIME_SNAP.CTL (R79). -/
def Window.timeCtl (w : Window) : Nat := w.tsSeq * 2 ^ 32 + b2n w.tsBusy * 4 + b2n w.tsDone * 2

/-- CNT_SNAP.CTL (R83). -/
def Window.cntCtl (w : Window) : Nat := w.csSeq * 2 ^ 32 + w.csSrc * 2 ^ 16 + w.csCount * 8 + b2n w.csBusy * 4 + b2n w.csDone * 2

/-- TSQ_POP.HEAD (R85) of an entry or of none, the queue's flag and the entries left. -/
def popHead (e : Option (Nat × Nat × Nat)) (ovf : Bool) (left : Nat) : Nat :=
  let base := b2n ovf * 2 ^ 62 + left * 2 ^ 56
  match e with
  | some (frameId, _, tag) => 2 ^ 63 + base + tag % 256 * 2 ^ 32 + frameId % 65536
  | none => base

/-- DICT_MBOX.STATUS (R88). -/
def Window.mboxStatus (w : Window) (priv : Bool) : Nat :=
  b2n w.busy * 2 ^ 63 + b2n w.done * 2 ^ 62 + b2n priv * 2 ^ 61 + w.error % 256 * 2 ^ 48 + w.seq % 256 * 2 ^ 16 + w.len % 1024

/-- The defined fields of DICT_MBOX.CMD without GO (R88). -/
def cmdFields (v : Nat) : Nat := field v 55 48 * 2 ^ 48 + field v 47 40 * 2 ^ 40 + field v 39 24 * 2 ^ 24 + field v 23 16 * 2 ^ 16 + field v 9 0

/-! Pins. -/

/-- CLM_FAULT_N is low while a fatal fault is present (R101); a package reset and package sleep release it (R102). -/
def State.clmFaultN (s : State) : Bool := !(s.fatalFault && s.pwrOk && s.porstN && !s.asleep)

/-- HOST_WAKE_N is low while any port's WAKE_CAUSE is not 0 (R101, R256); a package reset and package sleep release it (R102). -/
def State.hostWakeN (s : State) : Bool :=
  !((List.range s.variant.ports).any (fun p => s.obj (O.WAKE_CAUSE p) != 0) && s.pwrOk && s.porstN && !s.asleep)

/-- PKG_SLEEP (R101, R102). -/
def State.pkgSleep (s : State) : Bool := s.asleep

/-- FB_TXD between the frames that `Out.zwiwa` records: high, the recessive level, in every condition (R101, R102). -/
def State.fbTxd (_ : State) : Bool := true

/-- FB_STB is high in package reset and package sleep (R102); it stays so from the loss of the supply until the reset is released. -/
def State.fbStbPin (s : State) : Bool := s.fbStb || !s.pwrOk || !s.porstN

/-- AFI_RDY of a channel: low in a tile's reset and while it is dormant (R63, R102). -/
def State.afiRdyPin (s : State) (t ch : Nat) : Bool := (s.afi t ch).rdy

/-! Lanes at the pins (R102, R103, R171, R188). -/

/-- What a lane's transmitter puts on its balls. -/
inductive Signal where
  /-- Electrically idle. -/
  | idle
  /-- Quiet and refresh, as IEEE 802.3 Clause 78 requires (R103). -/
  | quiet
  /-- Clause 73 auto-negotiation (R188). -/
  | dme
  /-- Training frames with every coefficient request at hold and receiver-ready clear (R188). -/
  | trainingHold
  /-- The link training of the port's PMD, with the control field last sent (R188, R190). -/
  | training
  /-- 8b/10b idle code groups (R188). -/
  | codeGroups
  /-- Scrambled idle of an Ethernet PCS (R188). -/
  | pcsIdle
  /-- IDLE control blocks between commas (R188, R200). -/
  | idleBlocks
  /-- SGMII control information (R188). -/
  | control
  /-- CAP blocks, as `Out.cap` records them (R204). -/
  | cap
  /-- Frames, or the idle between them. -/
  | frames
  /-- A test pattern (R174). -/
  | pattern (code : Nat)
  /-- The symbols of the near-end parallel loop (R171). -/
  | looped
  /-- The received symbols, retimed by the recovered clock (R171, R172). -/
  | returned
deriving DecidableEq, Repr

/-- What a port sends on a lane in each state of its bring-up, by link kind (R184, R188). -/
def State.sends (s : State) (p l : Nat) : Signal :=
  let kind := (s.mode p).kind
  let st := s.link p
  let data : Signal := if kind = 0 then .pcsIdle else if kind = 1 then .codeGroups else .idleBlocks
  if st = 0 ∨ st = 7 then .idle
  else if st = 1 then
    if kind = 1 then .codeGroups
    else if kind = 0 ∧ s.force (O.AN_ENABLE p) ≠ 0 then (if l = p then .dme else .idle)
    else .trainingHold
  else if st = 2 then .training
  else if st = 3 ∨ st = 4 then data
  else if st = 5 then (if kind = 0 then .pcsIdle else if kind = 1 then .control else .cap)
  else if (s.lane l).alone = 1 then .training
  else if (s.lane l).alone = 2 then .idle
  else if kind = 2 ∧ !bit (s.obj (O.LANES_UP p)) (l - p) then .idleBlocks
  else if kind = 0 ∧ s.obj (O.WIDTH_NOW p) ≤ l - p then .idle
  else if s.shedHolds p then .pcsIdle
  else .frames

/-- A tile whose lanes are driven: out of reset, not dormant, in a package that is powered and awake (R102). -/
def State.lanesDriven (s : State) (t : Nat) : Bool := s.up t && s.pwrOk && s.porstN && !s.asleep

/-- A loop or a pattern takes the place of the lane's data (R171, R174). -/
def State.testSignal (s : State) (p l : Nat) : Option Signal :=
  let loop := s.obj (O.LOOP p)
  if loop = 1 then some .idle
  else if loop = 3 then some .returned
  else if s.obj (O.TX_PATTERN l) ≠ 0 then some (.pattern (s.obj (O.TX_PATTERN l)))
  else if loop = 2 then some .looped
  else none

/-- The transmitter of a lane (R102, R103, R166, R171, R184, R188); a lane that wakes or is in FAULT is idle (assumption 87). -/
def State.laneTx (s : State) (l : Nat) : Signal :=
  let st := s.obj (O.LANE_STATE l)
  match s.portOf l with
  | none => .idle
  | some p =>
    if !s.lanesDriven (tileOf l) ∨ st = 0 ∨ st = 1 ∨ st = 2 ∨ st = 7 then .idle
    else if st = 5 then .quiet
    else if st = 6 then (s.testSignal p l).getD .idle
    else s.sends p l

/-- The receiver termination of a lane (R102, R103, R177, R184): on, but off with its port, in a lane that is OFF, and where its tile or the package is down. -/
def State.laneTerm (s : State) (l : Nat) : Bool := (s.portOf l).isSome && s.lanesDriven (tileOf l) && s.obj (O.LANE_STATE l) != 0

/-- Where a lane's receive side takes its symbols from (R171): the line, its own transmitter's analog output, or its own PCS; in the far-end loop the line, whose symbols go
back and not to the PCS. -/
inductive RxPath where
  | line | nearSerial | nearParallel | farLoop
deriving DecidableEq, Repr

/-- The receive path of a lane (R171, R173). -/
def State.rxPath (s : State) (l : Nat) : RxPath :=
  match s.portOf l with
  | none => .line
  | some p =>
    let k := s.obj (O.LOOP p)
    if k = 1 then .nearSerial else if k = 2 then .nearParallel else if k = 3 then .farLoop else .line

/-- The lane's transmit clock is its recovered clock in the far-end loop, the reference oscillator otherwise (R149, R172). -/
def State.recoveredClock (s : State) (l : Nat) : Bool := s.rxPath l == .farLoop

/-- The signal on the line reaches the lane's receiver: not in a near-end loop, where it is ignored (R171). -/
def State.hearsLine (s : State) (l : Nat) : Bool := s.rxPath l == .line || s.rxPath l == .farLoop

/-- The levels a lane's balls carry for `n` symbols of its pattern, under the coding and polarity in force (R148, R155, R160, R174). -/
def State.patternOut (s : State) (l n : Nat) : List Nat :=
  let pam4 := isPam4 (s.obj (O.LANE_MODE l))
  let sym := patternSymbols (s.obj (O.TX_PATTERN l)) n
  polar pam4 (s.lane l).txInverted (if pam4 && s.flag (O.TX_PRECODE_NOW l) then precode 0 sym else sym)

end Sys2Proof.Machine
end

