-- ==== Sys2Proof/Machine/Window.lean ====
section
/-! DEFINITION. A tile's control window (R73 to R89): which accesses it takes, its direct registers, the mailbox, and the words a read returns; and the time bus (R97
to R99). -/

namespace Sys2Proof.Machine

/-! Accesses. -/

/-- The 8-byte word at an offset takes 8-byte accesses only: DB_TX, DB_RX, the CTL words, TSQ_POP.HEAD and DICT_MBOX.CMD (R74). -/
def wideOnly (b : Nat) : Bool :=
  b == 0 || b == 8 || b == 0x40 || b == 0x80 || b == 0x400 || (Nat.ble 0x100 b && Nat.blt b 0x220 && b % 16 == 0)

/-- An access that R74 allows. -/
def winLegal (off size : Nat) : Bool :=
  (size == 4 || size == 8) && off % size == 0 && Nat.ble (off + size) 65536 && (size == 8 || !wideOnly (off / 8 * 8))

/-- The answer of a window (R75): 0 OK, 1 NRDY, 2 ERR, and the value of a read; in package sleep there is none (R102). -/
def State.winAnswer (s : State) (t code val : Nat) : State := if s.asleep then s else s.emit (.window t code val)

/-- A violation of R74 is counted and reported (R104). -/
def State.winViol (s : State) (t : Nat) : State := (s.bump (O.CW_VIOL t)).raise t 0x78 0 3

/-- A value of all ones (R75). -/
def allOnes (size : Nat) : Nat := 2 ^ (8 * size) - 1

/-- An access that writes: NRDY, ERR, or its effect and OK (R75, R104). Of an access that breaks R74 at a tile not in service both NRDY and ERR are true; the model answers
NRDY and counts nothing (DESIGN CHOICE, assumption 77). -/
def State.winWrite (s : State) (t off size : Nat) (f : State → State) : State :=
  if !s.up t then s.winAnswer t 1 0
  else if !winLegal off size then (s.winViol t).winAnswer t 2 0
  else (f s).winAnswer t 0 0

/-! Snapshots of time (R79 to R82). -/

/-- The result words of a snapshot of the tile's replicas: LO and HI of A, B and L (R81). -/
def State.timeWords (s : State) (t : Nat) : List Nat :=
  [0, 1, 2].flatMap (fun d => let v := ts96 (s.timeAt t d); [v % 2 ^ 64, v / 2 ^ 64 + s.tagOf t d * 2 ^ 32])

/-- TIME_SNAP: the tile's replicas are sampled (R80). -/
def State.timeSnap (s : State) (t : Nat) : State :=
  if (s.tile t).win.tsBusy then s
  else
    let v := s.timeWords t
    s.modWin t (fun w => { w with tsBusy := true, tsCap := v })

/-- TIME_SNAP_DONE: the values are placed (R80). -/
def State.timeSnapDone (s : State) (t : Nat) : State :=
  if !(s.tile t).win.tsBusy then s
  else s.modWin t (fun w => { w with tsRes := w.tsCap, tsCap := [], tsSeq := (w.tsSeq + 1) % 2 ^ 32, tsDone := true, tsBusy := false })

/-- TIME_SNAP.CTL is written (R79). -/
def State.timeCtlWrite (s : State) (t v : Nat) : State :=
  let s1 := if bit v 1 then s.modWin t (fun w => { w with tsDone := false }) else s
  if bit v 0 then s1.timeSnap t else s1

/-- CNT_SNAP.CTL is written (R83): SRC is a field of its own, and a reserved code leaves it (R8). While BUSY is 1 only SNAP is ignored, and SRC is stored all the same
(DESIGN CHOICE, assumption 78). -/
def State.cntCtlWrite (s : State) (t v : Nat) : State :=
  let src := field v 20 16
  let s1 := s.modWin t (fun w => { w with csDone := w.csDone && !bit v 1, csSrc := if src ≤ 18 then src else w.csSrc })
  if bit v 0 then s1.cntSnap t src else s1

/-! Transmit timestamps (R85 to R87). -/

/-- A read of TSQ_POP.HEAD pops an entry of the port slot's queue: the value of HEAD, and the state after. -/
def State.tsqPop (s : State) (t k : Nat) : Nat × State :=
  let p := 18 * t + k
  if s.insideWide p then (0, s)
  else
    let q := tget {} s.tsqs p
    let v := popHead q.entries.head? q.ovf (q.entries.length - 1)
    let s1 := { s with tsqs := tput {} s.tsqs p ⟨q.entries.drop 1, false⟩ }
    (v, s1.modWin t (fun w => { w with
      popHead := tput 0 w.popHead k v,
      popTs := (match q.entries.head? with
        | some e => tput 0 w.popTs k e.2.1
        | none => w.popTs) }))

/-- TSQ_POP: a read of HEAD of `size` bytes (R74, R85, R86). -/
def State.tsqRead (s : State) (t k size : Nat) : State :=
  if !s.up t then s.winAnswer t 1 (allOnes size)
  else if size ≠ 8 then (s.winViol t).winAnswer t 2 (allOnes size)
  else let x := s.tsqPop t k; x.2.winAnswer t 0 x.1

/-! The mailbox (R88, R89, R115). -/

/-- The bytes of the data area from its start. -/
def Window.area (w : Window) (n : Nat) : Bytes := (List.range n).map (tget 0 w.data)

/-- Bytes are put into the data area from a place on. -/
def Window.put (w : Window) (at' : Nat) (bs : Bytes) : Window :=
  { w with data := ((List.range bs.length).foldl (fun d i => tput 0 d (at' + i) (bs.getD i 0)) w.data) }

/-- The operation that CMD asks for (R88). -/
def State.mboxAsk (s : State) (t v : Nat) : Ask :=
  ⟨.mailbox t, field v 55 48, field v 39 24, field v 47 40, ((s.tile t).win.area (field v 9 0)), false, 0⟩

/-- Responses of a mailbox that nobody waits for are gone. -/
def State.mboxFlush (s : State) (t : Nat) : State :=
  (s.responses.filter (fun x => x.1 == Requester.mailbox t)).foldl (fun a x => a.sent x) s

/-- GO: the command is taken, GO and DONE are cleared and BUSY is set (R115); while the tile's control block is updated, GO stays set (R610). -/
def State.mboxGo (s : State) (t v : Nat) : State :=
  let s0 := s.mboxFlush t
  let ask := s0.mboxAsk t v
  if (s0.tile t).updating then
    { s0 with heldOps := s0.heldOps ++ [ask] }.modWin t (fun w => { w with cmd := 2 ^ 63 + cmdFields v })
  else
    let s1 := s0.modWin t (fun w => { w with cmd := cmdFields v, busy := true, done := false })
    if 512 < field v 9 0 then s1.respond (.mailbox t) (field v 55 48) 0x11 [] else s1.perform ask

/-- CMD is written (R88, R89). -/
def State.cmdWrite (s : State) (t v : Nat) : State :=
  if (s.tile t).win.busy || bit (s.tile t).win.cmd 63 then s
  else if bit v 63 then s.mboxGo t v
  else s.modWin t (fun w => { w with cmd := cmdFields v })

/-- A held command of a mailbox is taken once its control block runs again (R610). -/
def State.mboxTaken (s : State) (t : Nat) : State :=
  if bit (s.tile t).win.cmd 63 then s.modWin t (fun w => { w with cmd := cmdFields w.cmd, busy := true, done := false }) else s

/-- MBOX_COMPLETE: the response stands in the data area and in STATUS (R89, R115). -/
def State.mboxComplete (s : State) (t : Nat) : State :=
  match s.nextResponse (fun r => r == Requester.mailbox t) with
  | none => s
  | some x =>
    if !s.up t then s
    else
      (s.modWin t (fun w => { w.put 0 x.2.data with
        error := x.2.code, seq := field w.cmd 23 16, len := x.2.data.length, done := true, busy := false })).sent x

/-- MBOX_DONE_CLEAR (R88). -/
def State.mboxDoneClear (s : State) (t : Nat) : State := s.modWin t (fun w => { w with done := false })

/-! A write of the window. -/

/-- A write to a word of the window: `b` is the word's offset, `v` the value at its place in the word (R76, R78 to R89, R541). -/
def State.winReg (s : State) (t b off size v : Nat) : State :=
  if b = 0 ∨ b = 8 then
    (if bit v 13 then s.doorbellRetract t (b == 8) (field v 10 0) (field v 47 32) else s.doorbellPost t (b == 8) (field v 10 0) (field v 47 32))
  else if b = 0x40 then s.timeCtlWrite t v
  else if b = 0x80 then s.cntCtlWrite t v
  else if b = 0x400 then s.cmdWrite t v
  else if b = 0x408 then (if bit v 62 then s.mboxDoneClear t else s)
  else if 0x600 ≤ b ∧ b < 0x800 then
    (if (s.tile t).win.busy then s else s.modWin t (fun w => w.put (off - 0x600) (natLe (v / 256 ^ (off % 8)) size)))
  else if 0x8000 ≤ b then s.pageWrite t
  else s

/-- WINDOW_WRITE (R74, R75). -/
def State.windowWrite (s : State) (t off size val : Nat) : State :=
  s.winWrite t off size (fun a => a.winReg t (off / 8 * 8) off size (val % 2 ^ (8 * size) * 256 ^ (off % 8)))

/-- PAGE_WRITE: a write to the counter page aperture, at its offset in the window (R541). -/
def State.pageAccess (s : State) (t off size : Nat) : State := if 0x8000 ≤ off then s.windowWrite t off size 0 else s

/-! A read of the window. -/

/-- The 8-byte word at an offset (R73, R76, R79 to R89, R540); TSQ_POP.HEAD as it was last read. -/
def State.winWord (s : State) (t b : Nat) : Nat :=
  let w := (s.tile t).win
  if b = 0x40 then w.timeCtl
  else if 0x48 ≤ b ∧ b < 0x78 then w.tsRes.getD ((b - 0x48) / 8) 0
  else if b = 0x80 then w.cntCtl
  else if 0x100 ≤ b ∧ b < 0x220 then (if b % 16 = 0 then tget 0 w.popHead ((b - 0x100) / 16) else tget 0 w.popTs ((b - 0x100) / 16))
  else if b = 0x400 then w.cmd
  else if b = 0x408 then w.mboxStatus (s.tile t).key.priv
  else if 0x600 ≤ b ∧ b < 0x800 then leNat ((List.range 8).map (fun i => tget 0 w.data (b - 0x600 + i)))
  else if 0x1000 ≤ b ∧ b < 0x1F00 then w.csVals.getD ((b - 0x1000) / 8) 0
  else if 0x1F00 ≤ b ∧ b < 0x1F40 then w.csWrap / 2 ^ (8 * (b - 0x1F00)) % 2 ^ 64
  else if b = 0x1F40 then w.csTime % 2 ^ 64
  else if b = 0x1F48 then w.csTime / 2 ^ 64 + w.csTag * 2 ^ 32
  else if 0x8000 ≤ b then s.pageWord t ((b - 0x8000) / 0x1000) (b % 0x1000 / 8)
  else 0

/-- A read of `size` bytes that R74 allows and that changes nothing. -/
def State.winRead (s : State) (t off size : Nat) : Nat := s.winWord t (off / 8 * 8) / 256 ^ (off % 8) % 2 ^ (8 * size)

/-- WINDOW_READ_VIOLATION: a read that breaks R74 is counted and answered ERR with all ones (R75, R104); one that does not is served. -/
def State.readViolation (s : State) (t off size : Nat) : State :=
  if !s.up t then s.winAnswer t 1 (allOnes size)
  else if !winLegal off size then (s.winViol t).winAnswer t 2 (allOnes size)
  else if wideOnly (off / 8 * 8) && Nat.ble 0x100 off && Nat.blt off 0x220 then s.tsqRead t ((off - 0x100) / 16) size
  else s.winAnswer t 0 (s.winRead t off size)

/-! The time bus. -/

/-- The 128-bit time word for the next microsecond boundary of the active domain (R98, R99). -/
def State.timeWord (s : State) (t : Nat) : Nat :=
  let next := (s.timeAt t s.active / usU + 1) * usU % timeMod
  let body := s.tagOf t s.active * 2 ^ 112 + ts96 next * 2 ^ 16 + (s.tile t).tbSeq % 256
  body * 256 + crc8 120 body

/-- A microsecond boundary of the active domain stands at a tile (R98): its nanoseconds are a multiple of 1,000, and TB_STB has not risen for it yet. -/
def State.tbBoundary (s : State) (t : Nat) : Bool :=
  let v := s.timeAt t s.active
  v / nsU % 1000 == 0 && (s.tile t).tbUs != some (v / usU)

/-- TIME_BUS_WORD: at a microsecond boundary TB_STB rises, and the word for the next boundary is sent, while the tile's time unit runs and the tile is not in reset, dormant
or asleep (R97, R98, R102). -/
def State.timeBusWord (s : State) (t : Nat) : State :=
  if !s.pd t 49 ∨ !s.up t ∨ !s.tbBoundary t then s
  else ((s.emit (.timeStrobe t)).emit (.timeWord t (s.timeWord t))).modTile t (fun x => { x with
    tbSeq := (x.tbSeq + 1) % 256, tbUs := some (s.timeAt t s.active / usU) })

end Sys2Proof.Machine
end

