-- ==== Sys2Proof/Machine/DictEvents.lean ====
section
/-! DEFINITION. The meanings of the operations of the dictionary, of its routes, and of the event channel (The Clemal Dictionary; Boundary; Integrity, Budgets
and Fault Handling). -/

namespace Sys2Proof.Machine

/-- The variant has the tile of a mailbox (R2, R117). -/
def hasRoute (v : Variant) : Requester → Bool
  | .mailbox t => t < v.tiles
  | _ => true

/-- An operation asked for by a requester. -/
def asked (now : Nat) (x : Ask) (s : State) : Host.Outcome State Fault Refusal := actIf (hasRoute s.variant x.who) now (fun a => a.perform x) s

/-- NOP (R110). -/
def execNop (now : Nat) (r : Requester) (data : Bytes) (s : State) : Host.Outcome State Fault Refusal := asked now ⟨r, 0x00, 0, 0, data, false, 0⟩ s

/-- READ (R110, R127). -/
def execRead (now : Nat) (r : Requester) (idx sub : Nat) (data : Bytes) (s : State) : Host.Outcome State Fault Refusal :=
  asked now ⟨r, 0x01, idx, sub, data, false, 0⟩ s

/-- WRITE (R109, R110, R113, R125). -/
def execWrite (now : Nat) (r : Requester) (idx sub : Nat) (data : Bytes) (s : State) : Host.Outcome State Fault Refusal :=
  asked now ⟨r, 0x02, idx, sub, data, false, 0⟩ s

/-- READ_RANGE (R111). -/
def execReadRange (now : Nat) (r : Requester) (idx sub : Nat) (data : Bytes) (s : State) : Host.Outcome State Fault Refusal :=
  asked now ⟨r, 0x03, idx, sub, data, false, 0⟩ s

/-- DESCRIBE (R112). -/
def execDescribe (now : Nat) (r : Requester) (idx sub : Nat) (data : Bytes) (s : State) : Host.Outcome State Fault Refusal :=
  asked now ⟨r, 0x04, idx, sub, data, false, 0⟩ s

/-- GROUP_OPEN (R125). -/
def execGroupOpen (now : Nat) (r : Requester) (data : Bytes) (s : State) : Host.Outcome State Fault Refusal := asked now ⟨r, 0x10, 0, 0, data, false, 0⟩ s

/-- GROUP_COMMIT (R128, R129). -/
def execGroupCommit (now : Nat) (r : Requester) (data : Bytes) (s : State) : Host.Outcome State Fault Refusal := asked now ⟨r, 0x11, 0, 0, data, false, 0⟩ s

/-- GROUP_ABORT (R125, R126). -/
def execGroupAbort (now : Nat) (r : Requester) (data : Bytes) (s : State) : Host.Outcome State Fault Refusal := asked now ⟨r, 0x12, 0, 0, data, false, 0⟩ s

/-- GROUP_APPLY (R129, R130). -/
def execGroupApply (now t : Nat) (s : State) : Host.Outcome State Fault Refusal := onTile t now (fun a => (a.groupApply t).sendRelays) s

/-- GROUP_IDLE (R126). -/
def execGroupIdle (now : Nat) (r : Requester) (s : State) : Host.Outcome State Fault Refusal := actIf (hasRoute s.variant r) now (fun a => a.groupIdle r) s

/-- KEY_CHALLENGE (R118). -/
def execKeyChallenge (now t : Nat) (data : Bytes) (s : State) : Host.Outcome State Fault Refusal := asked now ⟨.mailbox t, 0x20, 0, 0, data, false, 0⟩ s

/-- KEY_UNLOCK (R118, R120). -/
def execKeyUnlock (now t : Nat) (data : Bytes) (s : State) : Host.Outcome State Fault Refusal := asked now ⟨.mailbox t, 0x21, 0, 0, data, false, 0⟩ s

/-- KEY_LOCK (R119). -/
def execKeyLock (now t : Nat) (data : Bytes) (s : State) : Host.Outcome State Fault Refusal := asked now ⟨.mailbox t, 0x22, 0, 0, data, false, 0⟩ s

/-- WK_IDLE_EXPIRY (R119). -/
def execWkIdleExpiry (now t : Nat) (s : State) : Host.Outcome State Fault Refusal := onTile t now (fun a => a.keyIdle t) s

/-- KEY_LOCKOUT_END (R120). -/
def execKeyLockoutEnd (now t : Nat) (s : State) : Host.Outcome State Fault Refusal := onTile t now (fun a => a.lockoutEnd t) s

/-- SESSION_OPEN (R120, R138, R140). -/
def execSessionOpen (now : Nat) (r : Requester) (data : Bytes) (s : State) : Host.Outcome State Fault Refusal := asked now ⟨r, 0x40, 0, 0, data, false, 0⟩ s

/-- SESSION_PROVE (R138). -/
def execSessionProve (now : Nat) (r : Requester) (auth : Bool) (fresh : Nat) (data : Bytes) (s : State) : Host.Outcome State Fault Refusal :=
  asked now ⟨r, 0x42, 0, 0, data, auth, fresh⟩ s

/-- SESSION_CLOSE (R140). -/
def execSessionClose (now : Nat) (r : Requester) (data : Bytes) (s : State) : Host.Outcome State Fault Refusal := asked now ⟨r, 0x44, 0, 0, data, false, 0⟩ s

/-- ZW_SESSION_IDLE (R140). -/
def execZwSessionIdle (now : Nat) (r : Requester) (s : State) : Host.Outcome State Fault Refusal :=
  act now (fun a => match sessionId r with
    | some sid => a.sessionIdle sid
    | none => a) s

/-- ZW_FRAGMENT (R132, R134 to R137, R139). -/
def execZwFragment (now ident : Nat) (msg : Bytes) (s : State) : Host.Outcome State Fault Refusal := act now (fun a => a.zwFragment ident msg) s

/-- ZW_FRAG_TIMEOUT (R135). -/
def execZwFragTimeout (now client : Nat) (s : State) : Host.Outcome State Fault Refusal := act now (fun a => a.fragTimeout client) s

/-- ZW_RESPONSE_SEND (R124, R136, R139). -/
def execZwResponseSend (now client : Nat) (s : State) : Host.Outcome State Fault Refusal := act now (fun a => a.zwResponse client) s

/-- HEARTBEAT (R133). -/
def execHeartbeat (now : Nat) (s : State) : Host.Outcome State Fault Refusal := act now (fun a => a.heartbeat) s

/-- BUS_OFF_RECOVERY (R131). -/
def execBusOffRecovery (now : Nat) (s : State) : Host.Outcome State Fault Refusal := act now (fun a => a.busRecovered) s

/-- INBAND_FRAME (R141 to R143, R145). -/
def execInbandFrame (now p : Nat) (data : Bytes) (s : State) : Host.Outcome State Fault Refusal := onPort p now (fun a => a.inbandTake p data) s

/-- INBAND_RESPONSE (R124, R144). -/
def execInbandResponse (now client : Nat) (s : State) : Host.Outcome State Fault Refusal := act now (fun a => a.ibResponse client) s

/-- MBOX_DONE_CLEAR (R88): a write of the window. -/
def execMboxDoneClear (now t : Nat) (s : State) : Host.Outcome State Fault Refusal := onTile t now (fun a => a.windowWrite t 0x408 8 (2 ^ 62)) s

/-- MBOX_COMPLETE (R89, R115). -/
def execMboxComplete (now t : Nat) (s : State) : Host.Outcome State Fault Refusal := onTile t now (fun a => a.mboxComplete t) s

/-- EVENT_REPORT (R599 to R603). -/
def execEventReport (now t : Nat) (s : State) : Host.Outcome State Fault Refusal := onTile t now (fun a => a.eventReport t) s

/-- AGG_ENTRY_CLOSE (R600). -/
def execAggEntryClose (now t kind cls src : Nat) (s : State) : Host.Outcome State Fault Refusal := onTile t now (fun a => a.aggClose t kind cls src) s

/-- ROOT_DISTRIBUTE (R603). -/
def execRootDistribute (now t src kind cls sid : Nat) (start : Bool) (s : State) : Host.Outcome State Fault Refusal :=
  actIf (t < s.variant.tiles && src < s.variant.tiles) now (fun a => a.rootDistribute t src kind cls sid start) s

/-- EVT_RECORD_WRITE (R91 to R94, R602). -/
def execEvtRecordWrite (now t : Nat) (s : State) : Host.Outcome State Fault Refusal := onTile t now (fun a => a.recordWrite t) s

/-- EVT_HOLDOFF_END (R94). -/
def execEvtHoldoffEnd (now t : Nat) (s : State) : Host.Outcome State Fault Refusal := onTile t now (fun a => a.evtHoldoffEnd t) s

end Sys2Proof.Machine
end

