-- ==== Sys2Proof/Machine/FrameEvents.lean ====
section
/-! DEFINITION. The meanings of the events of frames: reception, flow control, the pipes, the fabric between tiles, the Basin, the Burin and the hatch lists
(Ports, Framing and Flow Control; Parsing and Classification; Etch and Versions; Policing, the Basin and Queue Admission; Burin Scheduling; Hatch Lists and Launch). -/

namespace Sys2Proof.Machine

/-- A step of a pipe on a frame; flits that the pipe has taken whole give their credits back (R64). -/
def State.piped (s : State) (fid : Nat) (f : State → State) : State := (f s).afiFreed s fid

/-- The units of table work that an etch has for a tile, in the order they were staged (R594). -/
def State.etchUnits (s : State) (t : Nat) : List (Nat × Nat) :=
  match s.etch with
  | some e => (e.order.filter (fun x => x.1 == t)).map (fun x => if x.2 then (32, 11) else (128, 15))
  | none => []

/-- ETCH_LOAD_DONE: the tile's share is in its tables, under its budget (R308, R594, R596). -/
def State.etchLoaded (s : State) (t : Nat) : State :=
  if s.obj O.ETCH_STATE = 2 && (match s.etch with
    | some e => e.left.contains t
    | none => false) then (s.loadBudget t (s.etchUnits t)).etchLoad t else s

/-- BASIN_GROUP_EMPTY: the group shows empty, and a group that BASIN_PWR asks off switches off (R340, R557). -/
def State.groupDrained (s : State) (t g : Nat) : State := (s.groupEmpty t g).groupOff t g

/-- RX_FRAME_START (R24, R25, R235, R453). -/
def execRxFrameStart (now p fid : Nat) (data : Bytes) (overrun : Bool) (lpiUs : Nat) (s : State) : Host.Outcome State Fault Refusal :=
  onPort p now (fun a => a.rxFrameStart p fid data overrun lpiUs) s

/-- RX_OVERSIZE_CUT (R237). -/
def execRxOversizeCut (now fid : Nat) (s : State) : Host.Outcome State Fault Refusal := act now (fun a => a.oversizeCut fid) s

/-- RX_JABBER_CUT (R237). -/
def execRxJabberCut (now fid : Nat) (s : State) : Host.Outcome State Fault Refusal := act now (fun a => a.jabberCut fid) s

/-- RX_FRAME_END (R235, R242, R255). -/
def execRxFrameEnd (now fid fcs : Nat) (codeErr : Bool) (s : State) : Host.Outcome State Fault Refusal :=
  act now (fun a => a.rxFrameEnd fid fcs codeErr State.inbandFrame) s

/-- PAUSE_RECEIVED (R242 to R244). -/
def execPauseReceived (now p : Nat) (data : Bytes) (fcs : Nat) (s : State) : Host.Outcome State Fault Refusal :=
  onPort p now (fun a => a.pauseReceived p data fcs) s

/-- PAUSE_TIMER_EXPIRY (R244). -/
def execPauseTimerExpiry (now p prio : Nat) (s : State) : Host.Outcome State Fault Refusal := onPort p now (fun a => a.pauseExpiry p prio) s

/-- INGRESS_OCCUPANCY_REPORT (R246, R350). -/
def execIngressOccupancyReport (now p prio : Nat) (written : List (Nat × Nat × Nat)) (s : State) : Host.Outcome State Fault Refusal :=
  onPort p now (fun a => (a.cellsNow written).ingressReport p prio) s

/-- PAUSE_REFRESH (R247). -/
def execPauseRefresh (now p prio : Nat) (s : State) : Host.Outcome State Fault Refusal := onPort p now (fun a => a.pauseRefresh p prio) s

/-- PAUSE_FRAME_SEND (R246, R404). -/
def execPauseFrameSend (now p : Nat) (s : State) : Host.Outcome State Fault Refusal := onPort p now (fun a => a.pauseSend p) s

/-- LPI_ENTRY (R249). -/
def execLpiEntry (now p : Nat) (s : State) : Host.Outcome State Fault Refusal := onPort p now (fun a => a.lpiEntry p (a.txBusy p)) s

/-- COLLISION (R239, R240). -/
def execCollision (now p bits : Nat) (s : State) : Host.Outcome State Fault Refusal := onPort p now (fun a => a.collision p bits) s

/-- HD_BACKOFF_EXPIRY (R240). -/
def execHdBackoffExpiry (now p : Nat) (s : State) : Host.Outcome State Fault Refusal := onPort p now (fun a => a.hdBackoffEnd p) s

/-- FRAME_LANE_ASSIGN (R28 to R32, R312, R315): `middle` positions of the word go to segments in the middle of port frames. -/
def execFrameLaneAssign (now fid lane middle : Nat) (s : State) : Host.Outcome State Fault Refusal :=
  act now (fun a => a.piped fid (fun b => b.laneAssign fid lane middle)) s

/-- LOOKUP_RESOLVE (R261 to R272, R289 to R294, R313, R329). -/
def execLookupResolve (now fid : Nat) (s : State) : Host.Outcome State Fault Refusal := act now (fun a => a.piped fid (fun b => b.lookupResolve fid)) s

/-- PIPE_LAST_SEGMENT (R28, R31, R272, R273, R290, R330): `middle` as for FRAME_LANE_ASSIGN. -/
def execPipeLastSegment (now fid middle : Nat) (s : State) : Host.Outcome State Fault Refusal :=
  act now (fun a => a.piped fid (fun b => b.lastSegment fid middle)) s

/-- RECIRC_REENTRY (R33, R290). -/
def execRecircReentry (now fid : Nat) (s : State) : Host.Outcome State Fault Refusal := act now (fun a => a.reenter fid) s

/-- LIMITER_REFILL (R292). -/
def execLimiterRefill (now t : Nat) (s : State) : Host.Outcome State Fault Refusal := onTile t now (fun a => a.limiterRefill t) s

/-- COL_LINK_FRAME_IN (R36 to R44, R587). -/
def execColLinkFrameIn (now t fid h : Nat) (whole crcBad : Bool) (s : State) : Host.Outcome State Fault Refusal :=
  onTile t now (fun a => a.linkFrameIn t fid h whole crcBad) s

/-- COL_LINK_DOWN (R40, R641). -/
def execColLinkDown (now t k : Nat) (s : State) : Host.Outcome State Fault Refusal := onLink t k now (fun a => a.linkDownCol t k) s

/-- ROUTE_RECOMPUTE (R38). -/
def execRouteRecompute (now t : Nat) (s : State) : Host.Outcome State Fault Refusal := onTile t now (fun a => a.routeRecompute t) s

/-- COL_LINK_UP (R641). -/
def execColLinkUp (now t k : Nat) (s : State) : Host.Outcome State Fault Refusal := onLink t k now (fun a => a.linkUpCol t k) s

/-- COL_TRAIN_TIMEOUT (R641). -/
def execColTrainTimeout (now t k : Nat) (s : State) : Host.Outcome State Fault Refusal := onLink t k now (fun a => a.linkTrainTimeout t k) s

/-- COL_RETRAIN (R641). -/
def execColRetrain (now t k : Nat) (s : State) : Host.Outcome State Fault Refusal := onLink t k now (fun a => a.linkRetrain t k) s

/-- ETCH_IDLE_EXPIRY (R304). -/
def execEtchIdleExpiry (now : Nat) (s : State) : Host.Outcome State Fault Refusal := act now (fun a => a.etchIdleExpiry) s

/-- ETCH_LOAD_DONE (R308). -/
def execEtchLoadDone (now t : Nat) (s : State) : Host.Outcome State Fault Refusal := onTile t now (fun a => a.etchLoaded t) s

/-- ETCH_SWITCH (R309). -/
def execEtchSwitch (now : Nat) (s : State) : Host.Outcome State Fault Refusal := act now (fun a => a.etchSwitch) s

/-- SLOT_RETIRE (R316, R317, R584). -/
def execSlotRetire (now k : Nat) (s : State) : Host.Outcome State Fault Refusal := actIf (k < 4) now (fun a => a.slotRetire k) s

/-- ETCH_STUCK (R318). -/
def execEtchStuck (now k : Nat) (s : State) : Host.Outcome State Fault Refusal := actIf (k < 4) now (fun a => a.etchStuck k) s

/-- POLICER_REFILL (R325, R326). -/
def execPolicerRefill (now t : Nat) (s : State) : Host.Outcome State Fault Refusal := onTile t now (fun a => a.policerRefill t) s

/-- BASIN_ADMIT (R338, R346 to R349); `written` tells the cells written so far of frames still arriving. -/
def execBasinAdmit (now fid h : Nat) (written : List (Nat × Nat × Nat)) (s : State) : Host.Outcome State Fault Refusal :=
  act now (fun a => (a.cellsNow written).basinAdmit fid h) s

/-- BASIN_FRAME_COMPLETE (R46, R47, R348). -/
def execBasinFrameComplete (now fid h : Nat) (s : State) : Host.Outcome State Fault Refusal := act now (fun a => a.frameComplete fid h) s

/-- BASIN_GROUP_EMPTY (R340, R557). -/
def execBasinGroupEmpty (now t g : Nat) (s : State) : Host.Outcome State Fault Refusal := actIf (t < s.variant.tiles && g < 8) now (fun a => a.groupDrained t g) s

/-- QUEUE_SAMPLE (R351, R352). -/
def execQueueSample (now t : Nat) (written : List (Nat × Nat × Nat)) (s : State) : Host.Outcome State Fault Refusal :=
  onTile t now (fun a => (a.cellsNow written).queueSample t) s

/-- BURIN_SELECT (R358 to R367). -/
def execBurinSelect (now p : Nat) (s : State) : Host.Outcome State Fault Refusal := onPort p now (fun a => a.select p) s

/-- TX_START_CHECK (R359, R383, R397 to R405, R460, R587). -/
def execTxStartCheck (now p : Nat) (crcBad remoteFault : Bool) (s : State) : Host.Outcome State Fault Refusal :=
  onPort p now (fun a => a.txCheck p crcBad remoteFault) s

/-- TX_FRAME_END (R368, R372). -/
def execTxFrameEnd (now p : Nat) (s : State) : Host.Outcome State Fault Refusal := onPort p now (fun a => a.txFrameEnd p) s

/-- SHAPER_REFILL (R370). -/
def execShaperRefill (now p : Nat) (s : State) : Host.Outcome State Fault Refusal := onPort p now (fun a => a.shaperRefill p) s

/-- HATCH_LIST_START (R392, R584). -/
def execHatchListStart (now p : Nat) (s : State) : Host.Outcome State Fault Refusal := onPort p now (fun a => a.listStart p) s

/-- GATE_ENTRY_CHANGE (R381, R584). -/
def execGateEntryChange (now p : Nat) (s : State) : Host.Outcome State Fault Refusal := onPort p now (fun a => a.entryChange p) s

/-- COMMA_RECEIVED (R201, R202, R445). -/
def execCommaReceived (now l block bits : Nat) (s : State) : Host.Outcome State Fault Refusal :=
  onPort l now (fun a => (a.comma l block bits).commaNote l bits) s

end Sys2Proof.Machine
end

