-- ==== Sys2Proof/Machine/HostEvents.lean ====
section
/-! DEFINITION. The meanings of what the host die does at a tile's interfaces, and of the DMA engines' steps (Boundary; Stylus Engines and Rings). -/

namespace Sys2Proof.Machine

/-- A command to an AFI channel of a tile. -/
def onChannel (t ch now : Nat) (f : State → State) (s : State) : Host.Outcome State Fault Refusal := actIf (t < s.variant.tiles && ch < 2) now f s

/-- A command to a ring of a tile. -/
def onRing (t ring now : Nat) (f : State → State) (s : State) : Host.Outcome State Fault Refusal := actIf (t < s.variant.tiles && ring < 2048) now f s

/-- AFI_RDY_RISE (R63, R65). -/
def execAfiRdyRise (now t ch : Nat) (s : State) : Host.Outcome State Fault Refusal := onChannel t ch now (fun a => a.afiRise t ch) s

/-- AFI_RDY_FALL (R63, R104). -/
def execAfiRdyFall (now t ch : Nat) (hd : Bool) (s : State) : Host.Outcome State Fault Refusal := onChannel t ch now (fun a => a.afiFall t ch hd) s

/-- AFI_CREDIT_RETURN (R64, R66, R104). -/
def execAfiCreditReturn (now t ch n : Nat) (s : State) : Host.Outcome State Fault Refusal := onChannel t ch now (fun a => a.afiCredit t ch n) s

/-- AFI_TX_FRAME (R54 to R56, R60 to R62, R104). -/
def execAfiTxFrame (now t ch fid metaw : Nat) (flits : List Flit) (s : State) : Host.Outcome State Fault Refusal :=
  onChannel t ch now (fun a => a.afiTxFrame t ch fid metaw flits) s

/-- AFI_STALL (R104). -/
def execAfiStall (now t ch : Nat) (s : State) : Host.Outcome State Fault Refusal := onChannel t ch now (fun a => a.afiStall t ch) s

/-- AFI_RX_SEND (R57 to R59, R587): bit k of `crcBad` tells that a cell of the frame in context k fails its CRC. -/
def execAfiRxSend (now t ch crcBad : Nat) (s : State) : Host.Outcome State Fault Refusal := onChannel t ch now (fun a => a.afiRxSend t ch crcBad) s

/-- MEM_READ_RESPONSE (R68, R104). -/
def execMemReadResponse (now t tag status : Nat) (data : Bytes) (s : State) : Host.Outcome State Fault Refusal :=
  onTile t now (fun a => a.memResponse t tag status data) s

/-- DMA_TIMEOUT (R104). -/
def execDmaTimeout (now t tag : Nat) (s : State) : Host.Outcome State Fault Refusal := onTile t now (fun a => a.memTimeout t tag) s

/-- MEM_WRITE_ERROR (R71, R516). -/
def execMemWriteError (now t rid addr status : Nat) (s : State) : Host.Outcome State Fault Refusal :=
  onTile t now (fun a => a.memWriteError t rid addr status) s

/-- HD_MEM_RDY_CHANGE (R72). -/
def execHdMemRdyChange (now t : Nat) (level : Bool) (s : State) : Host.Outcome State Fault Refusal := onTile t now (fun a => a.memRdy t level) s

/-- MEM_RDY_LOSS (R104). -/
def execMemRdyLoss (now t : Nat) (s : State) : Host.Outcome State Fault Refusal := onTile t now (fun a => a.memRdyLoss t) s

/-- WINDOW_WRITE (R74 to R76, R104). -/
def execWindowWrite (now t off size val : Nat) (s : State) : Host.Outcome State Fault Refusal :=
  onTile t now (fun a => a.windowWrite t off size val) s

/-- WINDOW_READ_VIOLATION (R75, R104). -/
def execWindowReadViolation (now t off size : Nat) (s : State) : Host.Outcome State Fault Refusal := onTile t now (fun a => a.readViolation t off size) s

/-- The write of DB_TX or DB_RX (R78). -/
def doorbell (ring tail : Nat) (retract : Bool) : Nat := tail % 65536 * 2 ^ 32 + b2n retract * 2 ^ 13 + ring % 2048

/-- DOORBELL_POST (R78, R494). -/
def execDoorbellPost (now t : Nat) (rx : Bool) (ring tail : Nat) (s : State) : Host.Outcome State Fault Refusal :=
  onRing t ring now (fun a => a.windowWrite t (8 * b2n rx) 8 (doorbell ring tail false)) s

/-- DOORBELL_RETRACT (R78, R506, R507). -/
def execDoorbellRetract (now t : Nat) (rx : Bool) (ring tail : Nat) (s : State) : Host.Outcome State Fault Refusal :=
  onRing t ring now (fun a => a.windowWrite t (8 * b2n rx) 8 (doorbell ring tail true)) s

/-- TIME_SNAP (R79, R80). -/
def execTimeSnap (now t : Nat) (s : State) : Host.Outcome State Fault Refusal := onTile t now (fun a => a.windowWrite t 0x40 8 1) s

/-- TIME_SNAP_DONE (R80, R81). -/
def execTimeSnapDone (now t : Nat) (s : State) : Host.Outcome State Fault Refusal := onTile t now (fun a => a.timeSnapDone t) s

/-- TIME_SNAP_DONE_CLEAR (R79). -/
def execTimeSnapDoneClear (now t : Nat) (s : State) : Host.Outcome State Fault Refusal := onTile t now (fun a => a.windowWrite t 0x40 8 2) s

/-- CNT_SNAP (R83, R532, R533). -/
def execCntSnap (now t src : Nat) (s : State) : Host.Outcome State Fault Refusal :=
  onTile t now (fun a => a.windowWrite t 0x80 8 (1 + src % 32 * 2 ^ 16)) s

/-- CNT_SNAP_DONE (R84). -/
def execCntSnapDone (now t : Nat) (s : State) : Host.Outcome State Fault Refusal := onTile t now (fun a => a.cntSnapDone t) s

/-- CNT_SNAP_DONE_CLEAR (R83): SRC is written as it stands. -/
def execCntSnapDoneClear (now t : Nat) (s : State) : Host.Outcome State Fault Refusal :=
  onTile t now (fun a => a.windowWrite t 0x80 8 (2 + (a.tile t).win.csSrc % 32 * 2 ^ 16)) s

/-- TSQ_POP (R85, R86). -/
def execTsqPop (now t k size : Nat) (s : State) : Host.Outcome State Fault Refusal :=
  actIf (t < s.variant.tiles && k < 18) now (fun a => a.tsqRead t k size) s

/-- PAGE_WRITE (R541). -/
def execPageWrite (now t off size : Nat) (s : State) : Host.Outcome State Fault Refusal := onTile t now (fun a => a.pageAccess t off size) s

/-- TIME_BUS_WORD (R97 to R99). -/
def execTimeBusWord (now t : Nat) (s : State) : Host.Outcome State Fault Refusal := onTile t now (fun a => a.timeBusWord t) s

/-- RING_ABORT_DONE (R485, R508). -/
def execRingAbortDone (now t : Nat) (rx : Bool) (ring : Nat) (s : State) : Host.Outcome State Fault Refusal :=
  onRing t ring now (fun a => a.abortDone t rx ring) s

/-- DESC_FETCH (R496). -/
def execDescFetch (now t : Nat) (rx : Bool) (ring tag : Nat) (s : State) : Host.Outcome State Fault Refusal :=
  onRing t ring now (fun a => a.descFetch t rx ring tag) s

/-- ENGINE_SCHEDULE (R486, R497, R512). -/
def execEngineSchedule (now t e tag : Nat) (s : State) : Host.Outcome State Fault Refusal :=
  actIf (t < s.variant.tiles && e < 16) now (fun a => a.engineSchedule t e tag) s

/-- BURST_END (R489, R497, R506, R508, R587). -/
def execBurstEnd (now t : Nat) (rx : Bool) (ring tag : Nat) (crcBad : Bool) (s : State) : Host.Outcome State Fault Refusal :=
  onRing t ring now (fun a => (if crcBad then a.ringCellFails t rx ring else a).burstEnd t rx ring tag) s

/-- READBACK_DONE (R503). -/
def execReadbackDone (now t : Nat) (rx : Bool) (ring status : Nat) (s : State) : Host.Outcome State Fault Refusal :=
  onRing t ring now (fun a => a.readbackDone t rx ring status) s

/-- ENGINE_FRAME_OFFER (R32, R488, R501). -/
def execEngineFrameOffer (now t ring fid : Nat) (s : State) : Host.Outcome State Fault Refusal := onRing t ring now (fun a => a.frameOffer t ring fid) s

/-- RX_DELIVERY_START (R486, R493). -/
def execRxDeliveryStart (now t ring : Nat) (s : State) : Host.Outcome State Fault Refusal := onRing t ring now (fun a => a.deliveryStart t ring) s

/-- IDLE_HAND_OVER_POINT (R510). -/
def execIdleHandOverPoint (now t : Nat) (rx : Bool) (ring : Nat) (s : State) : Host.Outcome State Fault Refusal :=
  onRing t ring now (fun a => a.idleHandOver t rx ring) s

/-- CQ_HOLDOFF_END (R505). -/
def execCqHoldoffEnd (now t q : Nat) (s : State) : Host.Outcome State Fault Refusal :=
  actIf (t < s.variant.tiles && q < 1024) now (fun a => a.cqHoldoffEnd t q) s

end Sys2Proof.Machine
end

