-- ==== Sys2Proof/Machine/LinkEvents.lean ====
section
/-! DEFINITION. The meanings of the lane, bring-up, span and shedding events (Serial Lanes; Link Bring-up; Ports). Each is the chapter's operation
on the port or lane the command names. -/

namespace Sys2Proof.Machine

/-- LANE_LOS_ASSERT (R162, R185, R192). -/
def execLaneLosAssert (now l mv ns : Nat) (s : State) : Host.Outcome State Fault Refusal := onPort l now (fun a => a.losAssert l mv ns) s

/-- LANE_LOS_DEASSERT (R162, R188, R197). -/
def execLaneLosDeassert (now l mv ns : Nat) (s : State) : Host.Outcome State Fault Refusal := onPort l now (fun a => a.losDeassert l mv ns) s

/-- LANE_LOL_ASSERT (R164, R165, R185). -/
def execLaneLolAssert (now l : Nat) (windows : List CdrWindow) (s : State) : Host.Outcome State Fault Refusal :=
  onPort l now (fun a => a.lolAssert l windows) s

/-- LANE_LOL_DEASSERT (R164, R184). -/
def execLaneLolDeassert (now l : Nat) (windows : List CdrWindow) (s : State) : Host.Outcome State Fault Refusal :=
  onPort l now (fun a => a.lolDeassert l windows) s

/-- SNR_WINDOW_END (R166, R184). -/
def execSnrWindowEnd (now l snr start : Nat) (s : State) : Host.Outcome State Fault Refusal :=
  onPort l now (fun a => a.snrWindow l snr start) s

/-- ADAPT_UPDATE (R157, R158, R190). -/
def execAdaptUpdate (now l ctle : Nat) (ffe : List Int) (dfe : Int) (s : State) : Host.Outcome State Fault Refusal :=
  onPort l now (fun a => a.adaptUpdate l ctle ffe dfe) s

/-- FEC_CODEWORD (R168 to R170, R209). -/
def execFecCodeword (now p : Nat) (corr : List LaneSym) (uncorr : Bool) (s : State) : Host.Outcome State Fault Refusal :=
  onPort p now (fun a => a.fecCodeword p corr uncorr) s

/-- CHK_LOCK_GAIN (R175). -/
def execChkLockGain (now l : Nat) (levels : List Nat) (s : State) : Host.Outcome State Fault Refusal := onPort l now (fun a => a.chkGain l levels) s

/-- CHK_LOCK_LOSS (R175). -/
def execChkLockLoss (now l bits errs within : Nat) (s : State) : Host.Outcome State Fault Refusal :=
  onPort l now (fun a => a.chkLoss l bits errs within) s

/-- LANE_REST_ENTRY_DONE (R178, R181). -/
def execLaneRestEntryDone (now l : Nat) (s : State) : Host.Outcome State Fault Refusal := onPort l now (fun a => a.restEntryDone l) s

/-- LANE_PLL_LOCK (R179). -/
def execLanePllLock (now l : Nat) (s : State) : Host.Outcome State Fault Refusal := onPort l now (fun a => a.pllLock l) s

/-- LANE_PLL_TIMEOUT (R180). -/
def execLanePllTimeout (now l : Nat) (s : State) : Host.Outcome State Fault Refusal := onPort l now (fun a => a.lanePllTimeout l) s

/-- LANE_CAL_DONE (R179, R180). -/
def execLaneCalDone (now l : Nat) (s : State) : Host.Outcome State Fault Refusal := onPort l now (fun a => a.laneCalDone l) s

/-- LANE_SUPPLY_DIP (R657). -/
def execLaneSupplyDip (now : Nat) (hv : Bool) (mv ns : Nat) (s : State) : Host.Outcome State Fault Refusal := act now (fun a => a.supplyDip hv mv ns) s

/-- PARTNER_DETECTED (R184, R188, R189). -/
def execPartnerDetected (now p : Nat) (x : Partner) (s : State) : Host.Outcome State Fault Refusal := onPort p now (fun a => a.partnerFound p x) s

/-- RXDET_TIMEOUT (R184). -/
def execRxdetTimeout (now p : Nat) (s : State) : Host.Outcome State Fault Refusal := onPort p now (fun a => a.rxdetTimeout p) s

/-- TRAIN_COEFF_REQUEST (R153, R190). -/
def execTrainCoeffRequest (now l : Nat) (req : CoeffReq) (s : State) : Host.Outcome State Fault Refusal :=
  onPort l now (fun a => a.coeffRequest l req) s

/-- TRAINING_COMPLETE (R184, R191). -/
def execTrainingComplete (now p : Nat) (status : List PartnerTrain) (s : State) : Host.Outcome State Fault Refusal :=
  onPort p now (fun a => a.trainingDone p status) s

/-- TRAIN_TIMEOUT (R184). -/
def execTrainTimeout (now p : Nat) (s : State) : Host.Outcome State Fault Refusal :=
  onPort p now (fun a => a.trainTimeout p) s

/-- BITLOCK_TIMEOUT (R184). -/
def execBitlockTimeout (now p : Nat) (s : State) : Host.Outcome State Fault Refusal := onPort p now (fun a => a.bitlockTimeout p) s

/-- SYMBOL_LOCK_DONE (R184, R203, R233). -/
def execSymbolLockDone (now p deskewPs skewBlocks : Nat) (s : State) : Host.Outcome State Fault Refusal :=
  onPort p now (fun a => a.lockDone p deskewPs skewBlocks) s

/-- SYMLOCK_TIMEOUT (R184). -/
def execSymlockTimeout (now p : Nat) (s : State) : Host.Outcome State Fault Refusal :=
  onPort p now (fun a => a.stateTimeout p 4 (O.SYMLOCK_TIMEOUT p) 7) s

/-- CAP_EXCHANGE_DONE (R184, R204). -/
def execCapExchangeDone (now p speed : Nat) (half : Bool) (us : Nat) (linkBit : Bool) (s : State) : Host.Outcome State Fault Refusal :=
  onPort p now (fun a => a.capExchangeDone p speed half us linkBit) s

/-- CAPX_TIMEOUT (R184). -/
def execCapxTimeout (now p : Nat) (s : State) : Host.Outcome State Fault Refusal :=
  onPort p now (fun a => a.capxTimeout p) s

/-- PARTNER_RESTART (R193). -/
def execPartnerRestart (now p : Nat) (s : State) : Host.Outcome State Fault Refusal := onPort p now (fun a => a.partnerRestart p) s

/-- BACKOFF_EXPIRY (R184, R195). -/
def execBackoffExpiry (now p : Nat) (s : State) : Host.Outcome State Fault Refusal := onPort p now (fun a => a.backoffExpiry p) s

/-- LINK_STABLE_EXPIRY (R196). -/
def execLinkStableExpiry (now p : Nat) (s : State) : Host.Outcome State Fault Refusal := onPort p now (fun a => a.linkStable p) s

/-- CAP_BLOCK (R204). -/
def execCapBlock (now l : Nat) (cap : Cap) (s : State) : Host.Outcome State Fault Refusal := onPort l now (fun a => a.capBlock l cap) s

/-- UNIT_TRANSMIT (R205, R206, R618). -/
def execUnitTransmit (now p : Nat) (s : State) : Host.Outcome State Fault Refusal := onPort p now (fun a => (a.sendCommas p).unitTransmit p) s

/-- UNIT_RECEIVED (R206, R207). -/
def execUnitReceived (now p seq : Nat) (data : Bytes) (ucrc lanes : Nat) (s : State) : Host.Outcome State Fault Refusal :=
  onPort p now (fun a => a.unitReceived p seq data ucrc lanes) s

/-- ACK_RECEIVED (R206). -/
def execAckReceived (now p seq : Nat) (s : State) : Host.Outcome State Fault Refusal := onPort p now (fun a => a.ackReceived p seq) s

/-- NAK_RECEIVED (R207). -/
def execNakReceived (now p seq : Nat) (s : State) : Host.Outcome State Fault Refusal := onPort p now (fun a => a.nakReceived p seq) s

/-- LANE_DROP (R210). -/
def execLaneDrop (now p lane restripe replay : Nat) (s : State) : Host.Outcome State Fault Refusal :=
  onPort p now (fun a => a.laneDrop p lane restripe replay) s

/-- LANE_ADD (R212). -/
def execLaneAdd (now p lane restripe : Nat) (s : State) : Host.Outcome State Fault Refusal := onPort p now (fun a => a.laneAdd p lane restripe) s

/-- LANE_ACK (R210, R212). -/
def execLaneAck (now p acked lane restripe : Nat) (s : State) : Host.Outcome State Fault Refusal :=
  onPort p now (fun a => a.laneAck p acked lane restripe) s

/-- SPAN_LANE_REJOIN (R212). -/
def execSpanLaneRejoin (now l : Nat) (s : State) : Host.Outcome State Fault Refusal := onPort l now (fun a => a.spanRejoin l) s

/-- SHED_SUBWINDOW (R216). -/
def execShedSubwindow (now p sent rcvd : Nat) (s : State) : Host.Outcome State Fault Refusal :=
  onPort p now (fun a => a.shedSubwindow p sent rcvd) s

/-- SHED_WINDOW (R216). -/
def execShedWindow (now p sent rcvd : Nat) (s : State) : Host.Outcome State Fault Refusal := onPort p now (fun a => a.shedWindow p sent rcvd) s

/-- SHED_REQ (R217, R218). -/
def execShedReq (now p : Nat) (widen : Bool) (width token restripe : Nat) (s : State) : Host.Outcome State Fault Refusal :=
  onPort p now (fun a => a.shedReceived p ⟨widen, width, token, restripe⟩) s

/-- SHED_RSP (R217, R218). -/
def execShedRsp (now p : Nat) (_widen : Bool) (_width token result restripe : Nat) (s : State) : Host.Outcome State Fault Refusal :=
  onPort p now (fun a => a.shedResponse p token result restripe) s

/-- SHED_SWITCH (R219). -/
def execShedSwitch (now p : Nat) (s : State) : Host.Outcome State Fault Refusal := onPort p now (fun a => a.shedSwitch p) s

/-- SHED_RELOCK_TIMEOUT (R219). -/
def execShedRelockTimeout (now p : Nat) (s : State) : Host.Outcome State Fault Refusal := onPort p now (fun a => a.shedRelockTimeout p) s

/-- PCS_LOCK_LOSS (R185). -/
def execPcsLockLoss (now p _lane : Nat) (s : State) : Host.Outcome State Fault Refusal := onPort p now (fun a => a.pcsLost p) s

/-- LPI_WAKE_DONE (R249). -/
def execLpiWakeDone (now p : Nat) (s : State) : Host.Outcome State Fault Refusal := onPort p now (fun a => a.lpiWakeDone p) s

end Sys2Proof.Machine
end

