-- ==== Sys2Proof/Machine/PowerEvents.lean ====
section
/-! DEFINITION. The meanings of the events of power, reset, start-up, dormant and sleep, of the lifecycle and of firmware (Power States and Wake; Start-up and
Bring-into-Service; Integrity, Budgets and Fault Handling). -/

namespace Sys2Proof.Machine

/-- Every response that waits for a requester is sent. -/
def State.deliverAll (s : State) (r : Requester) : State :=
  (s.responses.filter (fun x => x.1 == r)).foldl (fun a _ => match r with
    | .mailbox t => a.mboxComplete t
    | .zwSession c => a.zwResponse c
    | .zwClient c => a.zwResponse c
    | .ibSession c => a.ibResponse c
    | .ibClient c => a.ibResponse c
    | .relay _ => a.sendRelays) s

/-- A response that SLEEP_REQ waits for is sent, and the entry to sleep starts (R572). -/
def State.sleepOwed (s : State) : State :=
  match s.afterResponse.find? (fun x => x.2 == O.SLEEP_REQ) with
  | some x => s.deliverAll x.1
  | none => s

/-- The response to LC_REQUEST is sent, and the change starts (R607). -/
def State.lcStart (s : State) : State :=
  match s.lc with
  | some c => (match c.who with
    | some r => s.deliverAll r
    | none => s).lcChange
  | none => s

/-- RESTORE_DONE; T0 takes up stacking again (R571, R615, R633). -/
def State.restored (s : State) (t : Nat) : State := if t = 0 then (s.restoreDone t).stackForm else s.restoreDone t

/-- FW_SELF_CHECK_DONE: the tile serves again, and what was held is taken (R610, R611). -/
def State.fwResumed (s : State) (t : Nat) (good : Bool) : State :=
  let s1 := s.fwChecked t good
  if (s.tile t).updating && !(s1.tile t).updating then ((s1.mboxTaken t).resume).sendRelays else s1

/-- PKG_PWR_OK_CHANGE (R101, R635). -/
def execPkgPwrOkChange (now : Nat) (level : Bool) (s : State) : Host.Outcome State Fault Refusal :=
  actReset now (fun a => a.resetInputs level a.porstN 0) s

/-- PKG_PORST_N_CHANGE (R101, R634, R636). -/
def execPkgPorstNChange (now : Nat) (level : Bool) (s : State) : Host.Outcome State Fault Refusal :=
  actReset now (fun a => a.resetInputs a.pwrOk level 1) s

/-- TILE_RST_N_PULSE (R101, R635, R645). -/
def execTileRstNPulse (now t width : Nat) (s : State) : Host.Outcome State Fault Refusal :=
  actResetIf (t < s.variant.tiles) now (fun a => a.tilePulse t width) s

/-- TILE_RESET_RELEASE (R634). -/
def execTileResetRelease (now t : Nat) (s : State) : Host.Outcome State Fault Refusal := onTile t now (fun a => a.resetRelease t) s

/-- TILE_VREG_RDY_RISE (R565, R637). -/
def execTileVregRdyRise (now t : Nat) (s : State) : Host.Outcome State Fault Refusal := onTile t now (fun a => a.railUp t) s

/-- TILE_VREG_TIMEOUT (R565, R637). -/
def execTileVregTimeout (now t : Nat) (s : State) : Host.Outcome State Fault Refusal := onTile t now (fun a => a.railLate t) s

/-- TILE_OSC_RDY_RISE (R565, R637). -/
def execTileOscRdyRise (now t : Nat) (s : State) : Host.Outcome State Fault Refusal := onTile t now (fun a => a.oscUp t) s

/-- TILE_OSC_TIMEOUT (R565, R637). -/
def execTileOscTimeout (now t : Nat) (s : State) : Host.Outcome State Fault Refusal := onTile t now (fun a => a.oscLate t) s

/-- RETRY_WAIT_END (R565, R638). -/
def execRetryWaitEnd (now t : Nat) (s : State) : Host.Outcome State Fault Refusal := onTile t now (fun a => a.retryEnd t) s

/-- WAKE_RDY_DROP (R565). -/
def execWakeRdyDrop (now t : Nat) (osc : Bool) (s : State) : Host.Outcome State Fault Refusal := onTile t now (fun a => a.rdyDrop t osc) s

/-- TILE_SUPPLY_FAULT (R104, R635). -/
def execTileSupplyFault (now t : Nat) (_osc : Bool) (s : State) : Host.Outcome State Fault Refusal :=
  actResetIf (t < s.variant.tiles) now (fun a => a.supplyFault t) s

/-- DOMAIN_POWER_ON_DONE (R558). -/
def execDomainPowerOnDone (now t dom : Nat) (s : State) : Host.Outcome State Fault Refusal :=
  actIf (t < s.variant.tiles && dom < 54) now (fun a => a.domainOn t dom) s

/-- POWER_UP_DONE (R565, R637). -/
def execPowerUpDone (now t : Nat) (s : State) : Host.Outcome State Fault Refusal := onTile t now (fun a => a.powerUpDone t) s

/-- FW_LOAD_DONE (R637, R639). -/
def execFwLoadDone (now t : Nat) (runOk stagedOk : Bool) (s : State) : Host.Outcome State Fault Refusal :=
  onTile t now (fun a => a.fwLoaded t runOk stagedOk) s

/-- BIST_DONE (R637, R638). -/
def execBistDone (now t : Nat) (failed : Bool) (block addr : Nat) (s : State) : Host.Outcome State Fault Refusal :=
  onTile t now (fun a => a.bistDone t failed block addr) s

/-- WIPE_DONE (R637). -/
def execWipeDone (now t : Nat) (s : State) : Host.Outcome State Fault Refusal := onTile t now (fun a => a.wipeDone t) s

/-- JOIN_DONE (R549, R637, R641). -/
def execJoinDone (now t : Nat) (s : State) : Host.Outcome State Fault Refusal := onTile t now (fun a => a.joinDone t) s

/-- DORMANT_SAVE (R561, R562). -/
def execDormantSave (now t : Nat) (s : State) : Host.Outcome State Fault Refusal := onTile t now (fun a => a.dormantSave t) s

/-- DORMANT_SIGN (R561, R569). -/
def execDormantSign (now t : Nat) (s : State) : Host.Outcome State Fault Refusal := onTile t now (fun a => a.dormantSign t) s

/-- DORMANT_POWER_DOWN (R561, R563). -/
def execDormantPowerDown (now t : Nat) (s : State) : Host.Outcome State Fault Refusal := onTile t now (fun a => a.dormantDown t) s

/-- RETENTION_CHECK_DONE (R569, R570). -/
def execRetentionCheckDone (now t : Nat) (bad : List Nat) (corrected : Nat) (s : State) : Host.Outcome State Fault Refusal :=
  onTile t now (fun a => a.retentionCheck t bad corrected) s

/-- RESTORE_DONE (R565, R570, R571). -/
def execRestoreDone (now t : Nat) (s : State) : Host.Outcome State Fault Refusal := onTile t now (fun a => a.restored t) s

/-- SLEEP_ENTRY_DONE (R572, R573). -/
def execSleepEntryDone (now : Nat) (s : State) : Host.Outcome State Fault Refusal := actReset now (fun a => a.sleepOwed.sleepDone) s

/-- WAKE_DETECTOR_MATCH (R573, R576). -/
def execWakeDetectorMatch (now : Nat) (runs : List Nat) (s : State) : Host.Outcome State Fault Refusal := actReset now (fun a => a.detectorFrame runs) s

/-- ZW_WAKE_FRAME (R573, R579). -/
def execZwWakeFrame (now ident : Nat) (data : Bytes) (s : State) : Host.Outcome State Fault Refusal := act now (fun a => a.wakeFrame ident data) s

/-- SERVICE_EN_N_HIGH (R101, R605): the lifecycle controller samples the pin. -/
def execServiceEnNHigh (now : Nat) (level : Bool) (s : State) : Host.Outcome State Fault Refusal := act now (fun a => a.serviceSample level) s

/-- LIFECYCLE_CHANGE (R607). -/
def execLifecycleChange (now : Nat) (s : State) : Host.Outcome State Fault Refusal := act now (fun a => a.lcStart) s

/-- LIFECYCLE_WIPE (R607, R608). -/
def execLifecycleWipe (now : Nat) (s : State) : Host.Outcome State Fault Refusal := act now (fun a => a.lcWipe) s

/-- FW_VERIFY_DONE (R609). -/
def execFwVerifyDone (now : Nat) (good : Bool) (version : Nat) (s : State) : Host.Outcome State Fault Refusal := act now (fun a => a.fwVerified good version) s

/-- FW_TILE_UPDATE (R610). -/
def execFwTileUpdate (now t : Nat) (s : State) : Host.Outcome State Fault Refusal := onTile t now (fun a => a.fwTile t) s

/-- FW_SELF_CHECK_DONE (R610, R611). -/
def execFwSelfCheckDone (now t : Nat) (good : Bool) (s : State) : Host.Outcome State Fault Refusal := onTile t now (fun a => a.fwResumed t good) s

/-- TILE_TEMP_UPDATE (R671). -/
def execTileTempUpdate (now t : Nat) (temp : Int) (s : State) : Host.Outcome State Fault Refusal := onTile t now (fun a => a.tileTemp t temp) s

end Sys2Proof.Machine
end

