-- ==== Sys2Proof/Machine/TimeEvents.lean ====
section
/-! DEFINITION. The meanings of the events of time and of the stack (Time Base and Time Domains; Timestamping and Precision Time; Stacking). -/

namespace Sys2Proof.Machine

/-- A pending re-epoch whose instant has come takes place; at a re-epoch of the active domain each pending list's start is computed again (R383, R437). -/
def State.reepochNow (s : State) : State :=
  match s.reepoch with
  | some (d, i, _) => if i ≤ s.L ∧ s.active = d then s.reepochDue.hatchReepoch s else s.reepochDue
  | none => s

/-- What T0 does at a whole microsecond of L (R431, R432). -/
def State.saddleDecision (s : State) : State :=
  if !s.decideDue then s else s.reepochNow.applyAllDue.measureDiff.decide

/-- T0's time unit is on (R415, R553, R556). -/
def State.timeOn (s : State) : Bool := s.pd 0 49

/-- An event of T0's time unit; while the unit is off nothing happens. -/
def onTime (now : Nat) (f : State → State) (s : State) : Host.Outcome State Fault Refusal := act now (fun a => if a.timeOn then f a else a) s

/-- An event of domain A (0) or B (1). -/
def onDomain (d now : Nat) (f : State → State) (s : State) : Host.Outcome State Fault Refusal :=
  actIf (d < 2) now (fun a => if a.timeOn then f a else a) s

/-- The variant has a replica: of a tile, or of a port slot (R426). -/
def hasReplica (v : Variant) (rep : Nat) : Bool := if rep < 8 then rep < v.tiles else rep - 8 < v.ports

/-- A watchdog that has run out (R424). -/
def State.watchdog (s : State) (d : Nat) : State := if s.watchdogDue d then s.declareLost d 2 else s

/-- A PPS that is watched and does not come (R424). -/
def State.ppsLost (s : State) (d : Nat) : State := if s.ppsLossDue d then s.declareLost d 3 else s

/-- PPS_OUT falls at the end of its pulse (R440). -/
def State.ppsEnd (s : State) : State :=
  match s.ppsOut with
  | some i => if i ≤ s.now then { s with ppsOut := none } else s
  | none => s

/-- MASTER_TICK (R419 to R422, R584). -/
def execMasterTick (now d : Nat) (s : State) : Host.Outcome State Fault Refusal := onDomain d now (fun a => a.masterTick d) s

/-- DOM_WATCHDOG_EXPIRY (R424). -/
def execDomWatchdogExpiry (now d : Nat) (s : State) : Host.Outcome State Fault Refusal := onDomain d now (fun a => a.watchdog d) s

/-- PPS_LOSS (R424). -/
def execPpsLoss (now d : Nat) (s : State) : Host.Outcome State Fault Refusal := onDomain d now (fun a => a.ppsLost d) s

/-- DOMAIN_STATE_EFFECT (R425). -/
def execDomainStateEffect (now d : Nat) (s : State) : Host.Outcome State Fault Refusal := onDomain d now (fun a => a.applyDue d) s

/-- SADDLE_DECISION (R431 to R435, R626). -/
def execSaddleDecision (now : Nat) (s : State) : Host.Outcome State Fault Refusal := onTime now (fun a => a.saddleDecision.joinStep) s

/-- TIME_MARKER (R426). -/
def execTimeMarker (now t : Nat) (s : State) : Host.Outcome State Fault Refusal :=
  onTile t now (fun a => if a.pd t 49 then a.timeMarker t else a) s

/-- REPLICA_MARKER (R427 to R429, R584). -/
def execReplicaMarker (now rep d arrival : Nat) (s : State) : Host.Outcome State Fault Refusal :=
  actIf (hasReplica s.variant rep && d < 3) now (fun a => a.replicaMarker rep d arrival) s

/-- REPLICA_TICK (R428, R429). -/
def execReplicaTick (now rep d : Nat) (s : State) : Host.Outcome State Fault Refusal :=
  actIf (hasReplica s.variant rep && d < 3) now (fun a => a.replicaTick rep d) s

/-- PATH_DELAY_MEASURE (R427). -/
def execPathDelayMeasure (now rep delay : Nat) (s : State) : Host.Outcome State Fault Refusal :=
  actIf (hasReplica s.variant rep) now (fun a => a.pathDelay rep delay) s

/-- REEPOCH (R437, R438). -/
def execReepoch (now : Nat) (s : State) : Host.Outcome State Fault Refusal := onTime now (fun a => a.reepochNow) s

/-- PPS_OUT_PULSE (R439, R440). -/
def execPpsOutPulse (now : Nat) (s : State) : Host.Outcome State Fault Refusal := onTime now (fun a => a.ppsPulse) s

/-- PPS_OUT_PULSE_END (R440). -/
def execPpsOutPulseEnd (now : Nat) (s : State) : Host.Outcome State Fault Refusal := act now (fun a => a.ppsEnd) s

/-- PPS_IN_EDGE (R441, R442). -/
def execPpsInEdge (now : Nat) (s : State) : Host.Outcome State Fault Refusal := onTime now (fun a => a.ppsEdgeIn) s

/-- REF10M_WINDOW (R443). -/
def execRef10mWindow (now : Nat) (edges : Bool) (offset : Int) (s : State) : Host.Outcome State Fault Refusal := onTime now (fun a => a.refWindow edges offset) s

/-- PATH_HOLD_END (R473, R474). -/
def execPathHoldEnd (now d : Nat) (s : State) : Host.Outcome State Fault Refusal := onDomain d now (fun a => a.holdVerdict d) s

/-- STACK_TIME_SEND (R445, R448). -/
def execStackTimeSend (now p : Nat) (s : State) : Host.Outcome State Fault Refusal := onPort p now (fun a => a.stackTimeSend p) s

/-- STACK_TIME_MESSAGE (R446, R447, R476). -/
def execStackTimeMessage (now p : Nat) (msg : Bytes) (s : State) : Host.Outcome State Fault Refusal := onPort p now (fun a => a.onRecord p 2 msg (fun b => b.stackTimeMessage p msg)) s

/-- UPSTREAM_TIMEOUT (R447). -/
def execUpstreamTimeout (now : Nat) (s : State) : Host.Outcome State Fault Refusal := act now (fun a => a.upstreamTimeout) s

/-- HELLO_SEND (R620). -/
def execHelloSend (now : Nat) (s : State) : Host.Outcome State Fault Refusal := act now (fun a => a.helloSend) s

/-- HELLO_RECEIVED (R620 to R625). -/
def execHelloReceived (now p : Nat) (msg : Bytes) (s : State) : Host.Outcome State Fault Refusal :=
  onPort p now (fun a => a.onRecord p 3 msg (fun b => (b.helloReceived p msg).settleRelays)) s

/-- MEMBER_TIMEOUT (R621, R622). -/
def execMemberTimeout (now m : Nat) (s : State) : Host.Outcome State Fault Refusal := actIf (m < 4) now (fun a => (a.memberTimeout m).settleRelays) s

/-- FORMING_TIMEOUT (R622). -/
def execFormingTimeout (now : Nat) (s : State) : Host.Outcome State Fault Refusal := act now (fun a => a.formingTimeout) s

/-- STACK_FRAME_RECEIVED (R628, R629). -/
def execStackFrameReceived (now p fid : Nat) (hdr data : Bytes) (s : State) : Host.Outcome State Fault Refusal :=
  onPort p now (fun a => a.onRecord p 1 (hdr ++ data) (fun b => b.stackFrame p fid hdr data)) s

/-- STACK_DICT_RECORD (R631). -/
def execStackDictRecord (now p : Nat) (msg : Bytes) (s : State) : Host.Outcome State Fault Refusal := onPort p now (fun a => a.onRecord p 4 msg (fun b => b.dictRecord p msg)) s

end Sys2Proof.Machine
end

