-- ==== Sys2Proof/Machine/WriteEvents.lean ====
section
/-! DEFINITION. The meanings of the writes that the table lists as commands of their own: each is a write of its object by a requester (R109, R113, R125), with every check
and effect that the object's table and rules give it. -/

namespace Sys2Proof.Machine

/-- The key of an object of a unit; that of a unit that is not fitted names no object, and its access fails as one to an object that does not exist (R2). -/
def unitKey (fitted : Bool) (key : Nat) : Nat := if fitted then key else 0

/-- A write of an object by a requester; a mailbox of a tile that is not fitted asks nothing. -/
def writeCmd (fitted : Bool) (now : Nat) (r : Requester) (key : Nat) (data : Bytes) (s : State) : Host.Outcome State Fault Refusal :=
  actIf (hasRoute s.variant r) now (fun a => a.writeBy r (unitKey fitted key) data) s

/-- KEY_WRAPPED_WRITE (R121, R122). -/
def execKeyWrappedWrite (now : Nat) (r : Requester) (k : Nat) (data : Bytes) (s : State) : Host.Outcome State Fault Refusal :=
  writeCmd (k < 4) now r (O.KEY_WRAPPED k) data s

/-- EVT_ENABLE_WRITE (R96). -/
def execEvtEnableWrite (now : Nat) (r : Requester) (t : Nat) (data : Bytes) (s : State) : Host.Outcome State Fault Refusal :=
  writeCmd (t < s.variant.tiles) now r (O.EVT_ENABLE t) data s

/-- HIST_CLEAR (R170). -/
def execHistClear (now : Nat) (r : Requester) (l : Nat) (data : Bytes) (s : State) : Host.Outcome State Fault Refusal :=
  writeCmd (l < s.variant.ports) now r (O.HIST_CLEAR l) data s

/-- TX_FIR_FIXED_WRITE (R150, R151, R154). -/
def execTxFirFixedWrite (now : Nat) (r : Requester) (l : Nat) (data : Bytes) (s : State) : Host.Outcome State Fault Refusal :=
  writeCmd (l < s.variant.ports) now r (O.TX_FIR_FIXED l) data s

/-- LOOP_WRITE (R173). -/
def execLoopWrite (now : Nat) (r : Requester) (l : Nat) (data : Bytes) (s : State) : Host.Outcome State Fault Refusal :=
  writeCmd (l < s.variant.ports) now r (O.LOOP l) data s

/-- TX_PATTERN_WRITE (R174). -/
def execTxPatternWrite (now : Nat) (r : Requester) (l : Nat) (data : Bytes) (s : State) : Host.Outcome State Fault Refusal :=
  writeCmd (l < s.variant.ports) now r (O.TX_PATTERN l) data s

/-- RX_CHECKER_WRITE (R175). -/
def execRxCheckerWrite (now : Nat) (r : Requester) (l : Nat) (data : Bytes) (s : State) : Host.Outcome State Fault Refusal :=
  writeCmd (l < s.variant.ports) now r (O.RX_CHECKER l) data s

/-- LANE_REST_ENTER (R178, R181). -/
def execLaneRestEnter (now : Nat) (r : Requester) (l : Nat) (s : State) : Host.Outcome State Fault Refusal :=
  writeCmd (l < s.variant.ports) now r (O.LANE_REST l) [1] s

/-- LANE_REST_EXIT (R179, R181). -/
def execLaneRestExit (now : Nat) (r : Requester) (l : Nat) (s : State) : Host.Outcome State Fault Refusal :=
  writeCmd (l < s.variant.ports) now r (O.LANE_REST l) [0] s

/-- MAC_ENABLE_WRITE (R184, R606). -/
def execMacEnableWrite (now : Nat) (r : Requester) (p : Nat) (data : Bytes) (s : State) : Host.Outcome State Fault Refusal :=
  writeCmd (p < s.variant.ports) now r (O.MAC_ENABLE p) data s

/-- SHED_MODE_OFF (R223). -/
def execShedModeOff (now : Nat) (r : Requester) (p : Nat) (data : Bytes) (s : State) : Host.Outcome State Fault Refusal :=
  writeCmd (p < s.variant.ports) now r (O.SHED_MODE p) data s

/-- PORT_MODE_WRITE (R227, R228, R230). -/
def execPortModeWrite (now : Nat) (r : Requester) (p : Nat) (data : Bytes) (s : State) : Host.Outcome State Fault Refusal :=
  writeCmd (p < s.variant.ports) now r (O.PORT_MODE p) data s

/-- WAKE_CLEAR (R255). -/
def execWakeClear (now : Nat) (r : Requester) (p : Nat) (data : Bytes) (s : State) : Host.Outcome State Fault Refusal :=
  writeCmd (p < s.variant.ports) now r (O.WAKE_CLEAR p) data s

/-- EM_OP_WRITE (R283, R300, R303). -/
def execEmOpWrite (now : Nat) (r : Requester) (t : Nat) (data : Bytes) (s : State) : Host.Outcome State Fault Refusal :=
  writeCmd (t < s.variant.tiles) now r (O.EM_OP t) data s

/-- TC_OP_WRITE (R287, R300, R303). -/
def execTcOpWrite (now : Nat) (r : Requester) (t : Nat) (data : Bytes) (s : State) : Host.Outcome State Fault Refusal :=
  writeCmd (t < s.variant.tiles) now r (O.TC_OP t) data s

/-- EM_PROBE_WRITE (R285). -/
def execEmProbeWrite (now : Nat) (r : Requester) (t : Nat) (data : Bytes) (s : State) : Host.Outcome State Fault Refusal :=
  writeCmd (t < s.variant.tiles) now r (O.EM_PROBE t) data s

/-- TC_PROBE_WRITE (R288). -/
def execTcProbeWrite (now : Nat) (r : Requester) (t : Nat) (data : Bytes) (s : State) : Host.Outcome State Fault Refusal :=
  writeCmd (t < s.variant.tiles) now r (O.TC_PROBE t) data s

/-- ETCH_OBJECT_WRITE (R300 to R303). -/
def execEtchObjectWrite (now : Nat) (r : Requester) (idx : Nat) (sub : Nat) (data : Bytes) (s : State) : Host.Outcome State Fault Refusal :=
  writeCmd true now r (256 * (idx % 65536) + sub % 256) data s

/-- ETCH_OPEN (R299). -/
def execEtchOpen (now : Nat) (r : Requester) (s : State) : Host.Outcome State Fault Refusal :=
  writeCmd true now r O.ETCH_CTL [1] s

/-- ETCH_COMMIT (R306, R307). -/
def execEtchCommit (now : Nat) (r : Requester) (s : State) : Host.Outcome State Fault Refusal :=
  writeCmd true now r O.ETCH_CTL [2] s

/-- ETCH_ABORT (R304). -/
def execEtchAbort (now : Nat) (r : Requester) (s : State) : Host.Outcome State Fault Refusal :=
  writeCmd true now r O.ETCH_CTL [3] s

/-- POL_WRITE (R334, R336). -/
def execPolWrite (now : Nat) (r : Requester) (t : Nat) (data : Bytes) (s : State) : Host.Outcome State Fault Refusal :=
  writeCmd (t < s.variant.tiles) now r (O.POL_WRITE t) data s

/-- GROUPS_EN_WRITE (R340, R341). -/
def execGroupsEnWrite (now : Nat) (r : Requester) (t : Nat) (data : Bytes) (s : State) : Host.Outcome State Fault Refusal :=
  writeCmd (t < s.variant.tiles) now r (O.GROUPS_EN t) data s

/-- QSTAT_CLEAR (R354, R355). -/
def execQstatClear (now : Nat) (r : Requester) (t : Nat) (data : Bytes) (s : State) : Host.Outcome State Fault Refusal :=
  writeCmd (t < s.variant.tiles) now r (O.QSTAT_CLEAR t) data s

/-- HATCH_ENABLE_WRITE (R396). -/
def execHatchEnableWrite (now : Nat) (r : Requester) (p : Nat) (data : Bytes) (s : State) : Host.Outcome State Fault Refusal :=
  writeCmd (p < s.variant.ports) now r (O.HATCH_ENABLE p) data s

/-- HATCH_COMMIT (R390 to R395). -/
def execHatchCommit (now : Nat) (r : Requester) (p : Nat) (data : Bytes) (s : State) : Host.Outcome State Fault Refusal :=
  writeCmd (p < s.variant.ports) now r (O.HATCH_COMMIT p) data s

/-- PHASE_ADJ_WRITE (R420, R472, R475). -/
def execPhaseAdjWrite (now : Nat) (r : Requester) (d : Nat) (data : Bytes) (s : State) : Host.Outcome State Fault Refusal :=
  writeCmd (d < 2) now r (O.PHASE_ADJ d) data s

/-- DOM_SRC_OK (R423, R425). -/
def execDomSrcOk (now : Nat) (r : Requester) (d : Nat) (s : State) : Host.Outcome State Fault Refusal :=
  writeCmd (d < 2) now r (O.DOM_SRC d) [1] s

/-- DOM_SRC_FAILED (R424, R425). -/
def execDomSrcFailed (now : Nat) (r : Requester) (d : Nat) (s : State) : Host.Outcome State Fault Refusal :=
  writeCmd (d < 2) now r (O.DOM_SRC d) [2] s

/-- SADDLE_REQ_WRITE (R433). -/
def execSaddleReqWrite (now : Nat) (r : Requester) (data : Bytes) (s : State) : Host.Outcome State Fault Refusal :=
  writeCmd true now r O.SADDLE_REQ data s

/-- DIFF_CLEAR (R431, R450). -/
def execDiffClear (now : Nat) (r : Requester) (data : Bytes) (s : State) : Host.Outcome State Fault Refusal :=
  writeCmd true now r O.DIFF_CLEAR data s

/-- REEPOCH_CMD (R436). -/
def execReepochCmd (now : Nat) (r : Requester) (data : Bytes) (s : State) : Host.Outcome State Fault Refusal :=
  writeCmd true now r O.REEPOCH_CMD data s

/-- REEPOCH_CANCEL (R436). -/
def execReepochCancel (now : Nat) (r : Requester) (s : State) : Host.Outcome State Fault Refusal :=
  writeCmd true now r O.REEPOCH_CMD [0] s

/-- TSQ_FLUSH (R465). -/
def execTsqFlush (now : Nat) (r : Requester) (p : Nat) (data : Bytes) (s : State) : Host.Outcome State Fault Refusal :=
  writeCmd (p < s.variant.ports) now r (O.TSQ_FLUSH p) data s

/-- PATH_SAMPLE (R470, R471). -/
def execPathSample (now : Nat) (r : Requester) (p : Nat) (data : Bytes) (s : State) : Host.Outcome State Fault Refusal :=
  writeCmd (p < s.variant.ports) now r (O.PATH_SAMPLE p) data s

/-- RING_START (R483, R484, R519). -/
def execRingStart (now : Nat) (r : Requester) (t : Nat) (s : State) : Host.Outcome State Fault Refusal :=
  writeCmd (t < s.variant.tiles) now r (O.RING_CTL t) [1] s

/-- RING_ABORT (R508, R519). -/
def execRingAbort (now : Nat) (r : Requester) (t : Nat) (s : State) : Host.Outcome State Fault Refusal :=
  writeCmd (t < s.variant.tiles) now r (O.RING_CTL t) [2] s

/-- RING_RESET (R485, R519). -/
def execRingReset (now : Nat) (r : Requester) (t : Nat) (s : State) : Host.Outcome State Fault Refusal :=
  writeCmd (t < s.variant.tiles) now r (O.RING_CTL t) [3] s

/-- RING_ARM (R509). -/
def execRingArm (now : Nat) (r : Requester) (t : Nat) (data : Bytes) (s : State) : Host.Outcome State Fault Refusal :=
  writeCmd (t < s.variant.tiles) now r (O.RING_ARM t) data s

/-- CQ_ON (R519). -/
def execCqOn (now : Nat) (r : Requester) (t : Nat) (s : State) : Host.Outcome State Fault Refusal :=
  writeCmd (t < s.variant.tiles) now r (O.CQ_CTL t) [1] s

/-- CQ_OFF (R518, R519). -/
def execCqOff (now : Nat) (r : Requester) (t : Nat) (s : State) : Host.Outcome State Fault Refusal :=
  writeCmd (t < s.variant.tiles) now r (O.CQ_CTL t) [2] s

/-- EVC_CFG_WRITE (R530). -/
def execEvcCfgWrite (now : Nat) (r : Requester) (t : Nat) (n : Nat) (data : Bytes) (s : State) : Host.Outcome State Fault Refusal :=
  writeCmd (t < s.variant.tiles && n < 64) now r (O.EVC_CFG t n) data s

/-- CNT_PRESET (R534). -/
def execCntPreset (now : Nat) (r : Requester) (t : Nat) (data : Bytes) (s : State) : Host.Outcome State Fault Refusal :=
  writeCmd (t < s.variant.tiles) now r (O.CNT_PRESET t) data s

/-- WIN_LEN_WRITE (R539). -/
def execWinLenWrite (now : Nat) (r : Requester) (p : Nat) (data : Bytes) (s : State) : Host.Outcome State Fault Refusal :=
  writeCmd (p < s.variant.ports) now r (O.WIN_LEN p) data s

/-- PAGE_GRANT_WRITE (R543). -/
def execPageGrantWrite (now : Nat) (r : Requester) (t : Nat) (k : Nat) (data : Bytes) (s : State) : Host.Outcome State Fault Refusal :=
  writeCmd (t < s.variant.tiles && k < 8) now r (O.PAGE_GRANT t k) data s

/-- PS_CHECKPOINT (R547). -/
def execPsCheckpoint (now : Nat) (r : Requester) (data : Bytes) (s : State) : Host.Outcome State Fault Refusal :=
  writeCmd true now r O.PS_CHECKPOINT data s

/-- PS_SEL_WRITE (R550). -/
def execPsSelWrite (now : Nat) (r : Requester) (data : Bytes) (s : State) : Host.Outcome State Fault Refusal :=
  writeCmd true now r O.PS_SEL data s

/-- CORE_PWR_WRITE (R556 to R558). -/
def execCorePwrWrite (now : Nat) (r : Requester) (t : Nat) (data : Bytes) (s : State) : Host.Outcome State Fault Refusal :=
  writeCmd (t < s.variant.tiles) now r (O.CORE_PWR t) data s

/-- BASIN_PWR_WRITE (R556 to R558). -/
def execBasinPwrWrite (now : Nat) (r : Requester) (t : Nat) (data : Bytes) (s : State) : Host.Outcome State Fault Refusal :=
  writeCmd (t < s.variant.tiles) now r (O.BASIN_PWR t) data s

/-- TILE_POWER_DORMANT (R560, R561). -/
def execTilePowerDormant (now : Nat) (r : Requester) (t : Nat) (s : State) : Host.Outcome State Fault Refusal :=
  writeCmd (t < s.variant.tiles) now r (O.TILE_POWER t) [1] s

/-- TILE_POWER_RUN (R563 to R565). -/
def execTilePowerRun (now : Nat) (r : Requester) (t : Nat) (s : State) : Host.Outcome State Fault Refusal :=
  writeCmd (t < s.variant.tiles) now r (O.TILE_POWER t) [0] s

/-- SLEEP_REQ (R572). -/
def execSleepReq (now : Nat) (r : Requester) (data : Bytes) (s : State) : Host.Outcome State Fault Refusal :=
  writeCmd true now r O.SLEEP_REQ data s

/-- TILE_RECOVER (R591, R646). -/
def execTileRecover (now : Nat) (r : Requester) (t : Nat) (data : Bytes) (s : State) : Host.Outcome State Fault Refusal :=
  writeCmd (t < s.variant.tiles) now r (O.TILE_RECOVER t) data s

/-- LC_REQUEST (R604, R606). -/
def execLcRequest (now : Nat) (r : Requester) (data : Bytes) (s : State) : Host.Outcome State Fault Refusal :=
  writeCmd true now r O.LC_REQUEST data s

/-- FW_DATA_WRITE (R609). -/
def execFwDataWrite (now : Nat) (r : Requester) (data : Bytes) (s : State) : Host.Outcome State Fault Refusal :=
  writeCmd true now r O.FW_DATA data s

/-- FW_OFFSET_WRITE (R609). -/
def execFwOffsetWrite (now : Nat) (r : Requester) (data : Bytes) (s : State) : Host.Outcome State Fault Refusal :=
  writeCmd true now r O.FW_OFFSET data s

/-- FW_VERIFY (R609). -/
def execFwVerify (now : Nat) (r : Requester) (data : Bytes) (s : State) : Host.Outcome State Fault Refusal :=
  writeCmd true now r O.FW_VERIFY data s

/-- FW_ACTIVATE (R610). -/
def execFwActivate (now : Nat) (r : Requester) (data : Bytes) (s : State) : Host.Outcome State Fault Refusal :=
  writeCmd true now r O.FW_ACTIVATE data s

/-- STACK_HANDOVER (R624). -/
def execStackHandover (now : Nat) (r : Requester) (data : Bytes) (s : State) : Host.Outcome State Fault Refusal :=
  writeCmd true now r O.STACK_HANDOVER data s

/-- STACK_JOIN (R625, R626). -/
def execStackJoin (now : Nat) (r : Requester) (data : Bytes) (s : State) : Host.Outcome State Fault Refusal :=
  writeCmd true now r O.STACK_JOIN data s

end Sys2Proof.Machine
end

