-- ==== Sys2Proof/Machine/Dispatch.lean ====
section
/-! DEFINITION. One arm for each command: a direct call of its meaning. -/

namespace Sys2Proof.Machine

/-- The effect of a command on everything but the queue. -/
def exec (i : Instr) (s : State) : Host.Outcome State Fault Refusal :=
  match i with
  | .pkgPwrOkChange now level => Sys2Proof.Machine.execPkgPwrOkChange now level s
  | .pkgPorstNChange now level => Sys2Proof.Machine.execPkgPorstNChange now level s
  | .tileRstNPulse now t width => Sys2Proof.Machine.execTileRstNPulse now t width s
  | .tileResetRelease now t => Sys2Proof.Machine.execTileResetRelease now t s
  | .tileVregRdyRise now t => Sys2Proof.Machine.execTileVregRdyRise now t s
  | .tileVregTimeout now t => Sys2Proof.Machine.execTileVregTimeout now t s
  | .tileOscRdyRise now t => Sys2Proof.Machine.execTileOscRdyRise now t s
  | .tileOscTimeout now t => Sys2Proof.Machine.execTileOscTimeout now t s
  | .retryWaitEnd now t => Sys2Proof.Machine.execRetryWaitEnd now t s
  | .wakeRdyDrop now t osc => Sys2Proof.Machine.execWakeRdyDrop now t osc s
  | .tileSupplyFault now t osc => Sys2Proof.Machine.execTileSupplyFault now t osc s
  | .domainPowerOnDone now t dom => Sys2Proof.Machine.execDomainPowerOnDone now t dom s
  | .powerUpDone now t => Sys2Proof.Machine.execPowerUpDone now t s
  | .fwLoadDone now t runOk stagedOk => Sys2Proof.Machine.execFwLoadDone now t runOk stagedOk s
  | .bistDone now t failed block addr => Sys2Proof.Machine.execBistDone now t failed block addr s
  | .wipeDone now t => Sys2Proof.Machine.execWipeDone now t s
  | .joinDone now t => Sys2Proof.Machine.execJoinDone now t s
  | .afiRdyRise now t ch => Sys2Proof.Machine.execAfiRdyRise now t ch s
  | .afiRdyFall now t ch hd => Sys2Proof.Machine.execAfiRdyFall now t ch hd s
  | .afiCreditReturn now t ch n => Sys2Proof.Machine.execAfiCreditReturn now t ch n s
  | .afiTxFrame now t ch fid metaw flits => Sys2Proof.Machine.execAfiTxFrame now t ch fid metaw flits s
  | .afiStall now t ch => Sys2Proof.Machine.execAfiStall now t ch s
  | .afiRxSend now t ch crcBad => Sys2Proof.Machine.execAfiRxSend now t ch crcBad s
  | .memReadResponse now t tag status data => Sys2Proof.Machine.execMemReadResponse now t tag status data s
  | .dmaTimeout now t tag => Sys2Proof.Machine.execDmaTimeout now t tag s
  | .memWriteError now t rid addr status => Sys2Proof.Machine.execMemWriteError now t rid addr status s
  | .hdMemRdyChange now t level => Sys2Proof.Machine.execHdMemRdyChange now t level s
  | .memRdyLoss now t => Sys2Proof.Machine.execMemRdyLoss now t s
  | .windowWrite now t off size val => Sys2Proof.Machine.execWindowWrite now t off size val s
  | .doorbellPost now t rx ring tail => Sys2Proof.Machine.execDoorbellPost now t rx ring tail s
  | .doorbellRetract now t rx ring tail => Sys2Proof.Machine.execDoorbellRetract now t rx ring tail s
  | .timeSnap now t => Sys2Proof.Machine.execTimeSnap now t s
  | .timeSnapDone now t => Sys2Proof.Machine.execTimeSnapDone now t s
  | .timeSnapDoneClear now t => Sys2Proof.Machine.execTimeSnapDoneClear now t s
  | .cntSnap now t src => Sys2Proof.Machine.execCntSnap now t src s
  | .cntSnapDone now t => Sys2Proof.Machine.execCntSnapDone now t s
  | .cntSnapDoneClear now t => Sys2Proof.Machine.execCntSnapDoneClear now t s
  | .tsqPop now t k size => Sys2Proof.Machine.execTsqPop now t k size s
  | .mboxDoneClear now t => Sys2Proof.Machine.execMboxDoneClear now t s
  | .mboxComplete now t => Sys2Proof.Machine.execMboxComplete now t s
  | .nop now r data => Sys2Proof.Machine.execNop now r data s
  | .read now r idx sub data => Sys2Proof.Machine.execRead now r idx sub data s
  | .write now r idx sub data => Sys2Proof.Machine.execWrite now r idx sub data s
  | .readRange now r idx sub data => Sys2Proof.Machine.execReadRange now r idx sub data s
  | .describe now r idx sub data => Sys2Proof.Machine.execDescribe now r idx sub data s
  | .groupOpen now r data => Sys2Proof.Machine.execGroupOpen now r data s
  | .groupCommit now r data => Sys2Proof.Machine.execGroupCommit now r data s
  | .groupAbort now r data => Sys2Proof.Machine.execGroupAbort now r data s
  | .groupApply now t => Sys2Proof.Machine.execGroupApply now t s
  | .groupIdle now r => Sys2Proof.Machine.execGroupIdle now r s
  | .keyChallenge now t data => Sys2Proof.Machine.execKeyChallenge now t data s
  | .keyUnlock now t data => Sys2Proof.Machine.execKeyUnlock now t data s
  | .keyLock now t data => Sys2Proof.Machine.execKeyLock now t data s
  | .wkIdleExpiry now t => Sys2Proof.Machine.execWkIdleExpiry now t s
  | .keyLockoutEnd now t => Sys2Proof.Machine.execKeyLockoutEnd now t s
  | .keyWrappedWrite now r k data => Sys2Proof.Machine.execKeyWrappedWrite now r k data s
  | .sessionOpen now r data => Sys2Proof.Machine.execSessionOpen now r data s
  | .sessionProve now r auth fresh data => Sys2Proof.Machine.execSessionProve now r auth fresh data s
  | .sessionClose now r data => Sys2Proof.Machine.execSessionClose now r data s
  | .zwSessionIdle now r => Sys2Proof.Machine.execZwSessionIdle now r s
  | .zwFragment now ident msg => Sys2Proof.Machine.execZwFragment now ident msg s
  | .zwFragTimeout now client => Sys2Proof.Machine.execZwFragTimeout now client s
  | .zwResponseSend now client => Sys2Proof.Machine.execZwResponseSend now client s
  | .heartbeat now => Sys2Proof.Machine.execHeartbeat now s
  | .busOffRecovery now => Sys2Proof.Machine.execBusOffRecovery now s
  | .inbandFrame now p data => Sys2Proof.Machine.execInbandFrame now p data s
  | .inbandResponse now client => Sys2Proof.Machine.execInbandResponse now client s
  | .zwWakeFrame now ident data => Sys2Proof.Machine.execZwWakeFrame now ident data s
  | .evtEnableWrite now r t data => Sys2Proof.Machine.execEvtEnableWrite now r t data s
  | .eventReport now t => Sys2Proof.Machine.execEventReport now t s
  | .aggEntryClose now t kind cls src => Sys2Proof.Machine.execAggEntryClose now t kind cls src s
  | .rootDistribute now t src kind cls sid start => Sys2Proof.Machine.execRootDistribute now t src kind cls sid start s
  | .evtRecordWrite now t => Sys2Proof.Machine.execEvtRecordWrite now t s
  | .evtHoldoffEnd now t => Sys2Proof.Machine.execEvtHoldoffEnd now t s
  | .timeBusWord now t => Sys2Proof.Machine.execTimeBusWord now t s
  | .laneLosAssert now l mv ns => Sys2Proof.Machine.execLaneLosAssert now l mv ns s
  | .laneLosDeassert now l mv ns => Sys2Proof.Machine.execLaneLosDeassert now l mv ns s
  | .laneLolAssert now l windows => Sys2Proof.Machine.execLaneLolAssert now l windows s
  | .laneLolDeassert now l windows => Sys2Proof.Machine.execLaneLolDeassert now l windows s
  | .snrWindowEnd now l snr start => Sys2Proof.Machine.execSnrWindowEnd now l snr start s
  | .adaptUpdate now l ctle ffe dfe => Sys2Proof.Machine.execAdaptUpdate now l ctle ffe dfe s
  | .fecCodeword now p corr uncorr => Sys2Proof.Machine.execFecCodeword now p corr uncorr s
  | .histClear now r l data => Sys2Proof.Machine.execHistClear now r l data s
  | .txFirFixedWrite now r l data => Sys2Proof.Machine.execTxFirFixedWrite now r l data s
  | .loopWrite now r l data => Sys2Proof.Machine.execLoopWrite now r l data s
  | .txPatternWrite now r l data => Sys2Proof.Machine.execTxPatternWrite now r l data s
  | .rxCheckerWrite now r l data => Sys2Proof.Machine.execRxCheckerWrite now r l data s
  | .chkLockGain now l levels => Sys2Proof.Machine.execChkLockGain now l levels s
  | .chkLockLoss now l bits errs within => Sys2Proof.Machine.execChkLockLoss now l bits errs within s
  | .laneRestEnter now r l => Sys2Proof.Machine.execLaneRestEnter now r l s
  | .laneRestEntryDone now l => Sys2Proof.Machine.execLaneRestEntryDone now l s
  | .laneRestExit now r l => Sys2Proof.Machine.execLaneRestExit now r l s
  | .lanePllLock now l => Sys2Proof.Machine.execLanePllLock now l s
  | .lanePllTimeout now l => Sys2Proof.Machine.execLanePllTimeout now l s
  | .laneCalDone now l => Sys2Proof.Machine.execLaneCalDone now l s
  | .laneSupplyDip now hv mv ns => Sys2Proof.Machine.execLaneSupplyDip now hv mv ns s
  | .macEnableWrite now r p data => Sys2Proof.Machine.execMacEnableWrite now r p data s
  | .partnerDetected now p partner => Sys2Proof.Machine.execPartnerDetected now p partner s
  | .rxdetTimeout now p => Sys2Proof.Machine.execRxdetTimeout now p s
  | .trainCoeffRequest now l req => Sys2Proof.Machine.execTrainCoeffRequest now l req s
  | .trainingComplete now p status => Sys2Proof.Machine.execTrainingComplete now p status s
  | .trainTimeout now p => Sys2Proof.Machine.execTrainTimeout now p s
  | .bitlockTimeout now p => Sys2Proof.Machine.execBitlockTimeout now p s
  | .symbolLockDone now p deskewPs skewBlocks => Sys2Proof.Machine.execSymbolLockDone now p deskewPs skewBlocks s
  | .symlockTimeout now p => Sys2Proof.Machine.execSymlockTimeout now p s
  | .capExchangeDone now p speed half us linkBit => Sys2Proof.Machine.execCapExchangeDone now p speed half us linkBit s
  | .capxTimeout now p => Sys2Proof.Machine.execCapxTimeout now p s
  | .partnerRestart now p => Sys2Proof.Machine.execPartnerRestart now p s
  | .backoffExpiry now p => Sys2Proof.Machine.execBackoffExpiry now p s
  | .linkStableExpiry now p => Sys2Proof.Machine.execLinkStableExpiry now p s
  | .commaReceived now l block bits => Sys2Proof.Machine.execCommaReceived now l block bits s
  | .capBlock now l cap => Sys2Proof.Machine.execCapBlock now l cap s
  | .unitReceived now p seq data ucrc lanes => Sys2Proof.Machine.execUnitReceived now p seq data ucrc lanes s
  | .unitTransmit now p => Sys2Proof.Machine.execUnitTransmit now p s
  | .ackReceived now p seq => Sys2Proof.Machine.execAckReceived now p seq s
  | .nakReceived now p seq => Sys2Proof.Machine.execNakReceived now p seq s
  | .laneDrop now p lane restripe replay => Sys2Proof.Machine.execLaneDrop now p lane restripe replay s
  | .laneAdd now p lane restripe => Sys2Proof.Machine.execLaneAdd now p lane restripe s
  | .laneAck now p acked lane restripe => Sys2Proof.Machine.execLaneAck now p acked lane restripe s
  | .spanLaneRejoin now l => Sys2Proof.Machine.execSpanLaneRejoin now l s
  | .shedSubwindow now p sent rcvd => Sys2Proof.Machine.execShedSubwindow now p sent rcvd s
  | .shedWindow now p sent rcvd => Sys2Proof.Machine.execShedWindow now p sent rcvd s
  | .shedReq now p widen width token restripe => Sys2Proof.Machine.execShedReq now p widen width token restripe s
  | .shedRsp now p widen width token result restripe => Sys2Proof.Machine.execShedRsp now p widen width token result restripe s
  | .shedSwitch now p => Sys2Proof.Machine.execShedSwitch now p s
  | .shedRelockTimeout now p => Sys2Proof.Machine.execShedRelockTimeout now p s
  | .shedModeOff now r p data => Sys2Proof.Machine.execShedModeOff now r p data s
  | .portModeWrite now r p data => Sys2Proof.Machine.execPortModeWrite now r p data s
  | .rxFrameStart now p fid data overrun lpiUs => Sys2Proof.Machine.execRxFrameStart now p fid data overrun lpiUs s
  | .rxOversizeCut now fid => Sys2Proof.Machine.execRxOversizeCut now fid s
  | .rxJabberCut now fid => Sys2Proof.Machine.execRxJabberCut now fid s
  | .rxFrameEnd now fid fcs codeErr => Sys2Proof.Machine.execRxFrameEnd now fid fcs codeErr s
  | .wakeClear now r p data => Sys2Proof.Machine.execWakeClear now r p data s
  | .pauseReceived now p data fcs => Sys2Proof.Machine.execPauseReceived now p data fcs s
  | .pauseTimerExpiry now p prio => Sys2Proof.Machine.execPauseTimerExpiry now p prio s
  | .ingressOccupancyReport now p prio written => Sys2Proof.Machine.execIngressOccupancyReport now p prio written s
  | .pauseRefresh now p prio => Sys2Proof.Machine.execPauseRefresh now p prio s
  | .pauseFrameSend now p => Sys2Proof.Machine.execPauseFrameSend now p s
  | .lpiEntry now p => Sys2Proof.Machine.execLpiEntry now p s
  | .lpiWakeDone now p => Sys2Proof.Machine.execLpiWakeDone now p s
  | .collision now p bits => Sys2Proof.Machine.execCollision now p bits s
  | .hdBackoffExpiry now p => Sys2Proof.Machine.execHdBackoffExpiry now p s
  | .frameLaneAssign now fid lane middle => Sys2Proof.Machine.execFrameLaneAssign now fid lane middle s
  | .lookupResolve now fid => Sys2Proof.Machine.execLookupResolve now fid s
  | .pipeLastSegment now fid middle => Sys2Proof.Machine.execPipeLastSegment now fid middle s
  | .recircReentry now fid => Sys2Proof.Machine.execRecircReentry now fid s
  | .limiterRefill now t => Sys2Proof.Machine.execLimiterRefill now t s
  | .colLinkFrameIn now t fid h whole crcBad => Sys2Proof.Machine.execColLinkFrameIn now t fid h whole crcBad s
  | .colLinkDown now t k => Sys2Proof.Machine.execColLinkDown now t k s
  | .routeRecompute now t => Sys2Proof.Machine.execRouteRecompute now t s
  | .colLinkUp now t k => Sys2Proof.Machine.execColLinkUp now t k s
  | .colTrainTimeout now t k => Sys2Proof.Machine.execColTrainTimeout now t k s
  | .colRetrain now t k => Sys2Proof.Machine.execColRetrain now t k s
  | .emOpWrite now r t data => Sys2Proof.Machine.execEmOpWrite now r t data s
  | .tcOpWrite now r t data => Sys2Proof.Machine.execTcOpWrite now r t data s
  | .emProbeWrite now r t data => Sys2Proof.Machine.execEmProbeWrite now r t data s
  | .tcProbeWrite now r t data => Sys2Proof.Machine.execTcProbeWrite now r t data s
  | .etchObjectWrite now r idx sub data => Sys2Proof.Machine.execEtchObjectWrite now r idx sub data s
  | .etchOpen now r => Sys2Proof.Machine.execEtchOpen now r s
  | .etchCommit now r => Sys2Proof.Machine.execEtchCommit now r s
  | .etchAbort now r => Sys2Proof.Machine.execEtchAbort now r s
  | .etchIdleExpiry now => Sys2Proof.Machine.execEtchIdleExpiry now s
  | .etchLoadDone now t => Sys2Proof.Machine.execEtchLoadDone now t s
  | .etchSwitch now => Sys2Proof.Machine.execEtchSwitch now s
  | .slotRetire now k => Sys2Proof.Machine.execSlotRetire now k s
  | .etchStuck now k => Sys2Proof.Machine.execEtchStuck now k s
  | .polWrite now r t data => Sys2Proof.Machine.execPolWrite now r t data s
  | .policerRefill now t => Sys2Proof.Machine.execPolicerRefill now t s
  | .basinAdmit now fid h written => Sys2Proof.Machine.execBasinAdmit now fid h written s
  | .basinFrameComplete now fid h => Sys2Proof.Machine.execBasinFrameComplete now fid h s
  | .groupsEnWrite now r t data => Sys2Proof.Machine.execGroupsEnWrite now r t data s
  | .basinGroupEmpty now t g => Sys2Proof.Machine.execBasinGroupEmpty now t g s
  | .queueSample now t written => Sys2Proof.Machine.execQueueSample now t written s
  | .qstatClear now r t data => Sys2Proof.Machine.execQstatClear now r t data s
  | .burinSelect now p => Sys2Proof.Machine.execBurinSelect now p s
  | .txStartCheck now p crcBad remoteFault => Sys2Proof.Machine.execTxStartCheck now p crcBad remoteFault s
  | .txFrameEnd now p => Sys2Proof.Machine.execTxFrameEnd now p s
  | .shaperRefill now p => Sys2Proof.Machine.execShaperRefill now p s
  | .hatchEnableWrite now r p data => Sys2Proof.Machine.execHatchEnableWrite now r p data s
  | .hatchCommit now r p data => Sys2Proof.Machine.execHatchCommit now r p data s
  | .hatchListStart now p => Sys2Proof.Machine.execHatchListStart now p s
  | .gateEntryChange now p => Sys2Proof.Machine.execGateEntryChange now p s
  | .masterTick now d => Sys2Proof.Machine.execMasterTick now d s
  | .phaseAdjWrite now r d data => Sys2Proof.Machine.execPhaseAdjWrite now r d data s
  | .domSrcOk now r d => Sys2Proof.Machine.execDomSrcOk now r d s
  | .domSrcFailed now r d => Sys2Proof.Machine.execDomSrcFailed now r d s
  | .domWatchdogExpiry now d => Sys2Proof.Machine.execDomWatchdogExpiry now d s
  | .ppsLoss now d => Sys2Proof.Machine.execPpsLoss now d s
  | .domainStateEffect now d => Sys2Proof.Machine.execDomainStateEffect now d s
  | .saddleDecision now => Sys2Proof.Machine.execSaddleDecision now s
  | .saddleReqWrite now r data => Sys2Proof.Machine.execSaddleReqWrite now r data s
  | .diffClear now r data => Sys2Proof.Machine.execDiffClear now r data s
  | .timeMarker now t => Sys2Proof.Machine.execTimeMarker now t s
  | .replicaMarker now rep d arrival => Sys2Proof.Machine.execReplicaMarker now rep d arrival s
  | .pathDelayMeasure now rep delay => Sys2Proof.Machine.execPathDelayMeasure now rep delay s
  | .reepochCmd now r data => Sys2Proof.Machine.execReepochCmd now r data s
  | .reepochCancel now r => Sys2Proof.Machine.execReepochCancel now r s
  | .reepoch now => Sys2Proof.Machine.execReepoch now s
  | .ppsOutPulse now => Sys2Proof.Machine.execPpsOutPulse now s
  | .ppsOutPulseEnd now => Sys2Proof.Machine.execPpsOutPulseEnd now s
  | .ppsInEdge now => Sys2Proof.Machine.execPpsInEdge now s
  | .ref10mWindow now edges offset => Sys2Proof.Machine.execRef10mWindow now edges offset s
  | .stackTimeSend now p => Sys2Proof.Machine.execStackTimeSend now p s
  | .stackTimeMessage now p msg => Sys2Proof.Machine.execStackTimeMessage now p msg s
  | .upstreamTimeout now => Sys2Proof.Machine.execUpstreamTimeout now s
  | .tsqFlush now r p data => Sys2Proof.Machine.execTsqFlush now r p data s
  | .pathSample now r p data => Sys2Proof.Machine.execPathSample now r p data s
  | .pathHoldEnd now d => Sys2Proof.Machine.execPathHoldEnd now d s
  | .ringStart now r t => Sys2Proof.Machine.execRingStart now r t s
  | .ringAbort now r t => Sys2Proof.Machine.execRingAbort now r t s
  | .ringReset now r t => Sys2Proof.Machine.execRingReset now r t s
  | .ringAbortDone now t rx ring => Sys2Proof.Machine.execRingAbortDone now t rx ring s
  | .descFetch now t rx ring tag => Sys2Proof.Machine.execDescFetch now t rx ring tag s
  | .engineSchedule now t e tag => Sys2Proof.Machine.execEngineSchedule now t e tag s
  | .burstEnd now t rx ring tag crcBad => Sys2Proof.Machine.execBurstEnd now t rx ring tag crcBad s
  | .readbackDone now t rx ring status => Sys2Proof.Machine.execReadbackDone now t rx ring status s
  | .engineFrameOffer now t ring fid => Sys2Proof.Machine.execEngineFrameOffer now t ring fid s
  | .rxDeliveryStart now t ring => Sys2Proof.Machine.execRxDeliveryStart now t ring s
  | .cqHoldoffEnd now t q => Sys2Proof.Machine.execCqHoldoffEnd now t q s
  | .ringArm now r t data => Sys2Proof.Machine.execRingArm now r t data s
  | .cqOn now r t => Sys2Proof.Machine.execCqOn now r t s
  | .cqOff now r t => Sys2Proof.Machine.execCqOff now r t s
  | .evcCfgWrite now r t n data => Sys2Proof.Machine.execEvcCfgWrite now r t n data s
  | .evcSample now t => Sys2Proof.Machine.execEvcSample now t s
  | .cntPreset now r t data => Sys2Proof.Machine.execCntPreset now r t data s
  | .windowPublish now p => Sys2Proof.Machine.execWindowPublish now p s
  | .winLenWrite now r p data => Sys2Proof.Machine.execWinLenWrite now r p data s
  | .pageGrantWrite now r t k data => Sys2Proof.Machine.execPageGrantWrite now r t k data s
  | .pageWrite now t off size => Sys2Proof.Machine.execPageWrite now t off size s
  | .psSecondSample now => Sys2Proof.Machine.execPsSecondSample now s
  | .psPeriodic now => Sys2Proof.Machine.execPsPeriodic now s
  | .psCheckpoint now r data => Sys2Proof.Machine.execPsCheckpoint now r data s
  | .psHoldExpiry now => Sys2Proof.Machine.execPsHoldExpiry now s
  | .psCheckpointDone now bad => Sys2Proof.Machine.execPsCheckpointDone now bad s
  | .psSelWrite now r data => Sys2Proof.Machine.execPsSelWrite now r data s
  | .corePwrWrite now r t data => Sys2Proof.Machine.execCorePwrWrite now r t data s
  | .basinPwrWrite now r t data => Sys2Proof.Machine.execBasinPwrWrite now r t data s
  | .tilePowerDormant now r t => Sys2Proof.Machine.execTilePowerDormant now r t s
  | .dormantSave now t => Sys2Proof.Machine.execDormantSave now t s
  | .dormantSign now t => Sys2Proof.Machine.execDormantSign now t s
  | .dormantPowerDown now t => Sys2Proof.Machine.execDormantPowerDown now t s
  | .tilePowerRun now r t => Sys2Proof.Machine.execTilePowerRun now r t s
  | .retentionCheckDone now t bad corrected => Sys2Proof.Machine.execRetentionCheckDone now t bad corrected s
  | .restoreDone now t => Sys2Proof.Machine.execRestoreDone now t s
  | .sleepReq now r data => Sys2Proof.Machine.execSleepReq now r data s
  | .sleepEntryDone now => Sys2Proof.Machine.execSleepEntryDone now s
  | .wakeDetectorMatch now runs => Sys2Proof.Machine.execWakeDetectorMatch now runs s
  | .budgetPeriod now t => Sys2Proof.Machine.execBudgetPeriod now t s
  | .scrubRead now t mem loc outcome => Sys2Proof.Machine.execScrubRead now t mem loc outcome s
  | .tileRecover now r t data => Sys2Proof.Machine.execTileRecover now r t data s
  | .lcRequest now r data => Sys2Proof.Machine.execLcRequest now r data s
  | .serviceEnNHigh now level => Sys2Proof.Machine.execServiceEnNHigh now level s
  | .lifecycleChange now => Sys2Proof.Machine.execLifecycleChange now s
  | .lifecycleWipe now => Sys2Proof.Machine.execLifecycleWipe now s
  | .fwDataWrite now r data => Sys2Proof.Machine.execFwDataWrite now r data s
  | .fwOffsetWrite now r data => Sys2Proof.Machine.execFwOffsetWrite now r data s
  | .fwVerify now r data => Sys2Proof.Machine.execFwVerify now r data s
  | .fwVerifyDone now good version => Sys2Proof.Machine.execFwVerifyDone now good version s
  | .fwActivate now r data => Sys2Proof.Machine.execFwActivate now r data s
  | .fwTileUpdate now t => Sys2Proof.Machine.execFwTileUpdate now t s
  | .fwSelfCheckDone now t good => Sys2Proof.Machine.execFwSelfCheckDone now t good s
  | .helloSend now => Sys2Proof.Machine.execHelloSend now s
  | .helloReceived now p msg => Sys2Proof.Machine.execHelloReceived now p msg s
  | .memberTimeout now m => Sys2Proof.Machine.execMemberTimeout now m s
  | .formingTimeout now => Sys2Proof.Machine.execFormingTimeout now s
  | .stackHandover now r data => Sys2Proof.Machine.execStackHandover now r data s
  | .stackJoin now r data => Sys2Proof.Machine.execStackJoin now r data s
  | .stackFrameReceived now p fid hdr data => Sys2Proof.Machine.execStackFrameReceived now p fid hdr data s
  | .stackDictRecord now p msg => Sys2Proof.Machine.execStackDictRecord now p msg s
  | .tileTempUpdate now t temp => Sys2Proof.Machine.execTileTempUpdate now t temp s
  | .pcsLockLoss now p lane => Sys2Proof.Machine.execPcsLockLoss now p lane s
  | .replicaTick now rep d => Sys2Proof.Machine.execReplicaTick now rep d s
  | .idleHandOverPoint now t rx ring => Sys2Proof.Machine.execIdleHandOverPoint now t rx ring s
  | .windowReadViolation now t off size => Sys2Proof.Machine.execWindowReadViolation now t off size s

end Sys2Proof.Machine
end

