-- ==== Sys2Proof/WellFormed.lean ====
section
/-! DEFINITION. Which commands are well formed for a variant: the units they name are fitted (R1, R2), and every operand lies in the field the spec gives it. A
command runs whether it is well formed or not: one that names a unit the variant does not have changes nothing but the instant, or is answered as an access to an object
that does not exist. -/

namespace Sys2Proof

/-- A fitted tile (R1). -/
def tileOk (v : Machine.Variant) (t : Nat) : Bool := Nat.blt t v.tiles

/-- A port slot, or the lane beside it, of the variant (R1, R52). -/
def portOk (v : Machine.Variant) (p : Nat) : Bool := Nat.blt p v.ports

/-- A col link that each tile of the variant uses (R1). -/
def linkOk (v : Machine.Variant) (k : Nat) : Bool := Nat.blt k v.colLinks

/-- A requester whose route the variant has (R117). -/
def routeOk (v : Machine.Variant) : Requester → Bool
  | .mailbox t => tileOk v t
  | _ => true

/-- A replica of a tile or of a port slot (R426). -/
def replicaOk (v : Machine.Variant) (rep : Nat) : Bool := if rep < 8 then Nat.blt rep v.tiles else Nat.blt (rep - 8) v.ports

/-- An AFI channel of a tile (R53). -/
def channelOk (ch : Nat) : Bool := Nat.blt ch 2

/-- A transmit or a receive ring of a tile (R482). -/
def ringOk (r : Nat) : Bool := Nat.blt r 2048

/-- A completion queue of a tile (R482). -/
def queueOk (q : Nat) : Bool := Nat.blt q 1024

/-- A DMA engine of a tile (R482). -/
def engineOk (e : Nat) : Bool := Nat.blt e 16

/-- A tag of a memory read (R67). -/
def tagOk (t : Nat) : Bool := Nat.blt t 512

/-- A priority of pause (R244). -/
def prioOk (p : Nat) : Bool := Nat.blt p 8

/-- Cells written so far of a frame that arrives, in the Basin of a tile: a frame takes 64 at most (R338). -/
def cellsOk (v : Machine.Variant) (e : Nat × Nat × Nat) : Bool := tileOk v e.2.1 && Nat.ble e.2.2 64

/-- A port slot of a tile (R85). -/
def portSlotOk (k : Nat) : Bool := Nat.blt k 18

/-- A power domain of a tile (R553). -/
def powerDomainOk (d : Nat) : Bool := Nat.blt d 54

/-- A key slot (R121) or a version slot (R311). -/
def slotOk (k : Nat) : Bool := Nat.blt k 4

/-- A page of the counter page aperture (R540, R541). -/
def pageOk (k : Nat) : Bool := Nat.blt k 8

/-- An event counter of a tile (R528). -/
def eventCounterOk (n : Nat) : Bool := Nat.blt n 64

/-- A bank group of a Basin (R339). -/
def groupOk (g : Nat) : Bool := Nat.blt g 8

/-- A member of a stack (R615). -/
def memberOk (m : Nat) : Bool := Nat.blt m 4

/-- Domain A or B (R417). -/
def domainOk (d : Nat) : Bool := Nat.blt d 2

/-- A domain that replicas follow: A, B or L (R426). -/
def replicaDomainOk (d : Nat) : Bool := Nat.blt d 3

/-- A source of CNT_SNAP: a port slot's counters or the tile's event counters (R83). -/
def snapSourceOk (n : Nat) : Bool := Nat.ble n 18

/-- A value of 8 bits. -/
def octetOk (n : Nat) : Bool := Nat.blt n (2 ^ 8)

/-- A value of 16 bits. -/
def halfOk (n : Nat) : Bool := Nat.blt n (2 ^ 16)

/-- A value of 32 bits. -/
def wordOk (n : Nat) : Bool := Nat.blt n (2 ^ 32)

/-- An identifier of the field bus (R132). -/
def identOk (n : Nat) : Bool := Nat.blt n (2 ^ 11)

/-- The SEQ of a retry unit (R206). -/
def seqOk (n : Nat) : Bool := Nat.blt n 4096

/-- An offset in a tile's control window (R73). -/
def windowOk (off : Nat) : Bool := Nat.blt off (2 ^ 16)

/-- A flit's valid bytes and receive context (R55, R56). -/
def flitOk (f : Flit) : Bool := Nat.blt f.bytes 64 && Nat.blt f.ctx 4 && Nat.ble f.data.length 64

/-- A lane of a port, and no more corrected symbols than a codeword has (R168). -/
def symOk (x : LaneSym) : Bool := Nat.blt x.lane 8 && Nat.blt x.corr 544

/-- A request for one of the three taps, or a preset (R153, R190). -/
def coeffOk : CoeffReq → Bool
  | .preset k => Nat.blt k 16
  | .inc tap => Nat.blt tap 3
  | .dec tap => Nat.blt tap 3

/-- A partner shows a port mode (R188). -/
def partnerOk (x : Partner) : Bool := octetOk x.hcd

/-- The fields of a CAP block (R204, R616). -/
def capOk (c : Cap) : Bool := octetOk c.mode && octetOk c.width && octetOk c.minWidth && octetOk c.member && octetOk c.priority && wordOk c.stackId

/-- A memory of R585, as `Machine.memBlock` numbers them. -/
def memoryOk (m : Nat) : Bool := Nat.blt m 10

/-- The outcome of a read: good, corrected or uncorrectable (R585). -/
def outcomeOk (o : Nat) : Bool := Nat.blt o 3

/-- Whether a command is well formed for a variant. -/
def Instr.wellFormed (v : Machine.Variant) : Instr → Bool
  | .pkgPwrOkChange _ _ => true
  | .pkgPorstNChange _ _ => true
  | .tileRstNPulse _ t _ => tileOk v t
  | .tileResetRelease _ t => tileOk v t
  | .tileVregRdyRise _ t => tileOk v t
  | .tileVregTimeout _ t => tileOk v t
  | .tileOscRdyRise _ t => tileOk v t
  | .tileOscTimeout _ t => tileOk v t
  | .retryWaitEnd _ t => tileOk v t
  | .wakeRdyDrop _ t _ => tileOk v t
  | .tileSupplyFault _ t _ => tileOk v t
  | .domainPowerOnDone _ t dom => tileOk v t && powerDomainOk dom
  | .powerUpDone _ t => tileOk v t
  | .fwLoadDone _ t _ _ => tileOk v t
  | .bistDone _ t _ _ _ => tileOk v t
  | .wipeDone _ t => tileOk v t
  | .joinDone _ t => tileOk v t
  | .afiRdyRise _ t ch => tileOk v t && channelOk ch
  | .afiRdyFall _ t ch _ => tileOk v t && channelOk ch
  | .afiCreditReturn _ t ch _ => tileOk v t && channelOk ch
  | .afiTxFrame _ t ch _ _ flits => tileOk v t && channelOk ch && flits.all flitOk
  | .afiStall _ t ch => tileOk v t && channelOk ch
  | .afiRxSend _ t ch bad => tileOk v t && channelOk ch && Nat.blt bad 16
  | .memReadResponse _ t tag status _ => tileOk v t && tagOk tag && octetOk status
  | .dmaTimeout _ t tag => tileOk v t && tagOk tag
  | .memWriteError _ t rid _ status => tileOk v t && halfOk rid && octetOk status
  | .hdMemRdyChange _ t _ => tileOk v t
  | .memRdyLoss _ t => tileOk v t
  | .windowWrite _ t off _ _ => tileOk v t && windowOk off
  | .doorbellPost _ t _ ring tail => tileOk v t && ringOk ring && halfOk tail
  | .doorbellRetract _ t _ ring tail => tileOk v t && ringOk ring && halfOk tail
  | .timeSnap _ t => tileOk v t
  | .timeSnapDone _ t => tileOk v t
  | .timeSnapDoneClear _ t => tileOk v t
  | .cntSnap _ t src => tileOk v t && snapSourceOk src
  | .cntSnapDone _ t => tileOk v t
  | .cntSnapDoneClear _ t => tileOk v t
  | .tsqPop _ t k _ => tileOk v t && portSlotOk k
  | .mboxDoneClear _ t => tileOk v t
  | .mboxComplete _ t => tileOk v t
  | .nop _ r _ => routeOk v r
  | .read _ r idx sub _ => routeOk v r && halfOk idx && octetOk sub
  | .write _ r idx sub _ => routeOk v r && halfOk idx && octetOk sub
  | .readRange _ r idx sub _ => routeOk v r && halfOk idx && octetOk sub
  | .describe _ r idx sub _ => routeOk v r && halfOk idx && octetOk sub
  | .groupOpen _ r _ => routeOk v r
  | .groupCommit _ r _ => routeOk v r
  | .groupAbort _ r _ => routeOk v r
  | .groupApply _ t => tileOk v t
  | .groupIdle _ r => routeOk v r
  | .keyChallenge _ t _ => tileOk v t
  | .keyUnlock _ t _ => tileOk v t
  | .keyLock _ t _ => tileOk v t
  | .wkIdleExpiry _ t => tileOk v t
  | .keyLockoutEnd _ t => tileOk v t
  | .keyWrappedWrite _ r k _ => routeOk v r && slotOk k
  | .sessionOpen _ r _ => routeOk v r
  | .sessionProve _ r _ _ _ => routeOk v r
  | .sessionClose _ r _ => routeOk v r
  | .zwSessionIdle _ r => routeOk v r
  | .zwFragment _ ident _ => identOk ident
  | .zwFragTimeout _ _ => true
  | .zwResponseSend _ _ => true
  | .heartbeat _ => true
  | .busOffRecovery _ => true
  | .inbandFrame _ p _ => portOk v p
  | .inbandResponse _ _ => true
  | .zwWakeFrame _ ident _ => identOk ident
  | .evtEnableWrite _ r t _ => routeOk v r && tileOk v t
  | .eventReport _ t => tileOk v t
  | .aggEntryClose _ t kind cls src => tileOk v t && octetOk kind && octetOk cls && halfOk src
  | .rootDistribute _ t src kind cls sid _ => tileOk v t && tileOk v src && octetOk kind && octetOk cls && halfOk sid
  | .evtRecordWrite _ t => tileOk v t
  | .evtHoldoffEnd _ t => tileOk v t
  | .timeBusWord _ t => tileOk v t
  | .laneLosAssert _ l _ _ => portOk v l
  | .laneLosDeassert _ l _ _ => portOk v l
  | .laneLolAssert _ l _ => portOk v l
  | .laneLolDeassert _ l _ => portOk v l
  | .snrWindowEnd _ l _ _ => portOk v l
  | .adaptUpdate _ l _ _ _ => portOk v l
  | .fecCodeword _ p corr _ => portOk v p && corr.all symOk
  | .histClear _ r l _ => routeOk v r && portOk v l
  | .txFirFixedWrite _ r l _ => routeOk v r && portOk v l
  | .loopWrite _ r l _ => routeOk v r && portOk v l
  | .txPatternWrite _ r l _ => routeOk v r && portOk v l
  | .rxCheckerWrite _ r l _ => routeOk v r && portOk v l
  | .chkLockGain _ l _ => portOk v l
  | .chkLockLoss _ l _ _ _ => portOk v l
  | .laneRestEnter _ r l => routeOk v r && portOk v l
  | .laneRestEntryDone _ l => portOk v l
  | .laneRestExit _ r l => routeOk v r && portOk v l
  | .lanePllLock _ l => portOk v l
  | .lanePllTimeout _ l => portOk v l
  | .laneCalDone _ l => portOk v l
  | .laneSupplyDip _ _ _ _ => true
  | .macEnableWrite _ r p _ => routeOk v r && portOk v p
  | .partnerDetected _ p partner => portOk v p && partnerOk partner
  | .rxdetTimeout _ p => portOk v p
  | .trainCoeffRequest _ l req => portOk v l && coeffOk req
  | .trainingComplete _ p _ => portOk v p
  | .trainTimeout _ p => portOk v p
  | .bitlockTimeout _ p => portOk v p
  | .symbolLockDone _ p _ _ => portOk v p
  | .symlockTimeout _ p => portOk v p
  | .capExchangeDone _ p _ _ _ _ => portOk v p
  | .capxTimeout _ p => portOk v p
  | .partnerRestart _ p => portOk v p
  | .backoffExpiry _ p => portOk v p
  | .linkStableExpiry _ p => portOk v p
  | .commaReceived _ l _ _ => portOk v l
  | .capBlock _ l cap => portOk v l && capOk cap
  | .unitReceived _ p seq _ ucrc lanes => portOk v p && seqOk seq && wordOk ucrc && octetOk lanes
  | .unitTransmit _ p => portOk v p
  | .ackReceived _ p seq => portOk v p && seqOk seq
  | .nakReceived _ p seq => portOk v p && seqOk seq
  | .laneDrop _ p lane _ _ => portOk v p && octetOk lane
  | .laneAdd _ p lane _ => portOk v p && octetOk lane
  | .laneAck _ p acked lane _ => portOk v p && octetOk acked && octetOk lane
  | .spanLaneRejoin _ l => portOk v l
  | .shedSubwindow _ p _ _ => portOk v p
  | .shedWindow _ p _ _ => portOk v p
  | .shedReq _ p _ _ _ _ => portOk v p
  | .shedRsp _ p _ _ _ _ _ => portOk v p
  | .shedSwitch _ p => portOk v p
  | .shedRelockTimeout _ p => portOk v p
  | .shedModeOff _ r p _ => routeOk v r && portOk v p
  | .portModeWrite _ r p _ => routeOk v r && portOk v p
  | .rxFrameStart _ p _ _ _ _ => portOk v p
  | .rxOversizeCut _ _ => true
  | .rxJabberCut _ _ => true
  | .rxFrameEnd _ _ fcs _ => wordOk fcs
  | .wakeClear _ r p _ => routeOk v r && portOk v p
  | .pauseReceived _ p _ fcs => portOk v p && wordOk fcs
  | .pauseTimerExpiry _ p prio => portOk v p && prioOk prio
  | .ingressOccupancyReport _ p prio written => portOk v p && prioOk prio && written.all (cellsOk v)
  | .pauseRefresh _ p prio => portOk v p && prioOk prio
  | .pauseFrameSend _ p => portOk v p
  | .lpiEntry _ p => portOk v p
  | .lpiWakeDone _ p => portOk v p
  | .collision _ p _ => portOk v p
  | .hdBackoffExpiry _ p => portOk v p
  | .frameLaneAssign _ _ lane middle => slotOk lane && Nat.ble middle 4
  | .lookupResolve _ _ => true
  | .pipeLastSegment _ _ middle => Nat.ble middle 4
  | .recircReentry _ _ => true
  | .limiterRefill _ t => tileOk v t
  | .colLinkFrameIn _ t _ _ _ _ => tileOk v t
  | .colLinkDown _ t k => tileOk v t && linkOk v k
  | .routeRecompute _ t => tileOk v t
  | .colLinkUp _ t k => tileOk v t && linkOk v k
  | .colTrainTimeout _ t k => tileOk v t && linkOk v k
  | .colRetrain _ t k => tileOk v t && linkOk v k
  | .emOpWrite _ r t _ => routeOk v r && tileOk v t
  | .tcOpWrite _ r t _ => routeOk v r && tileOk v t
  | .emProbeWrite _ r t _ => routeOk v r && tileOk v t
  | .tcProbeWrite _ r t _ => routeOk v r && tileOk v t
  | .etchObjectWrite _ r idx sub _ => routeOk v r && halfOk idx && octetOk sub
  | .etchOpen _ r => routeOk v r
  | .etchCommit _ r => routeOk v r
  | .etchAbort _ r => routeOk v r
  | .etchIdleExpiry _ => true
  | .etchLoadDone _ t => tileOk v t
  | .etchSwitch _ => true
  | .slotRetire _ k => slotOk k
  | .etchStuck _ k => slotOk k
  | .polWrite _ r t _ => routeOk v r && tileOk v t
  | .policerRefill _ t => tileOk v t
  | .basinAdmit _ _ _ written => written.all (cellsOk v)
  | .basinFrameComplete _ _ _ => true
  | .groupsEnWrite _ r t _ => routeOk v r && tileOk v t
  | .basinGroupEmpty _ t g => tileOk v t && groupOk g
  | .queueSample _ t written => tileOk v t && written.all (cellsOk v)
  | .qstatClear _ r t _ => routeOk v r && tileOk v t
  | .burinSelect _ p => portOk v p
  | .txStartCheck _ p _ _ => portOk v p
  | .txFrameEnd _ p => portOk v p
  | .shaperRefill _ p => portOk v p
  | .hatchEnableWrite _ r p _ => routeOk v r && portOk v p
  | .hatchCommit _ r p _ => routeOk v r && portOk v p
  | .hatchListStart _ p => portOk v p
  | .gateEntryChange _ p => portOk v p
  | .masterTick _ d => domainOk d
  | .phaseAdjWrite _ r d _ => routeOk v r && domainOk d
  | .domSrcOk _ r d => routeOk v r && domainOk d
  | .domSrcFailed _ r d => routeOk v r && domainOk d
  | .domWatchdogExpiry _ d => domainOk d
  | .ppsLoss _ d => domainOk d
  | .domainStateEffect _ d => domainOk d
  | .saddleDecision _ => true
  | .saddleReqWrite _ r _ => routeOk v r
  | .diffClear _ r _ => routeOk v r
  | .timeMarker _ t => tileOk v t
  | .replicaMarker _ rep d _ => replicaOk v rep && replicaDomainOk d
  | .pathDelayMeasure _ rep _ => replicaOk v rep
  | .reepochCmd _ r _ => routeOk v r
  | .reepochCancel _ r => routeOk v r
  | .reepoch _ => true
  | .ppsOutPulse _ => true
  | .ppsOutPulseEnd _ => true
  | .ppsInEdge _ => true
  | .ref10mWindow _ _ _ => true
  | .stackTimeSend _ p => portOk v p
  | .stackTimeMessage _ p _ => portOk v p
  | .upstreamTimeout _ => true
  | .tsqFlush _ r p _ => routeOk v r && portOk v p
  | .pathSample _ r p _ => routeOk v r && portOk v p
  | .pathHoldEnd _ d => domainOk d
  | .ringStart _ r t => routeOk v r && tileOk v t
  | .ringAbort _ r t => routeOk v r && tileOk v t
  | .ringReset _ r t => routeOk v r && tileOk v t
  | .ringAbortDone _ t _ ring => tileOk v t && ringOk ring
  | .descFetch _ t _ ring tag => tileOk v t && ringOk ring && tagOk tag
  | .engineSchedule _ t e tag => tileOk v t && engineOk e && tagOk tag
  | .burstEnd _ t _ ring tag _ => tileOk v t && ringOk ring && tagOk tag
  | .readbackDone _ t _ ring status => tileOk v t && ringOk ring && octetOk status
  | .engineFrameOffer _ t ring _ => tileOk v t && ringOk ring
  | .rxDeliveryStart _ t ring => tileOk v t && ringOk ring
  | .cqHoldoffEnd _ t q => tileOk v t && queueOk q
  | .ringArm _ r t _ => routeOk v r && tileOk v t
  | .cqOn _ r t => routeOk v r && tileOk v t
  | .cqOff _ r t => routeOk v r && tileOk v t
  | .evcCfgWrite _ r t n _ => routeOk v r && tileOk v t && eventCounterOk n
  | .evcSample _ t => tileOk v t
  | .cntPreset _ r t _ => routeOk v r && tileOk v t
  | .windowPublish _ p => portOk v p
  | .winLenWrite _ r p _ => routeOk v r && portOk v p
  | .pageGrantWrite _ r t k _ => routeOk v r && tileOk v t && pageOk k
  | .pageWrite _ t off _ => tileOk v t && windowOk off
  | .psSecondSample _ => true
  | .psPeriodic _ => true
  | .psCheckpoint _ r _ => routeOk v r
  | .psHoldExpiry _ => true
  | .psCheckpointDone _ _ => true
  | .psSelWrite _ r _ => routeOk v r
  | .corePwrWrite _ r t _ => routeOk v r && tileOk v t
  | .basinPwrWrite _ r t _ => routeOk v r && tileOk v t
  | .tilePowerDormant _ r t => routeOk v r && tileOk v t
  | .dormantSave _ t => tileOk v t
  | .dormantSign _ t => tileOk v t
  | .dormantPowerDown _ t => tileOk v t
  | .tilePowerRun _ r t => routeOk v r && tileOk v t
  | .retentionCheckDone _ t _ _ => tileOk v t
  | .restoreDone _ t => tileOk v t
  | .sleepReq _ r _ => routeOk v r
  | .sleepEntryDone _ => true
  | .wakeDetectorMatch _ _ => true
  | .budgetPeriod _ t => tileOk v t
  | .scrubRead _ t mem _ outcome => tileOk v t && memoryOk mem && outcomeOk outcome
  | .tileRecover _ r t _ => routeOk v r && tileOk v t
  | .lcRequest _ r _ => routeOk v r
  | .serviceEnNHigh _ _ => true
  | .lifecycleChange _ => true
  | .lifecycleWipe _ => true
  | .fwDataWrite _ r _ => routeOk v r
  | .fwOffsetWrite _ r _ => routeOk v r
  | .fwVerify _ r _ => routeOk v r
  | .fwVerifyDone _ _ _ => true
  | .fwActivate _ r _ => routeOk v r
  | .fwTileUpdate _ t => tileOk v t
  | .fwSelfCheckDone _ t _ => tileOk v t
  | .helloSend _ => true
  | .helloReceived _ p _ => portOk v p
  | .memberTimeout _ m => memberOk m
  | .formingTimeout _ => true
  | .stackHandover _ r _ => routeOk v r
  | .stackJoin _ r _ => routeOk v r
  | .stackFrameReceived _ p _ _ _ => portOk v p
  | .stackDictRecord _ p _ => portOk v p
  | .tileTempUpdate _ t _ => tileOk v t
  | .pcsLockLoss _ p _ => portOk v p
  | .replicaTick _ rep d => replicaOk v rep && replicaDomainOk d
  | .idleHandOverPoint _ t _ ring => tileOk v t && ringOk ring
  | .windowReadViolation _ t off _ => tileOk v t && windowOk off

end Sys2Proof
end

