-- ==== Sys2Proof/Safety.lean ====
section
/-! DEFINITION. The terms that claims about runs of Clemal use: what a state keeps between commands, what it means that a command completes, and what lies
outside a chapter's reach. -/

namespace Sys2Proof.Machine

/-- Nothing is left over between two commands: no tile is marked for isolation, and no fate of a ring's frame waits for its record (R501, R590). -/
def State.quiet (s : State) : Prop := s.unmarked = true ∧ s.fates = []

/-- What every command keeps: nothing is left over, and domain L did not begin after the present instant (R416). -/
def State.sound (s : State) : Prop := s.quiet ∧ s.lStart ≤ s.now

/-- Every command that waits is well formed. -/
def State.safe (s : State) : Prop := ∀ c ∈ s.pending, c.wellFormed s.variant = true

/-- A command completes: it answers a next state, of which `P` holds. -/
def Does (c : Instr) (s : State) (P : State → Prop) : Prop := ∃ u, exec c s = .next u ∧ P u

/-- Every object but those listed reads as before. -/
def SameObjs (ks : List Nat) (s u : State) : Prop := ∀ k, k ∉ ks → u.obj k = s.obj k

/-- What Clemal holds of the frames, tables and channels that pass through it: everything but its objects, its tiles, ports, lanes and replicas, its counters' wrap flags, its
lifetime counts, the instant, the free values drawn, and the record of what left it. -/
def State.traffic (s : State) : State :=
  { s with now := 0, free := 0, objs := [], inForce := [], out := [], tiles := [], ports := [], lanes := [], wraps := [], proof := {}, lifeOwed := [],
           replicas := [] }

/-! Operations on the dictionary. -/

/-- The state in which a requester's operation is judged: at its instant, the idle times of the requester's group and session started again (R126, R140). -/
def State.askedAt (s : State) (now : Nat) (r : Requester) : State :=
  ((s.at now).touchGroup r).modSession r (fun x => { x with lastAt := (s.at now).now })

/-- An operation reaches this package's dictionary and is served there: its route is in service, it is neither dropped nor held nor relayed, its OP and LEN exist, and
a session it names is open (R110, R113, R143, R610, R631). -/
def State.reaches (s : State) (now : Nat) (a : Ask) : Bool :=
  hasRoute s.variant a.who && (s.at now).up (homeTile a.who) && !a.dropped && !(s.at now).mustWait a && (s.at now).pairOk .lcRunning && opAllowed a.who a.op &&
    lenAllowed a.op a.data.length && (s.askedAt now a.who).sessionOk a && !(s.askedAt now a.who).goesAway a && s.relayIn.isEmpty

/-- The operation of a WRITE. -/
def writeAsk (r : Requester) (key : Nat) (data : Bytes) : Ask := ⟨r, 2, keyIndex key, keySub key, data, false, 0⟩

/-- A WRITE reaches the object: it passes checks 1 to 9, and no group of the requester and no validated group stands before it (R113, R125, R130). -/
def State.passes (s : State) (now : Nat) (r : Requester) (key : Nat) (data : Bytes) : Bool :=
  s.reaches now (writeAsk r key data) && (s.askedAt now r).openGroup r == none && !(s.askedAt now r).stagesElsewhere r none false &&
    (s.askedAt now r).groups.all (fun g => !g.holds key) && (s.askedAt now r).writeCheck r key data == 0

/-- A WRITE of an object outside the tables of the etch is accepted: it passes every check of R113. -/
def State.accepts (s : State) (now : Nat) (r : Requester) (key : Nat) (data : Bytes) : Bool :=
  s.passes now r key data && !(s.askedAt now r).isEtch key && ((s.askedAt now r).conflict ((s.askedAt now r).rawSet r key data) r key data).1 == 0

/-- A WRITE of an object of the etch by the owner of the open etch reaches its own checks: it passes the checks before them (R113, R300, R301). -/
def State.stages (s : State) (now : Nat) (r : Requester) (key : Nat) (data : Bytes) : Bool :=
  s.passes now r key data && s.isEtch key && !(s.askedAt now r).stagesElsewhere r none true && ((s.askedAt now r).anyWriteConflict key).1 == 0 &&
    s.obj O.ETCH_STATE == 1 && (match s.etch with
    | some e => e.owner == r
    | none => false)

/-- The head of a queue is a frame without a launch time that may be sent at this selection point: it is in the Basin whole, its priority is not paused, no hatch list governs
the port, its shapers conform, and its queue was not held (R363, R371, R405). -/
def State.sendable (s : State) (p q : Nat) : Bool :=
  (match s.headOf p q with
  | some (fid, h) => (s.launchOf fid h).isNone && (match s.both fid h with
    | some (c, _) => c.complete
    | none => false)
  | none => false) && !bit (s.obj (O.PAUSED_NOW p)) (s.prioOf p q) && !s.flag (O.HATCH_ENABLE p) && s.queueConforms p q && s.portConforms p && !(s.queue p q).held

/-- One response is added for a requester. -/
def Answered (s u : State) (r : Requester) (op code : Nat) (data : Bytes) : Prop := u.responses = s.responses ++ [(r, ⟨op, code, data⟩)]

/-- A write was accepted: result OK. -/
def Written (s u : State) (r : Requester) : Prop := Answered s u r 2 0 []

/-- What `State.traffic` keeps, without the dictionary's own: its responses, sessions, exchanges, groups and selections, and writes that wait for their response. -/
def State.datapath (s : State) : State :=
  { s.traffic with responses := [], sessions := [], challenges := [], groups := [], selects := [], afterResponse := [] }

end Sys2Proof.Machine
end

