-- ==== Sys2Proof/Certificates/Slice0/Obligations.lean ====
section
/-! DEFINITION. What is claimed of the model: one obligation for each family of commands and for what all commands keep. Each says, for every state and every operand
that meets its hypotheses, that the command completes and what it leaves, or where it stops. -/

open Sys2Proof Sys2Proof.Machine

/-- The supply of a tile comes up step by step: the rail is asked for when the tile leaves reset, the oscillator when the rail is ready, and the domains when the oscillator is
ready; a step that is late, or a ready signal that falls, ends the attempt with its cause and both requests low, the next attempt asks for the rail again, and after the fourth
the tile shows WAKE_FAULT with the cause of the attempt and T0 reports it (R565, R566, R567, R634, R637). -/
def Obligations.SupplySteps : Prop :=
  ∀ (s : State) (now t : Nat), s.quiet → t < s.variant.tiles →
    (∀ i, (s.tile t).releaseAt = some i → i ≤ max s.now now → s.pwrOk = true → s.porstN = true → s.asleep = false →
      Does (.tileResetRelease now t) s (fun u => u.obj (O.TILE_STATE t) = 0 ∧ u.obj (O.STARTUP_STEP t) = 1 ∧ u.obj (O.TILE_PSTEP t) = 5 ∧
        u.obj (O.STARTUP_RESULT t) = 0 ∧ (u.tile t).releaseAt = none ∧ (u.tile t).vregReq = true ∧ (u.tile t).oscReq = false ∧ (u.tile t).tries = 1 ∧
        u.traffic = s.traffic)) ∧
    (s.obj (O.TILE_PSTEP t) = 5 → max s.now now ≤ (s.tile t).stepAt + s.vregLimit t + s.vregLimit t / 10 →
      Does (.tileVregRdyRise now t) s (fun u => u.obj (O.TILE_PSTEP t) = 6 ∧ (u.tile t).oscReq = true ∧ (u.tile t).vregRdy = true ∧
        SameObjs [O.TILE_PSTEP t] s u ∧ u.traffic = s.traffic)) ∧
    (s.obj (O.TILE_PSTEP t) = 6 → max s.now now ≤ (s.tile t).stepAt + 2 * msU + 2 * msU / 10 →
      Does (.tileOscRdyRise now t) s (fun u => (u.tile t).oscRdy = true ∧ bit (u.obj (O.PD_ON t)) 49 = true ∧
        (u.tile t).pdQueue = wantedDomains s.variant (s.obj (O.CORE_PWR t)) (s.obj (O.BASIN_PWR t)) ∧
        (if s.starting t then u.obj (O.STARTUP_STEP t) = 2 ∧ u.obj (O.TILE_PSTEP t) = 0 else u.obj (O.TILE_PSTEP t) = 7) ∧
        SameObjs [O.PD_ON t, O.TILE_PSTEP t, O.STARTUP_STEP t] s u)) ∧
    (s.obj (O.TILE_PSTEP t) = 5 → (s.tile t).stepAt + s.vregLimit t ≤ max s.now now →
      Does (.tileVregTimeout now t) s (fun u => u.obj (O.TILE_PSTEP t) = 10 ∧ (u.tile t).cause = 1 ∧ (u.tile t).vregReq = false ∧ (u.tile t).oscReq = false ∧
        u.traffic = s.traffic)) ∧
    (s.obj (O.TILE_PSTEP t) = 6 → (s.tile t).stepAt + 2 * msU ≤ max s.now now →
      Does (.tileOscTimeout now t) s (fun u => u.obj (O.TILE_PSTEP t) = 10 ∧ (u.tile t).cause = 2 ∧ (u.tile t).vregReq = false ∧ (u.tile t).oscReq = false ∧
        u.traffic = s.traffic)) ∧
    (∀ osc, s.pastSupply t osc = true →
      Does (.wakeRdyDrop now t osc) s (fun u => u.obj (O.TILE_PSTEP t) = 10 ∧ (u.tile t).cause = (if osc then 4 else 3) ∧ (u.tile t).vregReq = false ∧
        (u.tile t).oscReq = false ∧ u.traffic = s.traffic)) ∧
    (s.obj (O.TILE_PSTEP t) = 10 → (s.tile t).stepAt + msU ≤ max s.now now → (s.tile t).tries < 4 →
      Does (.retryWaitEnd now t) s (fun u => u.obj (O.TILE_PSTEP t) = 5 ∧ (u.tile t).tries = (s.tile t).tries + 1 ∧ (u.tile t).vregReq = true ∧
        (u.tile t).oscReq = false)) ∧
    (s.obj (O.TILE_PSTEP t) = 10 → (s.tile t).stepAt + msU ≤ max s.now now → 4 ≤ (s.tile t).tries → (t ≠ 0 ∨ (s.tile t).coming ≠ .package) →
      Does (.retryWaitEnd now t) s (fun u => u.obj (O.TILE_STATE t) = 3 ∧ u.obj (O.TILE_PSTEP t) = 0 ∧ u.obj (O.WAKE_FAULT_CAUSE t) = (s.tile t).cause ∧
        (u.tile t).vregReq = false ∧ (u.tile t).oscReq = false ∧ (t = 0 → (u.tile t).failed = true) ∧
        (∃ r ∈ (u.tile 0).reports, r.kind = 0x02 ∧ r.cls = 10 ∧ r.src = t)))

/-- The steps of a start that follow the supply: the domains are on, the firmware is loaded, the self test passes, the tile's contents are wiped, and it joins and
enters RUN (R637, R641). -/
def Obligations.StartSteps : Prop :=
  ∀ (s : State) (now t : Nat), s.quiet → t < s.variant.tiles →
    (∀ d, d < 54 → (s.tile t).pdQueue.head? = some d → ((s.tile t).pdAt = 0 ∨ (s.tile t).pdAt + 2 * usU ≤ max s.now now) → s.pairOk (.corePwr t) = true →
      s.pairOk (.basinPwr t) = true → (s.runs t = false ∨ s.offOwed t = false) →
      Does (.domainPowerOnDone now t d) s (fun u => bit (u.obj (O.PD_ON t)) d = true ∧ (u.tile t).pdQueue = (s.tile t).pdQueue.drop 1 ∧
        (u.tile t).pdAt = max s.now now)) ∧
    (s.inStart t 2 = true → (t ≠ 0 ∨ (s.tile t).coming ≠ .recover) → (s.tile t).stepAt + 2 * usU * ((s.tile t).pdQueue.length - 1) ≤ max s.now now →
      Does (.powerUpDone now t) s (fun u => u.obj (O.STARTUP_STEP t) = 3 ∧ (u.tile t).pdQueue = [] ∧ SameObjs [O.STARTUP_STEP t, O.PD_ON t] s u ∧
        u.traffic = s.traffic)) ∧
    (s.inStart t 3 = true → (s.tile t).failed = false → ∀ staged,
      Does (.fwLoadDone now t true staged) s (fun u => u.obj (O.STARTUP_STEP t) = 4 ∧ SameObjs [O.STARTUP_STEP t] s u ∧ u.traffic = s.traffic)) ∧
    (s.inStart t 4 = true → (s.tile t).failed = false → ∀ block addr,
      Does (.bistDone now t false block addr) s (fun u => u.obj (O.STARTUP_STEP t) = 5 ∧ SameObjs [O.STARTUP_STEP t] s u ∧ u.traffic = s.traffic)) ∧
    (s.inStart t 5 = true →
      Does (.wipeDone now t) s (fun u => u.obj (O.STARTUP_STEP t) = 6)) ∧
    (s.inStart t 6 = true → (t = 0 ∨ s.runs 0 = true) → (s.tile t).coming ≠ .recover → s.pairOk .lcRunning = true →
      Does (.joinDone now t) s (fun u => u.obj (O.TILE_STATE t) = 1 ∧ u.obj (O.TILE_PSTEP t) = 0 ∧ u.obj (O.STARTUP_STEP t) = 7 ∧
        u.obj (O.STARTUP_RESULT t) = 1 ∧ (u.tile t).selfTest = true))


/-- The package inputs: when PKG_PWR_OK or PKG_PORST_N falls the package is reset with its cause, and only what persists is left, a checkpoint in the making aside; when both
are high again every tile is released 20 microseconds later; a change of one while the other holds the package in reset releases nothing. That the cause follows the later loss
of the supply is the model's reading (R608, R634, R644). -/
def Obligations.PackageInputs : Prop :=
  ∀ (s : State) (now : Nat), s.quiet →
    (s.pwrOk = true → s.porstN = true → ∀ pwr,
      Does (if pwr then .pkgPwrOkChange now false else .pkgPorstNChange now false) s (fun u =>
        u.pwrOk = !pwr ∧ u.porstN = pwr ∧ u.lStart = max s.now now ∧ u.obj O.RESET_CAUSE = (if pwr then 0 else 1) ∧
        (∀ k, persists k = false → k ≠ O.RESET_CAUSE → u.obj k = objDflt s.variant k) ∧
        (∀ k, persists k = true → k ≠ O.FW_STATE → u.obj k = s.obj k) ∧ u.keys = s.keys ∧ (s.psNow = none → u.psSlots = s.psSlots) ∧ u.fwStore = s.fwStore ∧
        (∀ t, (u.tile t).releaseAt = none ∧ (u.tile t).vregReq = false ∧ (u.tile t).oscReq = false) ∧ u.frames = [] ∧ u.copies = [] ∧ u.sessions = [] ∧
        u.groups = [] ∧ u.etch = none)) ∧
    (s.pwrOk = true → s.porstN = false → s.pairOk .lcRunning = true →
      Does (.pkgPorstNChange now true) s (fun u => u.porstN = true ∧ u.lStart = max s.now now ∧ u.porstAt = max s.now now ∧
        (∀ t, t < s.variant.tiles → (u.tile t).releaseAt = some (max s.now now + 20 * usU) ∧ (u.tile t).coming = .start) ∧ SameObjs [] s u ∧
        u.proof = s.proof)) ∧
    (s.pwrOk = false → s.porstN = true → s.pairOk .lcRunning = true →
      Does (.pkgPwrOkChange now true) s (fun u => u.pwrOk = true ∧ u.lStart = max s.now now ∧
        (∀ t, t < s.variant.tiles → (u.tile t).releaseAt = some (max s.now now + 20 * usU) ∧ (u.tile t).coming = .start) ∧ SameObjs [] s u)) ∧
    (s.pwrOk = true → s.porstN = false →
      Does (.pkgPwrOkChange now false) s (fun u => u.pwrOk = false ∧ u.obj O.RESET_CAUSE = 0 ∧ SameObjs [O.RESET_CAUSE] s u ∧ u.tiles = s.tiles ∧
        u.lStart = min s.lStart (max s.now now))) ∧
    (s.pwrOk = false → s.porstN = true →
      Does (.pkgPorstNChange now false) s (fun u => u.porstN = false ∧ SameObjs [] s u ∧ u.tiles = s.tiles))

/-- The resets of a tile: a pulse of 60 ns or more on the reset of a tile other than T0 holds it in reset until 20 microseconds after the pulse, with its supply off, a shorter
one than 40 ns does nothing, and one on T0's resets the package; a supply that fails in a tile in service or isolated, T0 too, holds it in reset, asking for neither rail
nor oscillator, counted and reported by T0; and TILE_RECOVER of another tile starts it again at once (R101, R104, R635, R645). -/
def Obligations.TileResets : Prop :=
  ∀ (s : State) (now t : Nat), s.sound → t < s.variant.tiles →
    (∀ width, t ≠ 0 → 60 * nsU ≤ width → s.pwrOk = true → s.porstN = true →
      Does (.tileRstNPulse now t width) s (fun u => u.obj (O.TILE_STATE t) = 0 ∧ u.obj (O.TILE_PSTEP t) = 0 ∧ u.obj (O.PD_ON t) = 2 ^ 53 ∧
        u.obj (O.STARTUP_STEP t) = 0 ∧ (u.tile t).releaseAt = some (max s.now now + width + 20 * usU) ∧ (u.tile t).vregReq = false ∧
        (u.tile t).oscReq = false ∧ (u.tile t).image = none)) ∧
    (∀ width, width < 40 * nsU →
      Does (.tileRstNPulse now t width) s (fun u => SameObjs [] s u ∧ u.tiles = s.tiles ∧ u.traffic = s.traffic)) ∧
    (∀ width, 60 * nsU ≤ width → s.pwrOk = true → s.porstN = true → s.pairOk .lcRunning = true →
      Does (.tileRstNPulse now 0 width) s (fun u => u.obj O.RESET_CAUSE = 2 ∧ u.lStart = max s.now now ∧ u.frames = [] ∧
        (∀ k, persists k = false → k ≠ O.RESET_CAUSE → u.obj k = objDflt s.variant k) ∧
        (∀ x, x < s.variant.tiles → (u.tile x).releaseAt = some (max s.now now + width + 20 * usU) ∧ (u.tile x).vregReq = false))) ∧
    (∀ osc, (s.obj (O.TILE_STATE t) = 1 ∨ s.obj (O.TILE_STATE t) = 4) → (s.tile t).vregReq = true →
      Does (.tileSupplyFault now t osc) s (fun u => u.obj (O.TILE_STATE t) = 0 ∧ u.obj (O.PD_ON t) = 2 ^ 53 ∧ (u.tile t).releaseAt = none ∧
        (u.tile t).supplyFault = true ∧ (u.tile t).vregReq = false ∧ (u.tile t).oscReq = false ∧ (t ≠ 0 → u.obj (O.TILE_SUPPLY_FAULT t) = 1) ∧
        u.obj O.RESET_CAUSE = s.obj O.RESET_CAUSE ∧ (∃ r ∈ (u.tile 0).reports, r.kind = 0x05 ∧ r.cls = 10 ∧ r.src = t))) ∧
    (∀ r, t ≠ 0 → s.accepts now r (O.TILE_RECOVER t) [1] = true →
      Does (.tileRecover now r t [1]) s (fun u => (r, ⟨2, 0, []⟩) ∈ u.responses ∧ u.obj (O.TILE_STATE t) = 0 ∧ u.obj (O.PD_ON t) = 2 ^ 53 ∧
        (u.tile t).releaseAt = some (max s.now now) ∧ (u.tile t).coming = .recover))

/-- Tile dormant: a tile told to be dormant leaves service at once, saves its image 20 microseconds later, signs it, and then keeps only what DORMANT_RETAIN names; told
to run, it starts its attempts; its image is checked, and a good one restored, and the tile is in RUN again. CORE_PWR and BASIN_PWR: a tile in RUN queues, in order, the
domains asked for that are off, and switches off at once those of the pipes, the classifier, the Burin and DMA that are not asked for (R556 to R565, R569 to R571). -/
def Obligations.TilePower : Prop :=
   (∀ (s : State) (now t : Nat), s.quiet → t < s.variant.tiles → t ≠ 0 →
      (∀ r, s.runs t = true → s.accepts now r (O.TILE_POWER t) [1] = true →
        Does (.tilePowerDormant now r t) s (fun u => Written s u r ∧ u.obj (O.TILE_POWER t) = 1 ∧ u.obj (O.TILE_PSTEP t) = 1 ∧ u.runs t = false ∧
          (u.tile t).stepAt = max s.now now)) ∧
      (s.entering t 1 = true → (s.tile t).stepAt + 20 * usU ≤ max s.now now →
        Does (.dormantSave now t) s (fun u => u.obj (O.TILE_PSTEP t) = 2 ∧ (u.tile t).image =
            some ⟨s.objs.filter (fun e => inConfig s.variant t e.1), layout 0 (s.sectionSizes t) (banksOf (s.obj (O.DORMANT_RETAIN t))), []⟩ ∧ SameObjs [O.TILE_PSTEP t] s u ∧ u.traffic = s.traffic)) ∧
      (∀ i, s.entering t 2 = true → (s.tile t).image = some i →
        Does (.dormantSign now t) s (fun u => u.obj (O.TILE_PSTEP t) = 3 ∧ (u.tile t).image = some { i with signed := i.sections.flatMap (·.banks) } ∧
          SameObjs [O.TILE_PSTEP t] s u ∧ u.traffic = s.traffic)) ∧
      (s.entering t 3 = true → (s.tile t).runHeld = false →
        Does (.dormantPowerDown now t) s (fun u => u.obj (O.TILE_STATE t) = 2 ∧ u.obj (O.TILE_PSTEP t) = 0 ∧
          u.obj (O.PD_ON t) = 2 ^ 53 + s.obj (O.DORMANT_RETAIN t) % 256 * 2 ^ 39 ∧ (u.tile t).image = (s.tile t).image ∧ (u.tile t).vregReq = false ∧
          (∃ r ∈ (u.tile 0).reports, r.kind = 0x01 ∧ r.cls = 10 ∧ r.src = t))) ∧
      (∀ r, s.obj (O.TILE_STATE t) = 2 → s.obj (O.TILE_PSTEP t) = 0 → s.accepts now r (O.TILE_POWER t) [0] = true →
        Does (.tilePowerRun now r t) s (fun u => Written s u r ∧ u.obj (O.TILE_POWER t) = 0 ∧ u.obj (O.TILE_PSTEP t) = 5 ∧ u.obj (O.WAKE_TRIES t) = 1 ∧
          (u.tile t).vregReq = true ∧ (u.tile t).oscReq = false ∧ (u.tile t).coming = .wake ∧
          SameObjs [O.TILE_POWER t, O.TILE_PSTEP t, O.WAKE_TRIES t] s u)) ∧
      (∀ r, s.entering t 2 = true → s.accepts now r (O.TILE_POWER t) [0] = true →
        Does (.tilePowerRun now r t) s (fun u => Written s u r ∧ (u.tile t).runHeld = true ∧ u.obj (O.TILE_PSTEP t) = 2 ∧ SameObjs [O.TILE_POWER t] s u)) ∧
      (∀ bad corrected i, s.obj (O.TILE_PSTEP t) = 8 → (s.tile t).image = some i → (∀ x ∈ i.sections, ∀ b ∈ x.banks, b < 48 ∧ b ∈ i.signed) →
        (∀ x ∈ i.sections, x.lostBit < 4) →
        Does (.retentionCheckDone now t bad corrected) s (fun u => u.obj (O.TILE_PSTEP t) = 9 ∧
          (∀ b, bit (u.obj (O.BANKS_LOST t)) b = (bad.contains b && i.sections.any (fun x => x.banks.contains b))) ∧
          (∀ n, bit (u.obj (O.RESTORE_LOST t)) n = i.sections.any (fun x => x.lostBit == n && x.banks.any bad.contains)) ∧
          SameObjs [O.TILE_PSTEP t, O.BANKS_LOST t, O.RESTORE_LOST t] s u ∧ u.traffic = s.traffic)) ∧
      (s.obj (O.TILE_PSTEP t) = 9 → s.obj (O.RESTORE_LOST t) = 0 →
        Does (.restoreDone now t) s (fun u => u.obj (O.TILE_STATE t) = 1 ∧ u.obj (O.TILE_PSTEP t) = 0 ∧ (u.tile t).image = none))) ∧
   (∀ (s : State) (now : Nat) (r : Requester) (t : Nat) (data : Bytes), s.quiet → t < s.variant.tiles → s.runs t = true →
      (s.accepts now r (O.CORE_PWR t) data = true → s.pairOk (.basinPwr t) = true →
        Does (.corePwrWrite now r t data) s (fun u => Written s u r ∧ u.obj (O.CORE_PWR t) = leNat data ∧
          (∀ d ∈ [36, 37, 38, 47, 48], d ∉ wantedDomains s.variant (leNat data) (s.obj (O.BASIN_PWR t)) → u.pd t d = false) ∧
          (u.tile t).pdQueue = (wantedDomains s.variant (leNat data) (s.obj (O.BASIN_PWR t))).filter (fun d => !u.pd t d))) ∧
      (s.accepts now r (O.BASIN_PWR t) data = true → s.pairOk (.corePwr t) = true →
        Does (.basinPwrWrite now r t data) s (fun u => Written s u r ∧ u.obj (O.BASIN_PWR t) = leNat data ∧
          (∀ g, g < 8 → bit (leNat data) g = false → bit (s.obj (O.GROUPS_EMPTY t)) g = true → u.pd t (39 + g) = false) ∧
          (u.tile t).pdQueue = (wantedDomains s.variant (s.obj (O.CORE_PWR t)) (leNat data)).filter (fun d => !u.pd t d))))

/-- Package sleep: the request waits until its response is sent; the entry ends with the package asleep and every tile dormant; a WAKE frame on the detector after an idle of 8 microseconds starts the
package as a reset would, with its cause; one at the node outside sleep wakes the tiles FB_WAKE_TILES names, and one during the entry is kept for its end (R572, R573,
R576, R579). -/
def Obligations.PackageSleep : Prop :=
  ∀ (s : State) (now : Nat), s.sound →
    (∀ r, s.accepts now r O.SLEEP_REQ [1] = true →
      Does (.sleepReq now r [1]) s (fun u => Written s u r ∧ u.afterResponse = s.afterResponse ++ [(r, O.SLEEP_REQ)] ∧ u.sleepEntry = s.sleepEntry ∧
        SameObjs [] s u ∧ u.datapath = s.datapath)) ∧
    (s.sleepEntry = true → s.wakeOwed = false → s.psNow = none → s.psWait = [] → s.afterResponse = [] →
      Does (.sleepEntryDone now) s (fun u => u.asleep = true ∧ u.fbStb = true ∧ u.sleepAt = max s.now now ∧ u.sleepEntry = false ∧
        (∀ t, t < s.variant.tiles → u.obj (O.TILE_STATE t) = 2 ∧ (u.tile t).vregReq = false) ∧
        (∀ k, survivesSleep k = true → k ≠ O.FW_STATE → u.obj k = s.obj k) ∧ u.frames = [] ∧ u.keys = s.keys ∧ u.psSlots = s.psSlots)) ∧
    (∀ idle runs, s.asleep = true → 8 * usU ≤ idle → detects s.node runs = true →
      Does (.wakeDetectorMatch now (idle :: runs)) s (fun u => u.asleep = false ∧ u.fbStb = false ∧ u.lStart = max s.now now ∧ u.obj O.RESET_CAUSE = 3 ∧
        u.obj O.LAST_PKG_WAKE = 1 ∧ u.obj O.PKG_WAKES = (s.obj O.PKG_WAKES + 1) % 2 ^ 32 ∧ u.obj (O.TILE_STATE 0) = 0 ∧ u.obj (O.TILE_PSTEP 0) = 5 ∧
        (u.tile 0).vregReq = true ∧ (u.tile 0).coming = .package ∧
        (∀ t, 0 < t → t < s.variant.tiles → bit (s.obj O.FB_WAKE_TILES) t = true → u.obj (O.TILE_PSTEP t) = 5 ∧ (u.tile t).vregReq = true))) ∧
    (∀ idle runs, (s.asleep = false ∨ idle < 8 * usU ∨ detects s.node runs = false) →
      Does (.wakeDetectorMatch now (idle :: runs)) s (fun u => SameObjs [] s u ∧ u.tiles = s.tiles ∧ u.traffic = s.traffic)) ∧
    ((s.at now).zwOn = true → s.sleepEntry = false →
      Does (.zwWakeFrame now (0x100 + s.node) (bytesOf [0x55, 0x55])) s (fun u =>
        ∀ t, t < s.variant.tiles → bit (s.obj O.FB_WAKE_TILES) t = true → s.obj (O.TILE_STATE t) = 2 → s.obj (O.TILE_PSTEP t) = 0 →
          u.obj (O.TILE_PSTEP t) = 5 ∧ u.obj (O.WAKE_TRIES t) = 1 ∧ (u.tile t).vregReq = true)) ∧
    (s.sleepEntry = true →
      Does (.zwWakeFrame now (0x100 + s.node) (bytesOf [0x55, 0x55])) s (fun u => u.wakeOwed = true ∧ SameObjs [] s u ∧ u.tiles = s.tiles))

/-- The lifecycle: an accepted request waits for its response; the change ends every session and group and stops every tile; the wipe leaves the new state, and every
object outside the persistent set at its default, with the tiles that were in service in RUN; and SERVICE_EN_N high ends SERVICE (R604, R605, R607, R608). -/
def Obligations.Lifecycle : Prop :=
  ∀ (s : State) (now : Nat), s.quiet →
    (∀ r data, s.accepts now r O.LC_REQUEST data = true → leNat data ≠ 0 →
      Does (.lcRequest now r data) s (fun u => Written s u r ∧ u.obj O.LC_REQUEST = leNat data ∧ u.lc = some ⟨leNat data, some r, false⟩ ∧
        SameObjs [O.LC_REQUEST] s u)) ∧
    (Does (.serviceEnNHigh now false) s (fun u => u.serviceLow = true ∧ u.lc = s.lc ∧ SameObjs [] s u ∧ u.tiles = s.tiles)) ∧
    (s.lcNow ≠ 4 →
      Does (.serviceEnNHigh now true) s (fun u => u.serviceLow = false ∧ u.lc = s.lc ∧ SameObjs [] s u ∧ u.tiles = s.tiles)) ∧
    (s.lcNow = 4 → s.lc = none →
      Does (.serviceEnNHigh now true) s (fun u => u.serviceLow = false ∧ u.lc = some ⟨3, none, true⟩ ∧ u.sessions = [] ∧ u.groups = [] ∧
        (∀ t, t < s.variant.tiles → u.runs t = false))) ∧
    (∀ v, s.lc = some ⟨v, none, false⟩ →
      Does (.lifecycleChange now) s (fun u => u.lc = some ⟨v, none, true⟩ ∧ u.sessions = [] ∧ u.challenges = [] ∧ u.groups = [] ∧
        (∀ t, t < s.variant.tiles → u.runs t = false ∧ (u.tile t).key.priv = false))) ∧
    (∀ v who, s.lc = some ⟨v, who, true⟩ → s.psNow = none → s.psWait = [] →
      Does (.lifecycleWipe now) s (fun u => u.lc = none ∧ u.obj O.LC_STATE = v ∧ u.obj O.LC_CHANGES = (s.obj O.LC_CHANGES + 1) % 2 ^ 32 ∧
        u.keys = (if v = 5 then [] else s.keys) ∧ u.frames = [] ∧ u.etch = none ∧ (∀ t, t < s.variant.tiles → s.obj (O.TILE_STATE t) = 1 → u.obj (O.TILE_STATE t) = 1)))

/-- Firmware: an offset and the chunks written build the staged image; its check ends VERIFIED or INVALID; an activation updates the tiles it names one after the other,
and ends with the image running; a tile that fails its self check counts and reports the revert (R609 to R611). TILE_TEMP shows the last measure (R671). -/
def Obligations.Firmware : Prop :=
  ∀ (s : State) (now t : Nat), s.quiet → t < s.variant.tiles →
    (∀ r data, s.accepts now r O.FW_OFFSET data = true →
      Does (.fwOffsetWrite now r data) s (fun u => Written s u r ∧ u.obj O.FW_OFFSET = leNat data ∧ u.obj O.FW_STATE = 1 ∧ u.fwVerifying = false ∧
        SameObjs [O.FW_OFFSET, O.FW_STATE] s u ∧ u.tiles = s.tiles)) ∧
    (∀ r data, s.accepts now r O.FW_DATA data = true →
      Does (.fwDataWrite now r data) s (fun u => Written s u r ∧ (∀ i, i < data.length → tget 0 u.fwStore (s.obj O.FW_OFFSET + i) = data.getD i 0) ∧
        (∀ i, i < s.obj O.FW_OFFSET ∨ s.obj O.FW_OFFSET + data.length ≤ i → tget 0 u.fwStore i = tget 0 s.fwStore i) ∧
        u.obj O.FW_OFFSET = s.obj O.FW_OFFSET + 512 ∧ u.obj O.FW_STATE = 1 ∧ SameObjs [O.FW_OFFSET, O.FW_STATE] s u)) ∧
    (∀ r, s.accepts now r O.FW_VERIFY [1] = true → s.obj O.FW_STATE ≠ 4 →
      Does (.fwVerify now r [1]) s (fun u => Written s u r ∧ u.fwVerifying = true ∧ SameObjs [] s u)) ∧
    (∀ good version, s.fwVerifying = true →
      Does (.fwVerifyDone now good version) s (fun u => u.obj O.FW_STATE = (if good then 2 else 3) ∧ u.fwVerifying = false ∧
        u.obj O.FW_STAGED_VERSION = (if good then version % 2 ^ 32 else s.obj O.FW_STAGED_VERSION) ∧ SameObjs [O.FW_STATE, O.FW_STAGED_VERSION] s u ∧
        u.tiles = s.tiles)) ∧
    (∀ r data, s.accepts now r O.FW_ACTIVATE data = true → (∃ x, x < 8 ∧ bit (leNat data) x = true) →
      Does (.fwActivate now r data) s (fun u => Written s u r ∧ u.obj O.FW_STATE = 4 ∧
        (∃ w, u.fwUpdate = some w ∧ w.cur = none ∧ ∀ x, x ∈ w.left ↔ x < 8 ∧ bit (leNat data) x = true) ∧ SameObjs [O.FW_STATE, O.FW_ACTIVATE] s u)) ∧
    (∀ w rest, s.fwUpdate = some w → w.cur = none → w.left = t :: rest → s.runs t = true →
      Does (.fwTileUpdate now t) s (fun u => u.fwUpdate = some { w with left := rest, cur := some t, gapAt := max s.now now } ∧ (u.tile t).updating = true ∧
        SameObjs [] s u)) ∧
    (∀ w, s.fwUpdate = some w → w.cur = some t → w.left = [] → w.reverted = false → s.heldOps = [] → s.relayIn = [] →
      Does (.fwSelfCheckDone now t true) s (fun u => u.fwUpdate = none ∧ u.obj O.FW_STATE = 2 ∧ (u.tile t).updating = false ∧
        u.fwRunning = s.obj O.FW_STAGED_VERSION + 1 ∧ u.obj (O.CB_FW_VERSION t) = s.obj O.FW_STAGED_VERSION)) ∧
    (∀ w, s.fwUpdate = some w → w.cur = some t → s.heldOps = [] → s.relayIn = [] →
      Does (.fwSelfCheckDone now t false) s (fun u => u.obj O.FW_REVERTS = (s.obj O.FW_REVERTS + 1) % 2 ^ 32 ∧ (u.tile t).updating = false ∧
        u.fwRunning = s.fwRunning ∧ (∃ r ∈ (u.tile t).reports, r.kind = 0x0A ∧ r.cls = 0 ∧ r.src = 5))) ∧
    (∀ temp, s.runs t = true →
      Does (.tileTempUpdate now t temp) s (fun u => u.obj (O.TILE_TEMP t) = ofS 32 temp ∧ SameObjs [O.TILE_TEMP t] s u ∧ u.tiles = s.tiles ∧
        u.traffic = s.traffic))
/-- An AFI channel comes up with 1,024 transmit credits once both ready signals are high, and loses its credits and the frame open on it when one falls; the host die's
receive credits are held up to 4,095, and a return past that is counted (R63 to R66, R104). -/
def Obligations.AfiChannels : Prop :=
  ∀ (s : State) (now t ch : Nat), s.quiet → t < s.variant.tiles → ch < 2 →
    (s.runs t = true → s.dmaOn t = true → s.pipeOn t ch = true → (s.afi t ch).up = false →
      Does (.afiRdyRise now t ch) s (fun u => (u.afi t ch).up = true ∧ (u.afi t ch).txCredits = 1024 ∧ (u.afi t ch).rxCredits = 0 ∧
        (u.afi t ch).txOpen = none ∧ u.out = .afiCredits t ch 1024 :: s.out ∧ SameObjs [] s u ∧ u.traffic = s.traffic)) ∧
    (∀ hd, (s.afi t ch).up = true →
      Does (.afiRdyFall now t ch hd) s (fun u => (u.afi t ch).up = false ∧ (u.afi t ch).txCredits = 0 ∧ (u.afi t ch).rxCredits = 0 ∧
        (u.afi t ch).txOpen = none ∧ (u.afi t ch).ctx = [])) ∧
    (∀ hd, (s.afi t ch).up = true → (s.afi t ch).ctx = [] →
      Does (.afiRdyFall now t ch hd) s (fun u =>
        u.obj (O.AFI_RDY_LOSS t) = (if hd && (s.afi t ch).txOpen.isSome then (s.obj (O.AFI_RDY_LOSS t) + 1) % 2 ^ 64 else s.obj (O.AFI_RDY_LOSS t)) ∧
        SameObjs [O.AFI_RDY_LOSS t] s u ∧ u.traffic = s.traffic)) ∧
    (∀ n, (s.afi t ch).up = true →
      Does (.afiCreditReturn now t ch n) s (fun u => (u.afi t ch).rxCredits = min 4095 ((s.afi t ch).rxCredits + n) ∧
        (u.afi t ch).txCredits = (s.afi t ch).txCredits ∧
        u.obj (O.AFI_CREDIT_VIOL t) =
          (if 4095 < (s.afi t ch).rxCredits + n then (s.obj (O.AFI_CREDIT_VIOL t) + 1) % 2 ^ 64 else s.obj (O.AFI_CREDIT_VIOL t)) ∧
        SameObjs [O.AFI_CREDIT_VIOL t] s u ∧ u.traffic = s.traffic)) ∧
    ((s.afi t ch).up = true → ((s.afi t ch).rxCredits = 0 ∨ (s.afi t ch).rxStarted = false) → (s.afi t ch).stalled = false → s.afiWaits t ch = true →
      (s.afi t ch).noCredit + s.obj (O.AFI_STALL_LIMIT t) * usU ≤ max s.now now →
      Does (.afiStall now t ch) s (fun u => (u.afi t ch).stalled = true ∧ u.obj (O.AFI_STALL t) = (s.obj (O.AFI_STALL t) + 1) % 2 ^ 64 ∧
        (∃ r ∈ (u.tile t).reports, r.kind = 0x73 ∧ r.cls = 9 ∧ r.src = ch) ∧ SameObjs [O.AFI_STALL t] s u ∧ u.traffic = s.traffic))

/-- A frame of one flit, within its fence's tokens, becomes a frame of the host feed with the bytes and the fields its metadata word gives, and uses one credit; a flit
without a credit is discarded, with what is left of its frame, and counted. The frame at the head of an AFI host queue takes the first free context, and its first 64 bytes go out as a start of frame with
the metadata word, for the one credit that is left; a cell of it that fails its CRC is counted (R54 to R62, R64, R66, R104, R325). -/
def Obligations.AfiFrames : Prop :=
   (∀ (s : State) (now t ch fid metaw : Nat) (f : Flit), s.quiet → t < s.variant.tiles → ch < 2 → (s.afi t ch).up = true →
      (0 < (s.afi t ch).txCredits → (s.afi t ch).txOpen = none → f.sof = true → f.eof = true → f.err = false → f.ctx = 0 →
        (flitValid f).length = metaLen metaw → 14 ≤ metaLen metaw → s.fresh fid = true →
        (s.policer t (hostMetaOf metaw).fence).bad = false → (s.policer t (hostMetaOf metaw).fence).kind = 1 →
        (s.policer t (hostMetaOf metaw).fence).tc ≤ ((s.policer t (hostMetaOf metaw).fence).cbs * 8000 : Nat) →
        (((s.policer t (hostMetaOf metaw).fence).meter (max 64 (metaLen metaw + 4)) * 8000 : Nat) : Int) ≤ (s.policer t (hostMetaOf metaw).fence).tc →
        Does (.afiTxFrame now t ch fid metaw [f]) s (fun u =>
          (∃ fr, u.frame fid = some fr ∧ fr.data = flitValid f ∧ fr.src = .afi t ch ∧ fr.hm = hostMetaOf metaw ∧ fr.ended = true) ∧
          (u.afi t ch).txCredits = (s.afi t ch).txCredits - 1 ∧ (u.afi t ch).txOpen = none ∧
          (u.policer t (hostMetaOf metaw).fence).green = ((s.policer t (hostMetaOf metaw).fence).green + 1) % 2 ^ 64 ∧ SameObjs [] s u)) ∧
      ((s.afi t ch).txCredits = 0 → (s.afi t ch).txOpen = none →
        Does (.afiTxFrame now t ch fid metaw [f]) s (fun u => (u.afi t ch).txSkip = (if f.eof then 0 else max 1 (s.afi t ch).txSkip) ∧
          u.obj (O.AFI_CREDIT_VIOL t) = (s.obj (O.AFI_CREDIT_VIOL t) + 1) % 2 ^ 64 ∧ SameObjs [O.AFI_CREDIT_VIOL t] s u ∧ u.traffic = s.traffic))) ∧
   (∀ (s : State) (now t ch crcBad fid h : Nat) (rest : List (Nat × Nat)) (c : Copy) (f : Frame), s.quiet → t < s.variant.tiles → ch < 2 → (s.afi t ch).up = true →
      (s.afi t ch).rxStarted = true → (s.afi t ch).rxCredits = 1 → (s.afi t ch).ctx = [] → tget [] s.afiQueues (2 * t + ch) = (fid, h) :: rest →
      s.copy fid h = some c → s.frame fid = some f → 64 < (c.bytes f).length →
      (bit crcBad 0 = false → Does (.afiRxSend now t ch crcBad) s (fun u =>
        u.out = .afiFlit t ch (sideband true false c.bad 64 (rxMeta f c).outer (rxMeta f c).inner 0) (rxMeta f c).word (slice (c.bytes f) 0 64) :: s.out ∧
        (u.afi t ch).rxCredits = 0 ∧ tget none (u.afi t ch).ctx 0 = some (fid, h, 64) ∧ tget [] u.afiQueues (2 * t + ch) = rest ∧ SameObjs [] s u)) ∧
      (bit crcBad 0 = true → s.obj (O.ISOLATE_THRESHOLD t) = 0 → Does (.afiRxSend now t ch crcBad) s (fun u => u.obj (O.CELL_CRC_FAIL t) = (s.obj (O.CELL_CRC_FAIL t) + 1) % 2 ^ 64)))

/-- A memory read that is answered OK with its whole data gives the data to what its ring is at and is no longer outstanding; a late one of a ring that was at nothing
fails the ring with FETCH_ERR; the error of a posted write fails the completion queue it belongs to, or else the running ring of its RID (R68, R71, R104, R105, R517). -/
def Obligations.MemoryPort : Prop :=
  ∀ (s : State) (now t : Nat), s.quiet → t < s.variant.tiles →
    (∀ tag d w data, (s.tile t).reads.find? (fun r => r.tag == tag) = some d → d.dead = false → d.use = .data → data.length = d.len →
      (s.ring t d.rx d.ring).work = some w →
      Does (.memReadResponse now t tag 0 data) s (fun u => (u.ring t d.rx d.ring).work = some { w with got := some data } ∧
        (u.tile t).reads = (s.tile t).reads.filter (fun r => r.tag != tag) ∧ SameObjs [] s u)) ∧
    (∀ tag d, (s.tile t).reads.find? (fun r => r.tag == tag) = some d → d.dead = false → d.use = .fetch → (s.ring t d.rx d.ring).work = none →
      d.issued + d.limit * usU ≤ max s.now now →
      Does (.dmaTimeout now t tag) s (fun u => (u.ring t d.rx d.ring).st = 2 ∧ (u.ring t d.rx d.ring).fail = 0x10 ∧
        u.obj (O.DMA_TIMEOUT t) = (s.obj (O.DMA_TIMEOUT t) + 1) % 2 ^ 64 ∧ u.obj (O.RING_FAILS t) = (s.obj (O.RING_FAILS t) + 1) % 2 ^ 64 ∧
        (∀ r ∈ (u.tile t).reads, r.tag ≠ tag) ∧ SameObjs [O.DMA_TIMEOUT t, O.RING_FAILS t] s u)) ∧
    (∀ rid addr status n, status ≠ 0 → s.cqOwning t rid addr = some n →
      (s.ringList t).all (fun e => !(e.2.2.st == 1 && setCq e.2.2.active == n)) = true →
      Does (.memWriteError now t rid addr status) s (fun u => (u.cq t n).st = 2 ∧ u.obj (O.DMA_ERR_RSP t) = (s.obj (O.DMA_ERR_RSP t) + 1) % 2 ^ 64 ∧
        (∃ r ∈ (u.tile t).reports, r.kind = 0x62 ∧ r.cls = 5 ∧ r.src = n) ∧ SameObjs [O.DMA_ERR_RSP t] s u)) ∧
    (∀ rid addr status rx n r, status ≠ 0 → s.cqOwning t rid addr = none → s.ringList t = [(rx, n, r)] → r.st = 1 → setRid r.active = rid → r.work = none →
      Does (.memWriteError now t rid addr status) s (fun u => (u.ring t rx n).st = 2 ∧ (u.ring t rx n).fail = 0x12 ∧
        u.obj (O.DMA_ERR_RSP t) = (s.obj (O.DMA_ERR_RSP t) + 1) % 2 ^ 64)) ∧
    (∀ level, Does (.hdMemRdyChange now t level) s (fun u => (u.tile t).hdMemRdy = level ∧ (level = true → (u.tile t).memWaiting = false) ∧
        (u.tile t).memLowFrom = (if level then none else if (s.tile t).hdMemRdy then some (max s.now now) else (s.tile t).memLowFrom) ∧
        SameObjs [] s u ∧ u.traffic = s.traffic)) ∧
    (∀ i, (s.tile t).memLowFrom = some i → (s.tile t).memWaiting = true → i + msU < max s.now now →
      Does (.memRdyLoss now t) s (fun u => u.obj (O.MEM_RDY_LOSS t) = (s.obj (O.MEM_RDY_LOSS t) + 1) % 2 ^ 64 ∧ (u.tile t).memLowFrom = none ∧
        (∃ r ∈ (u.tile t).reports, r.kind = 0x77 ∧ r.cls = 0 ∧ r.src = 3) ∧ SameObjs [O.MEM_RDY_LOSS t] s u ∧ u.traffic = s.traffic))

/-- A ring with descriptors posted asks for up to 16 of them in one read; an aborting ring stops where HEAD stands once nothing is in progress; a ring with nothing to
start takes up its armed set; and a queue's hold-off ends with the message it owes (R485, R496, R505, R508, R510). -/
def Obligations.RingSteps : Prop :=
  ∀ (s : State) (now t : Nat), s.quiet → t < s.variant.tiles →
    (∀ rx n tag, n < 2048 → (s.ring t rx n).st = 1 → (s.ring t rx n).abort = false → (s.ring t rx n).backTo = none → (s.ring t rx n).fetching = none →
      s.canRead t tag = true → 16 ≤ idxDist (s.ring t rx n).tail (s.ring t rx n).fetchAt → (s.ring t rx n).fetchAt % (s.ring t rx n).size % 128 ≤ 112 →
      (s.ring t rx n).fetchAt % (s.ring t rx n).size + 16 ≤ (s.ring t rx n).size →
      Does (.descFetch now t rx n tag) s (fun u => (u.ring t rx n).fetching = some ((s.ring t rx n).fetchAt, 16) ∧
        (u.ring t rx n).fetchAt = idxAdd (s.ring t rx n).fetchAt 16 ∧
        u.out = .memRead t (setRid (s.ring t rx n).active) tag
          (((s.ring t rx n).base + 32 * ((s.ring t rx n).fetchAt % (s.ring t rx n).size)) % 2 ^ 64) 512 :: s.out ∧
        (∃ d ∈ (u.tile t).reads, d.tag = tag ∧ d.rx = rx ∧ d.ring = n ∧ d.use = .fetch ∧ d.len = 512) ∧ SameObjs [] s u)) ∧
    (∀ rx n, n < 2048 → (s.ring t rx n).st = 1 → (s.ring t rx n).abort = true → (s.ring t rx n).work = none → (s.ring t rx n).resetHeld = false →
      Does (.ringAbortDone now t rx n) s (fun u => (u.ring t rx n).st = 0 ∧ (u.ring t rx n).abort = false ∧ (u.ring t rx n).head = (s.ring t rx n).head ∧
        (u.ring t rx n).tail = (s.ring t rx n).head ∧ (u.ring t rx n).fetched = [] ∧ SameObjs [] s u)) ∧
    (∀ rx n, n < 2048 → (s.ring t rx n).armed = true → (s.ring t rx n).armedAt < max s.now now → (s.ring t rx n).work = none → (s.ring t rx n).st ≠ 2 → s.workOf t rx n (s.ring t rx n) = none →
      Does (.idleHandOverPoint now t rx n) s (fun u => (u.ring t rx n).active = (s.ring t rx n).shadow ∧ (u.ring t rx n).activeGen = (s.ring t rx n).shadowGen ∧
        (u.ring t rx n).armed = false ∧ SameObjs [] s u)) ∧
    (∀ q, q < 1024 → (s.cq t q).st = 1 → (s.cq t q).intEn = true → (s.cq t q).owed = true → (s.at now).cqQuiet (s.cq t q) = true →
      Does (.cqHoldoffEnd now t q) s (fun u => u.out = .message t (s.cq t q).rid (octets (s.cq t q).cfg 0x10 8) (octets (s.cq t q).cfg 0x18 4) :: s.out ∧
        (u.cq t q).owed = false ∧ (u.cq t q).lastMsg = some (max s.now now) ∧ SameObjs [] s u))

/-- The engines: the turn of a transmit ring whose next descriptor is a marker finishes it; the turn of a receive ring starts its delivery with one write; the last
burst of a transmit frame leaves it staged; a staged frame within its fence enters the pipe; and a read-back lets its record be written (R486, R489, R493, R497, R500,
R503). -/
def Obligations.EngineSteps : Prop :=
  ∀ (s : State) (now t : Nat), s.quiet → t < s.variant.tiles →
    (∀ e tag x n i d rest, e < 16 → s.dmaOn t = true → s.engineTurn t e = some (x, n) → x.rx = false → s.mayBegin t e x = true →
      (s.ring t false x.ring).armed = false → (s.ring t false x.ring).backTo = none → (s.ring t false x.ring).fetched = (i, d) :: rest → descKind d = 2 →
      Does (.engineSchedule now t e tag) s (fun u => (u.ring t false x.ring).fetched = rest ∧ (u.ring t false x.ring).head = idxAdd i 1 ∧
        (u.ring t false x.ring).descs = (s.ring t false x.ring).descs + 1 ∧ SameObjs [] s u)) ∧
    (∀ ring n x fid h rest c f a len l, ring < 2048 → s.dmaOn t = true → s.engineTurn t (s.ring t true ring).engine = some (x, n) → x.rx = true → x.ring = ring →
      s.mayBegin t (s.ring t true ring).engine x = true → (s.tile t).hdMemRdy = true → (s.ring t true ring).armed = false →
      tget [] s.ringQueues (2048 * t + ring) = (fid, h) :: rest → s.copy fid h = some c → s.frame fid = some f →
      nextPart (s.ring t true ring) { kind := .deliver, descs := [], gen := (s.ring t true ring).activeGen, cq := setCq (s.ring t true ring).active, fid := fid, h := h }
        (c.bytes f).length c.complete = some (a, len, l) →
      Does (.rxDeliveryStart now t ring) s (fun u => tget [] u.ringQueues (2048 * t + ring) = rest ∧
        (∃ w, (u.ring t true ring).work = some w ∧ w.kind = .deliver ∧ w.fid = fid ∧ w.h = h ∧ w.burst = some len ∧ w.moved = len ∧ w.descs = l) ∧
        u.out = .memWrite t (setRid (s.ring t true ring).active) (a % 2 ^ 64) (slice (c.bytes f) 0 len) :: s.out)) ∧
    (∀ ring tag crcBad w len data, ring < 2048 → (s.ring t false ring).work = some w → w.kind = .frame → w.burst = some len → w.got = some data → w.stop = 0 →
      partsLen w.descs ≤ w.moved + data.length →
      Does (.burstEnd now t false ring tag crcBad) s (fun u => (u.ring t false ring).work =
          some { w with moved := w.moved + data.length, buf := w.buf ++ data, burst := none, got := none } ∧
        (u.ring t false ring).bytes = ((s.ring t false ring).bytes + data.length) % 2 ^ 64 ∧ SameObjs [] s u)) ∧
    (∀ ring fid w, ring < 2048 → (s.ring t false ring).work = some w → (s.ring t false ring).st = 1 → (s.ring t false ring).backTo = none → w.kind = .frame →
      partsLen w.descs ≤ w.moved → w.burst = none → s.pipeOn t ((s.ring t false ring).engine / 8) = true → s.fresh fid = true →
      (s.policer t (w.hostMeta (s.ring t false ring).active).fence).bad = false → (s.policer t (w.hostMeta (s.ring t false ring).active).fence).kind = 1 →
      (s.policer t (w.hostMeta (s.ring t false ring).active).fence).tc ≤ ((s.policer t (w.hostMeta (s.ring t false ring).active).fence).cbs * 8000 : Nat) →
      (((s.policer t (w.hostMeta (s.ring t false ring).active).fence).meter (max 64 (w.buf.length + 4)) * 8000 : Nat) : Int) ≤
        (s.policer t (w.hostMeta (s.ring t false ring).active).fence).tc →
      Does (.engineFrameOffer now t ring fid) s (fun u => (u.ring t false ring).work = none ∧
        (u.ring t false ring).head = idxAdd (w.descs.getLastD (0, [])).1 1 ∧
        (∃ fr, u.frame fid = some fr ∧ fr.data = w.buf ∧ fr.src = .engine t (s.ring t false ring).engine ring ∧ fr.hm = w.hostMeta (s.ring t false ring).active) ∧
        SameObjs [] s u)) ∧
    (∀ rx n d w due, n < 2048 → (s.tile t).reads.find? (fun r => r.use == .readback && r.rx == rx && r.ring == n && !r.dead) = some d →
      (s.tile t).reads.find? (fun r => r.tag == d.tag) = some d → d.len = 1 → (s.ring t rx n).work = some w → w.due = some due → (s.ring t rx n).backTo = none →
      Does (.readbackDone now t rx n 0) s (fun u => (u.ring t rx n).work = none ∧ (u.ring t rx n).head = idxAdd (leAt due.data 0 2) 1 ∧
        ((s.cq t w.cq).st = 1 → (u.cq t w.cq).records = ((s.cq t w.cq).records + 1) % 2 ^ 64) ∧
        (∀ r ∈ (u.tile t).reads, r.tag ≠ d.tag) ∧ SameObjs [] s u))


/-- RING_CTL, RING_ARM and CQ_CTL act on the ring or queue that the requester selected: a STOPPED ring starts from its HEAD with its counts 0, and does not start while it
is FAILED or its queue is not ON; an abort of a ring at rest withdraws what it had not started; a reset clears a ring that is not RUNNING, and waits for the abort of one
that is; an armed set gets the next generation; an OFF queue begins at producer 0, and OFF turns it off. No other ring and no other queue changes (R483 to R485, R508,
R509, R518, R519). -/
def Obligations.RingControl : Prop :=
  ∀ (s : State) (now t n : Nat) (rx : Bool) (r : Requester), s.quiet → t < s.variant.tiles → s.selRing r t = (rx, n) →
    (s.accepts now r (O.RING_CTL t) [1] = true → (s.ring t rx n).st = 0 →
      Does (.ringStart now r t) s (fun u => Written s u r ∧ (u.ring t rx n).st = 1 ∧ (u.ring t rx n).bytes = 0 ∧ (u.ring t rx n).descs = 0 ∧
        (u.ring t rx n).head = (s.ring t rx n).head ∧ (u.ring t rx n).tail = (s.ring t rx n).tail ∧ (u.ring t rx n).fetchAt = (s.ring t rx n).head ∧
        (u.ring t rx n).active = (s.ring t rx n).active ∧ (∀ i x m, ringKey i x m ≠ ringKey t rx n → u.ring i x m = s.ring i x m) ∧ u.cqs = s.cqs ∧
        SameObjs [] s u ∧ u.tiles = s.tiles)) ∧
    (s.passes now r (O.RING_CTL t) [1] = true → (s.anyWriteConflict (O.RING_CTL t)).1 = 0 →
        ((s.ring t rx n).st = 2 ∨ (s.ring t rx n).st = 0 ∧ (s.cq t (setCq (s.ring t rx n).active)).st ≠ 1) →
      Does (.ringStart now r t) s (fun u => Answered s u r 2 0x09 [] ∧ u.rings = s.rings ∧ u.cqs = s.cqs ∧ SameObjs [] s u ∧ u.tiles = s.tiles)) ∧
    (s.accepts now r (O.RING_CTL t) [2] = true → (s.ring t rx n).st = 1 → (s.ring t rx n).abort = false → (s.ring t rx n).work = none →
      Does (.ringAbort now r t) s (fun u => Written s u r ∧ (u.ring t rx n).st = 1 ∧ (u.ring t rx n).abort = true ∧
        (u.ring t rx n).head = (s.ring t rx n).head ∧ (u.ring t rx n).tail = (s.ring t rx n).head ∧ (u.ring t rx n).work = none ∧
        (∀ i x m, ringKey i x m ≠ ringKey t rx n → u.ring i x m = s.ring i x m) ∧ u.cqs = s.cqs ∧ SameObjs [] s u ∧ u.tiles = s.tiles)) ∧
    (s.accepts now r (O.RING_CTL t) [3] = true → (s.ring t rx n).st ≠ 1 → (rx = true → tget [] s.ringQueues (2048 * t + n) = []) →
      Does (.ringReset now r t) s (fun u => Written s u r ∧ (u.ring t rx n).st = 0 ∧ (u.ring t rx n).fail = 0 ∧ (u.ring t rx n).head = 0 ∧
        (u.ring t rx n).tail = 0 ∧ (u.ring t rx n).fetched = [] ∧ (u.ring t rx n).work = none ∧ (u.ring t rx n).cfg = (s.ring t rx n).cfg ∧
        (u.ring t rx n).shadow = (s.ring t rx n).shadow ∧ (u.ring t rx n).armed = (s.ring t rx n).armed ∧
        (∀ d ∈ (u.tile t).reads, d.rx = rx → d.ring = n → d.dead = true) ∧ (∀ i x m, ringKey i x m ≠ ringKey t rx n → u.ring i x m = s.ring i x m) ∧
        u.cqs = s.cqs ∧ SameObjs [] s u)) ∧
    (s.accepts now r (O.RING_CTL t) [3] = true → (s.ring t rx n).st = 1 → (s.ring t rx n).abort = false → (s.ring t rx n).work = none →
      Does (.ringReset now r t) s (fun u => Written s u r ∧ (u.ring t rx n).st = 1 ∧ (u.ring t rx n).abort = true ∧ (u.ring t rx n).resetHeld = true ∧
        SameObjs [] s u ∧ u.tiles = s.tiles)) ∧
    (s.accepts now r (O.RING_ARM t) [1] = true →
      Does (.ringArm now r t [1]) s (fun u => Written s u r ∧ (u.ring t rx n).armed = true ∧ (u.ring t rx n).shadowGen = ((s.ring t rx n).shadowGen + 1) % 2 ^ 32 ∧
        (u.ring t rx n).active = (s.ring t rx n).active ∧ (u.ring t rx n).activeGen = (s.ring t rx n).activeGen ∧
        (∀ i x m, ringKey i x m ≠ ringKey t rx n → u.ring i x m = s.ring i x m) ∧ SameObjs [] s u ∧ u.tiles = s.tiles)) ∧
    (s.accepts now r (O.CQ_CTL t) [1] = true → (s.cq t (s.selCq r t)).st = 0 →
      Does (.cqOn now r t) s (fun u => Written s u r ∧ (u.cq t (s.selCq r t)).st = 1 ∧ (u.cq t (s.selCq r t)).producer = 0 ∧
        (u.cq t (s.selCq r t)).owed = false ∧ (u.cq t (s.selCq r t)).cfg = (s.cq t (s.selCq r t)).cfg ∧
        (∀ q, q < 1024 → q ≠ s.selCq r t → u.cq t q = s.cq t q) ∧ u.rings = s.rings ∧ SameObjs [] s u ∧ u.tiles = s.tiles)) ∧
    (s.accepts now r (O.CQ_CTL t) [2] = true →
      Does (.cqOff now r t) s (fun u => Written s u r ∧ (u.cq t (s.selCq r t)).st = 0 ∧ (u.cq t (s.selCq r t)).owed = false ∧
        (u.cq t (s.selCq r t)).records = (s.cq t (s.selCq r t)).records ∧ (∀ q, q < 1024 → q ≠ s.selCq r t → u.cq t q = s.cq t q) ∧
        u.rings = s.rings ∧ SameObjs [] s u ∧ u.tiles = s.tiles))
/-- Which accesses a control window takes: a tile out of service answers NRDY, and nothing at all in package sleep, and nothing happens; an access that breaks the rules of the window is counted, reported and
answered with an error, and nothing else happens; a write to the mailbox's data area puts its bytes there (R74, R75, R89, R104). -/
def Obligations.WindowAccess : Prop :=
  ∀ (s : State) (now t off size val : Nat), s.quiet → t < s.variant.tiles → off < 65536 →
    (s.up t = false →
      Does (.windowWrite now t off size val) s (fun u => u.out = (if s.asleep then s.out else .window t 1 0 :: s.out) ∧ u.tiles = s.tiles ∧ SameObjs [] s u ∧ u.traffic = s.traffic)) ∧
    (s.up t = true → s.asleep = false → winLegal off size = false →
      Does (.windowWrite now t off size val) s (fun u => u.out = .window t 2 0 :: s.out ∧ u.obj (O.CW_VIOL t) = (s.obj (O.CW_VIOL t) + 1) % 2 ^ 64 ∧
        (∃ r ∈ (u.tile t).reports, r.kind = 0x78 ∧ r.cls = 0 ∧ r.src = 3) ∧ (u.tile t).win = (s.tile t).win ∧ SameObjs [O.CW_VIOL t] s u ∧
        u.traffic = s.traffic)) ∧
    (s.up t = true → s.asleep = false → winLegal off size = true → 0x600 ≤ off → off < 0x800 → (s.tile t).win.busy = false →
      Does (.windowWrite now t off size val) s (fun u => (u.tile t).win = (s.tile t).win.put (off - 0x600) (natLe (val % 2 ^ (8 * size)) size) ∧
        u.out = .window t 0 0 :: s.out ∧ SameObjs [] s u ∧ u.traffic = s.traffic)) ∧
    (s.up t = true → s.asleep = false → winLegal off size = false →
      Does (.windowReadViolation now t off size) s (fun u => u.out = .window t 2 (2 ^ (8 * size) - 1) :: s.out ∧
        u.obj (O.CW_VIOL t) = (s.obj (O.CW_VIOL t) + 1) % 2 ^ 64 ∧ (u.tile t).win = (s.tile t).win ∧ SameObjs [O.CW_VIOL t] s u ∧ u.traffic = s.traffic)) ∧
    (s.up t = true → s.asleep = false → winLegal off size = true → 0x8000 ≤ off →
      Does (.pageWrite now t off size) s (fun u => u.obj (O.PAGE_WRITES t) = (s.obj (O.PAGE_WRITES t) + 1) % 2 ^ 64 ∧ u.out = .window t 0 0 :: s.out ∧
        (u.tile t).win = (s.tile t).win ∧ SameObjs [O.PAGE_WRITES t] s u ∧ u.traffic = s.traffic))

/-- A doorbell that posts within the ring moves TAIL; one that retracts to a descriptor not passed withdraws what has not started; one to a ring that is not RUNNING, and one
outside the ring, is only counted (R78, R483, R494, R506). -/
def Obligations.Doorbells : Prop :=
  ∀ (s : State) (now t : Nat) (rx : Bool) (n tail : Nat), s.quiet → t < s.variant.tiles → n < 2048 → tail < 65536 → s.up t = true →
    ((s.ring t rx n).st = 1 → idxDist (s.ring t rx n).tail (s.ring t rx n).head ≤ idxDist tail (s.ring t rx n).head →
      idxDist tail (s.ring t rx n).head ≤ (s.ring t rx n).size →
      Does (.doorbellPost now t rx n tail) s (fun u => (u.ring t rx n).tail = tail ∧ (u.ring t rx n).head = (s.ring t rx n).head ∧ SameObjs [] s u)) ∧
    ((s.ring t rx n).st = 1 → idxDist tail (s.ring t rx n).head < idxDist (s.ring t rx n).tail (s.ring t rx n).head →
      Does (.doorbellPost now t rx n tail) s (fun u => u.ring t rx n = s.ring t rx n ∧ u.obj (O.DB_INVALID t) = (s.obj (O.DB_INVALID t) + 1) % 2 ^ 64 ∧
        (∃ r ∈ (u.tile t).reports, r.kind = 0x60 ∧ r.cls = (if rx then 4 else 3) ∧ r.src = n) ∧ SameObjs [O.DB_INVALID t] s u ∧ u.traffic = s.traffic)) ∧
    ((s.ring t rx n).st = 1 → idxDist tail (s.ring t rx n).head ≤ idxDist (s.ring t rx n).tail (s.ring t rx n).head → (s.ring t rx n).work = none →
      Does (.doorbellRetract now t rx n tail) s (fun u => (u.ring t rx n).tail = tail ∧ (u.ring t rx n).head = (s.ring t rx n).head ∧
        tail ∈ (u.ring t rx n).cuts ∧ (∀ e ∈ (u.ring t rx n).fetched, idxDist e.1 (s.ring t rx n).head < idxDist tail (s.ring t rx n).head) ∧ SameObjs [] s u)) ∧
    ((s.ring t rx n).st ≠ 1 →
      Does (.doorbellPost now t rx n tail) s (fun u => u.ring t rx n = s.ring t rx n ∧ u.obj (O.DB_IDLE t) = (s.obj (O.DB_IDLE t) + 1) % 2 ^ 64 ∧
        SameObjs [O.DB_IDLE t] s u ∧ u.traffic = s.traffic) ∧
      Does (.doorbellRetract now t rx n tail) s (fun u => u.ring t rx n = s.ring t rx n ∧ u.obj (O.DB_IDLE t) = (s.obj (O.DB_IDLE t) + 1) % 2 ^ 64 ∧
        SameObjs [O.DB_IDLE t] s u ∧ u.traffic = s.traffic))

/-- The blocks of a control window: TIME_SNAP samples the tile's three time domains and CNT_SNAP the counters of its source, whose wrap flags it clears; when the values
are placed, DONE is set and SEQ advances by one; a write of DONE clears it. A read of TSQ_POP.HEAD pops the oldest transmit timestamp of its port; a response fills the
mailbox and sets DONE; and at a microsecond boundary the time bus sends the word of the next one with its counter (R79 to R81, R83 to R86, R88, R98, R532). -/
def Obligations.WindowBlocks : Prop :=
   (∀ (s : State) (now t : Nat), s.quiet → t < s.variant.tiles →
      (s.up t = true → (s.tile t).win.tsBusy = false →
        Does (.timeSnap now t) s (fun u => (u.tile t).win.tsBusy = true ∧ (u.tile t).win.tsCap = (s.at now).timeWords t ∧
          (u.tile t).win.tsDone = (s.tile t).win.tsDone ∧ SameObjs [] s u ∧ u.traffic = s.traffic)) ∧
      ((s.tile t).win.tsBusy = true →
        Does (.timeSnapDone now t) s (fun u => (u.tile t).win.tsRes = (s.tile t).win.tsCap ∧ (u.tile t).win.tsDone = true ∧ (u.tile t).win.tsBusy = false ∧
          (u.tile t).win.tsSeq = ((s.tile t).win.tsSeq + 1) % 2 ^ 32 ∧ SameObjs [] s u ∧ u.traffic = s.traffic)) ∧
      (s.up t = true →
        Does (.timeSnapDoneClear now t) s (fun u => (u.tile t).win.tsDone = false ∧ (u.tile t).win.tsBusy = (s.tile t).win.tsBusy ∧
          (u.tile t).win.tsRes = (s.tile t).win.tsRes ∧ SameObjs [] s u ∧ u.traffic = s.traffic)) ∧
      (s.up t = true → (s.tile t).win.csBusy = false →
        Does (.cntSnap now t 18) s (fun u => (u.tile t).win.csBusy = true ∧ (u.tile t).win.csSrc = 18 ∧
          (∃ flags time tag, (u.tile t).win.csCap = some ((List.range 64).map (fun i => s.obj (O.EVC_VALUE t i)), flags, time, tag) ∧
            ∀ i, i < 64 → bit flags i = (tget none s.wraps (O.EVC_VALUE t i)).isSome) ∧
          (∀ i, i < 64 → tget none u.wraps (O.EVC_VALUE t i) = none) ∧ SameObjs [] s u)) ∧
      (∀ src, src < 18 → s.up t = true → (s.tile t).win.csBusy = false →
        Does (.cntSnap now t src) s (fun u => (u.tile t).win.csBusy = true ∧ (u.tile t).win.csSrc = src ∧ (u.tile t).win.csCap.isSome = true)) ∧
      (∀ vals flags time tag, (s.tile t).win.csCap = some (vals, flags, time, tag) →
        Does (.cntSnapDone now t) s (fun u => (u.tile t).win.csVals = vals ∧ (u.tile t).win.csWrap = flags ∧ (u.tile t).win.csTime = time ∧
          (u.tile t).win.csTag = tag ∧ (u.tile t).win.csCount = vals.length ∧ (u.tile t).win.csDone = true ∧ (u.tile t).win.csBusy = false ∧
          (u.tile t).win.csSeq = ((s.tile t).win.csSeq + 1) % 2 ^ 32 ∧ SameObjs [] s u ∧ u.traffic = s.traffic)) ∧
      (s.up t = true →
        Does (.cntSnapDoneClear now t) s (fun u => (u.tile t).win.csDone = false ∧ (u.tile t).win.csBusy = (s.tile t).win.csBusy ∧
          (u.tile t).win.csVals = (s.tile t).win.csVals ∧ SameObjs [] s u ∧ u.traffic = s.traffic))) ∧
   (∀ (s : State) (now t : Nat), s.quiet → t < s.variant.tiles →
      (∀ k fid ts tag rest, k < 18 → s.up t = true → s.asleep = false → s.insideWide (18 * t + k) = false → (tget {} s.tsqs (18 * t + k)).entries = (fid, ts, tag) :: rest →
        Does (.tsqPop now t k 8) s (fun u => (tget {} u.tsqs (18 * t + k)).entries = rest ∧ (tget {} u.tsqs (18 * t + k)).ovf = false ∧
          tget 0 (u.tile t).win.popTs k = ts ∧ tget 0 (u.tile t).win.popHead k = popHead (some (fid, ts, tag)) (tget {} s.tsqs (18 * t + k)).ovf rest.length ∧
          u.out = .window t 0 (popHead (some (fid, ts, tag)) (tget {} s.tsqs (18 * t + k)).ovf rest.length) :: s.out ∧ SameObjs [] s u)) ∧
      (∀ x, s.nextResponse (fun r => r == .mailbox t) = some (.mailbox t, x) → s.up t = true → (∀ y ∈ s.afterResponse, y.1 ≠ .mailbox t) →
        Does (.mboxComplete now t) s (fun u => (u.tile t).win.done = true ∧ (u.tile t).win.busy = false ∧ (u.tile t).win.error = x.code ∧
          (u.tile t).win.len = x.data.length ∧ (∀ i, i < x.data.length → tget 0 (u.tile t).win.data i = x.data.getD i 0) ∧
          u.responses = s.responses.erase (.mailbox t, x) ∧ SameObjs [] s u)) ∧
      (s.up t = true →
        Does (.mboxDoneClear now t) s (fun u => (u.tile t).win.done = false ∧ (u.tile t).win.busy = (s.tile t).win.busy ∧
          (u.tile t).win.error = (s.tile t).win.error ∧ SameObjs [] s u ∧ u.traffic = s.traffic)) ∧
      (s.pd t 49 = true → s.up t = true → (s.at now).tbBoundary t = true →
        Does (.timeBusWord now t) s (fun u => u.out = .timeWord t ((s.at now).timeWord t) :: .timeStrobe t :: s.out ∧ (u.tile t).tbSeq = ((s.tile t).tbSeq + 1) % 256 ∧
          SameObjs [] s u ∧ u.traffic = s.traffic)))


/-- An operation that reaches the dictionary is answered: NOP with OK; a read with the object's value, or with the code of the first check that fails; a range read
with how many values follow and the values; and DESCRIBE with the object's descriptor (R110 to R113). -/
def Obligations.DictionaryReads : Prop :=
  ∀ (s : State) (now : Nat) (r : Requester) (idx sub : Nat), s.quiet → idx < 65536 → sub < 256 →
    (s.reaches now ⟨r, 0, 0, 0, [], false, 0⟩ = true →
      Does (.nop now r []) s (fun u => Answered s u r 0 0 [] ∧ SameObjs [] s u ∧ u.tiles = s.tiles ∧ u.datapath = s.datapath)) ∧
    (s.reaches now ⟨r, 1, idx, sub, [], false, 0⟩ = true → (s.askedAt now r).readCheck r (256 * idx + sub) = 0 → ∀ row,
      rowAt s.variant (256 * idx + sub) = some row →
      Does (.read now r idx sub []) s (fun u => Answered s u r 1 0 (natLe ((s.askedAt now r).readValue r row (256 * idx + sub)).1 row.size))) ∧
    (∀ t, t < s.variant.tiles → 256 * idx + sub = O.AFI_STALL_LIMIT t → s.reaches now ⟨r, 1, idx, sub, [], false, 0⟩ = true →
      (s.at now).openFor r 1 = true → (s.at now).up t = true →
      Does (.read now r idx sub []) s (fun u => Answered s u r 1 0 (natLe (s.obj (O.AFI_STALL_LIMIT t)) 4) ∧ SameObjs [] s u ∧ u.tiles = s.tiles ∧
        u.datapath = s.datapath)) ∧
    (s.reaches now ⟨r, 1, idx, sub, [], false, 0⟩ = true → (s.askedAt now r).readCheck r (256 * idx + sub) ≠ 0 →
      Does (.read now r idx sub []) s (fun u => Answered s u r 1 ((s.askedAt now r).readCheck r (256 * idx + sub)) [] ∧ SameObjs [] s u ∧ u.tiles = s.tiles ∧
        u.datapath = s.datapath)) ∧
    (s.reaches now ⟨r, 3, idx, sub, [1], false, 0⟩ = true → (s.askedAt now r).readCheck r (256 * idx + sub) = 0 → ∀ row,
      rowAt s.variant (256 * idx + sub) = some row → row.size ≤ 511 →
      Does (.readRange now r idx sub [1]) s (fun u =>
        Answered s u r 3 0 ([1] ++ natLe ((s.askedAt now r).readValue r row (256 * idx + sub)).1 row.size))) ∧
    (s.reaches now ⟨r, 3, idx, sub, [0], false, 0⟩ = true →
      Does (.readRange now r idx sub [0]) s (fun u => Answered s u r 3 (if (s.askedAt now r).readCheck r (256 * idx + sub) = 0 ∨
          (s.askedAt now r).readCheck r (256 * idx + sub) = 0x0C then 0x05 else (s.askedAt now r).readCheck r (256 * idx + sub)) [] ∧ SameObjs [] s u ∧ u.tiles = s.tiles ∧ u.datapath = s.datapath)) ∧
    (s.reaches now ⟨r, 4, idx, sub, [], false, 0⟩ = true → (s.at now).up (ownerTile s.variant (256 * idx + sub)) = true → ∀ row,
      rowAt s.variant (256 * idx + sub) = some row →
      Does (.describe now r idx sub []) s (fun u => Answered s u r 4 0 (describe s.variant row (256 * idx + sub)) ∧ SameObjs [] s u ∧ u.tiles = s.tiles ∧
        u.datapath = s.datapath))

/-- A write: one that fails a check is answered with its code and changes nothing; one that passes gives its object the value and spoils what other requesters have
staged for it; one of an object that waits for a bring-up shows the value and leaves in force what was; one within the requester's own group is only staged, and one
behind a validated group is held (R13, R109, R113, R125, R128, R130). -/
def Obligations.DictionaryWrites : Prop :=
  ∀ (s : State) (now : Nat) (r : Requester) (idx sub : Nat) (data : Bytes), s.quiet → idx < 65536 → sub < 256 →
    (s.reaches now ⟨r, 2, idx, sub, data, false, 0⟩ = true → (s.askedAt now r).writeCheck r (256 * idx + sub) data ≠ 0 →
      Does (.write now r idx sub data) s (fun u => Answered s u r 2 ((s.askedAt now r).writeCheck r (256 * idx + sub) data) [] ∧ SameObjs [] s u ∧
        u.tiles = s.tiles ∧ u.groups = (s.askedAt now r).groups ∧ u.datapath = s.datapath)) ∧
    (∀ t, t < s.variant.tiles → 256 * idx + sub = O.AFI_STALL_LIMIT t → s.accepts now r (O.AFI_STALL_LIMIT t) data = true →
      Does (.write now r idx sub data) s (fun u => Written s u r ∧ u.obj (O.AFI_STALL_LIMIT t) = leNat data ∧ SameObjs [O.AFI_STALL_LIMIT t] s u ∧
        u.tiles = s.tiles ∧ u.datapath = s.datapath ∧
        (∀ g ∈ u.groups, g.owner ≠ r → g.applyAt = none → ∀ w ∈ g.writes, w.key = O.AFI_STALL_LIMIT t → w.spoiled = true))) ∧
    (∀ p, p < s.variant.ports → 256 * idx + sub = O.FEC_MODE p → s.accepts now r (O.FEC_MODE p) data = true →
      Does (.write now r idx sub data) s (fun u => Written s u r ∧ u.obj (O.FEC_MODE p) = leNat data ∧ u.force (O.FEC_MODE p) = s.force (O.FEC_MODE p) ∧
        SameObjs [O.FEC_MODE p] s u ∧ u.tiles = s.tiles ∧ u.datapath = s.datapath)) ∧
    (∀ t g, t < s.variant.tiles → 256 * idx + sub = O.AFI_STALL_LIMIT t → s.reaches now ⟨r, 2, idx, sub, data, false, 0⟩ = true →
      (s.askedAt now r).stagesElsewhere r none false = false → (s.askedAt now r).writeCheck r (O.AFI_STALL_LIMIT t) data = 0 →
      (s.askedAt now r).openGroup r = some g → g.writes = [] →
      Does (.write now r idx sub data) s (fun u => Answered s u r 2 0 [] ∧ u.openGroup r = some { g with writes := [⟨O.AFI_STALL_LIMIT t, data, false⟩] } ∧
        SameObjs [] s u ∧ u.tiles = s.tiles ∧ u.datapath = s.datapath)) ∧
    (∀ t g, t < s.variant.tiles → 256 * idx + sub = O.AFI_STALL_LIMIT t → s.reaches now ⟨r, 2, idx, sub, data, false, 0⟩ = true →
      (s.askedAt now r).stagesElsewhere r none false = false → (s.askedAt now r).writeCheck r (O.AFI_STALL_LIMIT t) data = 0 →
      (s.askedAt now r).openGroup r = none → (s.askedAt now r).groups = [g] → g.holds (O.AFI_STALL_LIMIT t) = true →
      Does (.write now r idx sub data) s (fun u => u.groups = [{ g with held := g.held ++ [(r, O.AFI_STALL_LIMIT t, data)] }] ∧ u.responses = s.responses ∧
        SameObjs [] s u ∧ u.tiles = s.tiles ∧ u.datapath = s.datapath))

/-- Atomic groups: a requester opens one at a time; an abort, or GROUP_IDLE without an operation, ends it with nothing applied; a commit applies the writes of one tile
at once, fails with GROUP_CONFLICT where another requester has written a staged object, and otherwise waits for a common instant, at which each tile applies its
own (R125, R126, R128, R129). -/
def Obligations.AtomicGroups : Prop :=
  ∀ (s : State) (now : Nat) (r : Requester), s.quiet →
    (s.reaches now ⟨r, 0x10, 0, 0, [], false, 0⟩ = true → (s.askedAt now r).openFor r 2 = true → (s.askedAt now r).openGroup r = none →
      (s.askedAt now r).stagesElsewhere r none false = false →
      Does (.groupOpen now r []) s (fun u => Answered s u r 0x10 0 [] ∧ u.groups = (s.askedAt now r).groups ++ [⟨r, [], max s.now now, none, [], []⟩] ∧
        SameObjs [] s u ∧ u.tiles = s.tiles ∧ u.datapath = s.datapath)) ∧
    (s.reaches now ⟨r, 0x12, 0, 0, [], false, 0⟩ = true → (s.askedAt now r).openFor r 2 = true → (s.askedAt now r).openGroup r ≠ none →
      Does (.groupAbort now r []) s (fun u => Answered s u r 0x12 0 [] ∧ u.openGroup r = none ∧ SameObjs [] s u ∧ u.tiles = s.tiles ∧
        u.datapath = s.datapath)) ∧
    (∀ t g data, t < s.variant.tiles → s.reaches now ⟨r, 0x11, 0, 0, [], false, 0⟩ = true → (s.askedAt now r).openFor r 2 = true →
      (s.askedAt now r).openGroup r = some g → g.writes = [⟨O.AFI_STALL_LIMIT t, data, false⟩] → (s.askedAt now r).groupJudge r g.writes = (0, 0, none) →
      Does (.groupCommit now r []) s (fun u => Answered s u r 0x11 0 [] ∧ u.openGroup r = none ∧ u.obj (O.AFI_STALL_LIMIT t) = leNat data ∧
        SameObjs [O.AFI_STALL_LIMIT t] s u ∧ u.tiles = s.tiles ∧ u.datapath = s.datapath)) ∧
    (∀ g w, s.reaches now ⟨r, 0x11, 0, 0, [], false, 0⟩ = true → (s.askedAt now r).openFor r 2 = true → (s.askedAt now r).openGroup r = some g →
      (s.askedAt now r).groupJudge r g.writes = (0x0F, 0, some w) →
      Does (.groupCommit now r []) s (fun u => Answered s u r 0x11 0x0F (natLe (keyIndex w.key) 2 ++ natLe (keySub w.key) 1) ∧ u.openGroup r = none ∧
        u.obj O.GROUP_CONFLICTS = (s.obj O.GROUP_CONFLICTS + 1) % 2 ^ 64 ∧ SameObjs [O.GROUP_CONFLICTS] s u ∧ u.tiles = s.tiles ∧
        u.datapath = s.datapath)) ∧
    (∀ g, s.reaches now ⟨r, 0x11, 0, 0, [], false, 0⟩ = true → (s.askedAt now r).openFor r 2 = true → (s.askedAt now r).openGroup r = some g →
      (s.askedAt now r).groupJudge r g.writes = (0, 0, none) → 2 ≤ ((s.askedAt now r).groupTiles g.writes).length →
      Does (.groupCommit now r []) s (fun u => u.responses = s.responses ∧ (∃ i, (s.at now).L + 10 * usU ≤ i ∧ i % usU = 0 ∧
        { g with applyAt := some i, left := (s.askedAt now r).groupTiles g.writes } ∈ u.groups) ∧ SameObjs [] s u ∧ u.tiles = s.tiles ∧
        u.datapath = s.datapath)) ∧
    (∀ t g i data, t < s.variant.tiles → s.groups = [g] → g.applyAt = some i → i ≤ (s.at now).L → g.left = [t] → g.held = [] → (s.at now).up t = true →
      g.writes = [⟨O.AFI_STALL_LIMIT t, data, false⟩] → s.relayIn = [] →
      Does (.groupApply now t) s (fun u => u.groups = [] ∧ Answered s u g.owner 0x11 0 [] ∧ u.obj (O.AFI_STALL_LIMIT t) = leNat data ∧
        SameObjs [O.AFI_STALL_LIMIT t] s u ∧ u.tiles = s.tiles ∧ u.datapath = s.datapath)) ∧
    (∀ g, hasRoute s.variant r = true → s.openGroup r = some g → g.lastAt + s.obj O.GROUP_IDLE * msU ≤ max s.now now →
      Does (.groupIdle now r) s (fun u => u.openGroup r = none ∧ u.obj O.GROUP_ABORTS = (s.obj O.GROUP_ABORTS + 1) % 2 ^ 64 ∧
        SameObjs [O.GROUP_ABORTS] s u ∧ u.tiles = s.tiles ∧ u.datapath = s.datapath))

/-- The key state of a window: a challenge makes a new nonce and the one before unusable; a good proof makes the window privileged and counts the key's use; a bad one
is counted, and the fourth in a row locks the window; a lock, or WK_IDLE without a privileged write, takes the privilege away; and a lockout ends after 10 seconds. A
wrapped key that unwraps under slot 0's takes its slot (R118 to R121). -/
def Obligations.WindowKeys : Prop :=
  ∀ (s : State) (now t : Nat) (data : Bytes), s.quiet → t < s.variant.tiles →
    (s.reaches now ⟨.mailbox t, 0x20, 0, 0, [], false, 0⟩ = true →
      Does (.keyChallenge now t []) s (fun u => (u.tile t).key.nonce = some (Config.freeValue s.free % 2 ^ 128) ∧ u.free = s.free + 1 ∧
        Answered s u (.mailbox t) 0x20 0 (natLe (Config.freeValue s.free % 2 ^ 128) 16) ∧ (u.tile t).key.priv = (s.tile t).key.priv ∧ SameObjs [] s u ∧
        u.datapath = s.datapath)) ∧
    (s.reaches now ⟨.mailbox t, 0x21, 0, 0, data, false, 0⟩ = true → byteAt data 0 ≤ 3 → (s.tile t).key.locked = false → s.unlockGood t data = true →
      Does (.keyUnlock now t data) s (fun u => (u.tile t).key.priv = true ∧ (u.tile t).key.nonce = none ∧ (u.tile t).key.fails = 0 ∧
        (u.tile t).key.privAt = max s.now now ∧ u.obj (O.KEY_USES (byteAt data 0)) = (s.obj (O.KEY_USES (byteAt data 0)) + 1) % 2 ^ 32 ∧
        Answered s u (.mailbox t) 0x21 0 [] ∧ SameObjs [O.KEY_USES (byteAt data 0)] s u ∧ u.datapath = s.datapath)) ∧
    (s.reaches now ⟨.mailbox t, 0x21, 0, 0, data, false, 0⟩ = true → byteAt data 0 ≤ 3 → (s.tile t).key.locked = false → s.unlockGood t data = false →
      Does (.keyUnlock now t data) s (fun u => (u.tile t).key.priv = (s.tile t).key.priv ∧ (u.tile t).key.nonce = none ∧
        u.obj O.WK_FAIL = (s.obj O.WK_FAIL + 1) % 2 ^ 64 ∧ Answered s u (.mailbox t) 0x21 0x12 [] ∧
        (if (s.tile t).key.fails < 3 then (u.tile t).key.fails = (s.tile t).key.fails + 1 ∧ (u.tile t).key.locked = false
          else (u.tile t).key.locked = true ∧ (u.tile t).key.lockAt = max s.now now ∧ u.obj O.WK_LOCKOUTS = (s.obj O.WK_LOCKOUTS + 1) % 2 ^ 32) ∧
        SameObjs [O.WK_FAIL, O.WK_LOCKOUTS] s u ∧ u.datapath = s.datapath)) ∧
    (s.reaches now ⟨.mailbox t, 0x21, 0, 0, data, false, 0⟩ = true → byteAt data 0 ≤ 3 → (s.tile t).key.locked = true →
      Does (.keyUnlock now t data) s (fun u => Answered s u (.mailbox t) 0x21 0x13 [] ∧ SameObjs [] s u ∧ u.tiles = s.tiles ∧ u.datapath = s.datapath)) ∧
    (s.reaches now ⟨.mailbox t, 0x22, 0, 0, [], false, 0⟩ = true →
      Does (.keyLock now t []) s (fun u => (u.tile t).key.priv = false ∧ Answered s u (.mailbox t) 0x22 0 [] ∧ SameObjs [] s u ∧
        u.datapath = s.datapath)) ∧
    ((s.tile t).key.priv = true → (s.tile t).key.privAt + s.obj O.WK_IDLE * secU ≤ max s.now now →
      Does (.wkIdleExpiry now t) s (fun u => (u.tile t).key.priv = false ∧ u.responses = s.responses ∧ SameObjs [] s u ∧ u.datapath = s.datapath)) ∧
    ((s.tile t).key.locked = true → (s.tile t).key.lockAt + 10 * secU ≤ max s.now now →
      Does (.keyLockoutEnd now t) s (fun u => (u.tile t).key.locked = false ∧ u.responses = s.responses ∧ SameObjs [] s u ∧ u.datapath = s.datapath)) ∧
    (∀ r k, k < 4 → s.accepts now r (O.KEY_WRAPPED k) data = true →
      Does (.keyWrappedWrite now r k data) s (fun u => Written s u r ∧ unwrapKey (s.keyOf 0) data = some (u.keyOf k) ∧
        (∀ j, j ≠ k → u.keyOf j = s.keyOf j) ∧ SameObjs [] s u))

/-- The sessions of a client: the exchange opens with a node nonce; a proof under the slot's key opens the session with the role of its slot, and a wrong one ends the
exchange; a close, or ZW_SESSION_IDLE without a message, ends the session (R138, R140). -/
def Obligations.Sessions : Prop :=
  ∀ (s : State) (now : Nat) (r sid : Requester) (data : Bytes), s.quiet → sessionId r = some sid →
    (s.reaches now ⟨r, 0x40, 0, 0, data, false, 0⟩ = true → byteAt data 0 ≤ 3 → bit (s.obj (O.KEY_ROLE (byteAt data 0))) (routeRole sid) = true →
      s.sessionOf sid = none → s.sessions.length < 4 →
      Does (.sessionOpen now r data) s (fun u => Answered s u (outside sid) 0x41 0 (natLe (Config.freeValue s.free % 2 ^ 64) 8) ∧
        u.challengeOf sid = some ⟨byteAt data 0, slice data 1 8, natLe (Config.freeValue s.free % 2 ^ 64) 8⟩ ∧ u.free = s.free + 1 ∧ SameObjs [] s u ∧
        u.tiles = s.tiles ∧ u.datapath = s.datapath)) ∧
    (∀ c, s.reaches now ⟨r, 0x42, 0, 0, data, true, 1⟩ = true → s.challengeOf sid = some c → data = tag8 (s.sessionKey sid c) (c.nc ++ c.nn) →
      s.sessionOf sid = none → s.sessions.length < 4 →
      Does (.sessionProve now r true 1 data) s (fun u => Answered s u sid 0x43 0 (natLe (s.obj (O.KEY_ROLE c.slot)) 1) ∧ u.challengeOf sid = none ∧
        u.sessionOf sid = some ⟨c.slot, s.sessionKey sid c, 1, 0, 0, max s.now now⟩ ∧
        u.obj (O.KEY_USES c.slot) = (s.obj (O.KEY_USES c.slot) + 1) % 2 ^ 32 ∧ SameObjs [O.KEY_USES c.slot] s u ∧ u.tiles = s.tiles ∧
        u.datapath = s.datapath)) ∧
    (∀ c auth fresh, s.reaches now ⟨r, 0x42, 0, 0, data, auth, fresh⟩ = true → s.challengeOf sid = some c →
      (auth = false ∨ fresh ≠ 1 ∨ data ≠ tag8 (s.sessionKey sid c) (c.nc ++ c.nn)) →
      Does (.sessionProve now r auth fresh data) s (fun u => Answered s u (outside sid) 0x42 0x12 [] ∧ u.challengeOf sid = none ∧ SameObjs [] s u ∧
        u.tiles = s.tiles ∧ u.datapath = s.datapath)) ∧
    (s.reaches now ⟨r, 0x44, 0, 0, [], false, 0⟩ = true → s.sessionOf sid ≠ none → s.openGroup sid = none → s.etch = none →
      Does (.sessionClose now r []) s (fun u => Answered s u r 0x44 0 [] ∧ u.sessionOf sid = none ∧ SameObjs [] s u ∧ u.tiles = s.tiles ∧
        u.datapath = s.datapath)) ∧
    (∀ x, s.sessionOf sid = some x → x.lastAt + s.obj O.ZW_SESSION_IDLE * secU ≤ max s.now now → s.etch = none →
      Does (.zwSessionIdle now r) s (fun u => u.sessionOf sid = none ∧ u.openGroup sid = none ∧
        u.obj O.GROUP_ABORTS = (if s.openGroup sid = none then s.obj O.GROUP_ABORTS else (s.obj O.GROUP_ABORTS + 1) % 2 ^ 64) ∧
        SameObjs [O.GROUP_ABORTS] s u ∧ u.responses = s.responses ∧ u.tiles = s.tiles ∧ u.datapath = s.datapath))

/-- The field bus: a request whole in one fragment is carried out for its client; a request that waits 10 ms for a fragment is discarded and answered FRAG; a response
leaves in as many frames as its data needs; a heartbeat that is due is sent; and a return from bus-off is counted. In-band management: a management frame at an ACTIVE port
within the port's rate becomes a request of its client; one beyond the rate is dropped and counted; and a response takes its request out of the list and leaves for the
port the request came from (R131 to R137, R141 to R145). -/
def Obligations.FieldBusAndInBand : Prop :=
   (∀ (s : State) (now c : Nat), s.quiet → 0 < c → c < 127 →
      (∀ msg, (s.at now).zwOn = true → msg.length = 64 → byteAt msg 0 = c → byteAt msg 2 = 0 → byteAt msg 6 = 128 → byteAt msg 7 = 0 → s.zwReqs = [] →
        s.responses.all (fun x => !isZw c x.1) = true →
        s.reaches now ⟨.zwClient c, 0, leAt msg 4 2, byteAt msg 3, [], false, leAt msg 0x30 4⟩ = true →
        Does (.zwFragment now (4 * 128 + s.node) msg) s (fun u => Answered s u (.zwClient c) 0 0 [] ∧ (u.zwReqs.map (fun q => (q.client, q.seq, q.whole))) =
          [(c, byteAt msg 1, true)] ∧ SameObjs [] s u ∧ u.tiles = s.tiles)) ∧
      (∀ msg, (s.at now).zwOn = true → msg.length = 64 → byteAt msg 0 = 128 + c → byteAt msg 2 ≠ 0x42 → s.sessionOf (.zwSession c) = none →
        Does (.zwFragment now (4 * 128 + s.node) msg) s (fun u => u.obj O.ZW_TAG_FAIL = (s.obj O.ZW_TAG_FAIL + 1) % 2 ^ 64 ∧ SameObjs [O.ZW_TAG_FAIL] s u ∧
          u.responses = s.responses ∧ u.tiles = s.tiles ∧ u.datapath = s.datapath)) ∧
      (∀ q, s.zwPartial c = some q → q.lastAt + 10 * msU < max s.now now → q.auth = false →
        Does (.zwFragTimeout now c) s (fun u => Answered s u (.zwClient c) q.op 0x16 [] ∧ u.obj O.ZW_FRAG_FAIL = (s.obj O.ZW_FRAG_FAIL + 1) % 2 ^ 64 ∧
          u.zwPartial c = none ∧ SameObjs [O.ZW_FRAG_FAIL] s u ∧ u.tiles = s.tiles)) ∧
      (∀ q x, s.zwReqs = [q] → q.client = c → q.whole = true → q.op = x.op → x.op < 64 → s.responses = [(.zwClient c, x)] → x.data.length ≤ 38 →
        (s.at now).zwOn = true → s.sessionOf (.zwClient c) = none → s.sessionOf (.zwSession c) = none → s.afterResponse = [] →
        Does (.zwResponseSend now c) s (fun u => u.out =
            .zwiwa (5 * 128 + s.node) ((ZwMsg.mk false c q.seq x.op q.sub q.idx true 0 x.code x.data 0).bytes []) :: s.out ∧ u.responses = [] ∧ u.zwReqs = [] ∧
          SameObjs [] s u ∧ u.tiles = s.tiles)) ∧
      ((s.at now).zwOn = true → (s.at now).heartbeatDue = true →
        Does (.heartbeat now) s (fun u => u.out = .zwiwa (7 * 128 + s.node) (({ data := s.heartbeatData } : ZwMsg).bytes []) :: s.out ∧
          u.hbLast = some s.heartbeatData ∧ u.hbAt = max s.now now ∧ SameObjs [] s u ∧ u.tiles = s.tiles)) ∧
      ((s.at now).zwOn = true →
        Does (.busOffRecovery now) s (fun u => u.obj O.ZW_BUS_OFF = (s.obj O.ZW_BUS_OFF + 1) % 2 ^ 32 ∧ SameObjs [O.ZW_BUS_OFF] s u ∧ u.tiles = s.tiles ∧
          u.traffic = s.traffic))) ∧
   (∀ (s : State) (now p c : Nat), s.quiet → p < s.variant.ports → 0 < c → c < 127 →
      (∀ fr, (s.at now).up 0 = true → takenKind s.mgmt ({ data := fr, src := FrameSrc.port p } : Frame) = 3 → s.link p = 6 → 
        ((s.port p).mgmtAt.filter (fun i => Nat.blt (max s.now now) (i + secU))).length < s.obj O.INBAND_RATE → s.ibReqs = [] → byteAt (mgmtParts fr).2 0 = 1 → byteAt (mgmtParts fr).2 1 % 16 = 4 →
        byteAt (mgmtParts fr).2 2 = s.node → byteAt (mgmtParts fr).2 4 = c → byteAt (mgmtParts fr).2 6 = 4 → leAt (mgmtParts fr).2 0x0A 2 = 0 →
        26 ≤ (mgmtParts fr).2.length → s.sessionOf (.ibSession c) = none →
        s.reaches now ⟨.ibClient c, 4, leAt (mgmtParts fr).2 8 2, byteAt (mgmtParts fr).2 7, [], false, leAt (mgmtParts fr).2 0x0E 4⟩ = true →
        Does (.inbandFrame now p fr) s (fun u => (u.port p).mgmtAt = max s.now now :: (s.port p).mgmtAt.filter (fun i => Nat.blt (max s.now now) (i + secU)) ∧
          (∃ q, u.ibReqs = [q] ∧ q.client = c ∧ q.seq = byteAt (mgmtParts fr).2 5 ∧ q.port = p) ∧
          (∃ x, u.responses = s.responses ++ [(.ibClient c, x)] ∧ x.op = 4) ∧ SameObjs [] s u ∧ u.tiles = s.tiles)) ∧
      (∀ fr, (s.at now).up 0 = true → takenKind s.mgmt ({ data := fr, src := FrameSrc.port p } : Frame) = 3 → s.link p = 6 →
        s.obj O.INBAND_RATE ≤ ((s.port p).mgmtAt.filter (fun i => Nat.blt (max s.now now) (i + secU))).length →
        Does (.inbandFrame now p fr) s (fun u => u.obj O.INBAND_DROP = (s.obj O.INBAND_DROP + 1) % 2 ^ 64 ∧ SameObjs [O.INBAND_DROP] s u ∧
          u.ibReqs = s.ibReqs ∧ u.responses = s.responses ∧ u.tiles = s.tiles ∧ u.traffic = s.traffic)) ∧
      (∀ q x, s.nextResponse (isIb c) = some (.ibClient c, x) → s.ibReqs = [q] → q.client = c → q.op = x.op → s.afterResponse = [] →
        s.sessionOf (.ibClient c) = none → s.sessionOf (.ibSession c) = none →
        Does (.inbandResponse now c) s (fun u => u.ibReqs = [] ∧ u.responses = s.responses.erase (.ibClient c, x))))

/-- The aggregator of a tile handles its oldest report: a suppressed one is only counted; a fatal one becomes a record at once; one with the key of an open entry merges
into it while its window from its first report lasts and no time base was changed; and another opens an entry, or is lost and counted where all 256 are in use (R600 to R603). -/
def Obligations.EventReports : Prop :=
  ∀ (s : State) (now t : Nat) (r : Report) (rest : List Report), s.quiet → t < s.variant.tiles → (s.tile t).reports = r :: rest →
    (r.suppressed = true →
      Does (.eventReport now t) s (fun u => (u.tile t).reports = rest ∧ (u.tile t).agg = (s.tile t).agg ∧
        u.obj (O.AGG_SUPPRESSED t) = (s.obj (O.AGG_SUPPRESSED t) + 1) % 2 ^ 64 ∧ SameObjs [O.AGG_SUPPRESSED t] s u ∧ u.traffic = s.traffic)) ∧
    (r.suppressed = false → r.sev ≠ 3 → s.openOf t r.kind r.cls r.src = none → (s.tile t).agg.length < 256 →
      Does (.eventReport now t) s (fun u => (u.tile t).reports = rest ∧ (u.tile t).agg = (s.tile t).agg ++
          [⟨r.kind, r.cls, r.src, r.sev, 1, r.ts, r.ts, r.tag, r.root, r.born, s.obj (O.AGG_WINDOW t) * usU, false⟩] ∧ SameObjs [] s u ∧
        u.traffic = s.traffic)) ∧
    (r.suppressed = false → r.sev ≠ 3 → s.openOf t r.kind r.cls r.src = none → 256 ≤ (s.tile t).agg.length →
      Does (.eventReport now t) s (fun u => (u.tile t).reports = rest ∧ (u.tile t).agg = (s.tile t).agg ∧
        u.obj (O.EVT_RING_DROP t) = (s.obj (O.EVT_RING_DROP t) + 1) % 2 ^ 64 ∧ SameObjs [O.EVT_RING_DROP t] s u ∧ u.traffic = s.traffic)) ∧
    (∀ e, r.suppressed = false → r.sev ≠ 3 → s.openOf t r.kind r.cls r.src = some e → e.tag / 16 = r.tag / 16 → r.born < e.openAt + e.window →
      Does (.eventReport now t) s (fun u => (u.tile t).reports = rest ∧ { e with count := e.count + 1, last := r.ts } ∈ (u.tile t).agg ∧
        (u.tile t).agg.length = (s.tile t).agg.length ∧ u.obj (O.AGG_MERGED t) = (s.obj (O.AGG_MERGED t) + 1) % 2 ^ 64 ∧
        SameObjs [O.AGG_MERGED t] s u ∧ u.traffic = s.traffic)) ∧
    (∀ e, r.suppressed = false → r.sev ≠ 3 → s.openOf t r.kind r.cls r.src = some e → (e.tag / 16 ≠ r.tag / 16 ∨ e.openAt + e.window ≤ r.born) →
        (s.tile t).agg.length < 256 →
      Does (.eventReport now t) s (fun u => (u.tile t).reports = rest ∧ (u.tile t).agg.getLast? =
          some ⟨r.kind, r.cls, r.src, r.sev, 1, r.ts, r.ts, r.tag, r.root, r.born, s.obj (O.AGG_WINDOW t) * usU, false⟩ ∧ SameObjs [] s u ∧
        u.traffic = s.traffic)) ∧
    (r.suppressed = false → r.sev = 3 → s.flag (O.EVT_ENABLE t) = true → s.ringRoom t = true → (s.tile t).evt.holdoff = false →
      Does (.eventReport now t) s (fun u => (u.tile t).reports = rest ∧ (u.tile t).agg = (s.tile t).agg ∧
        u.obj (O.EVT_PRODUCER t) = (s.obj (O.EVT_PRODUCER t) + 1) % 2 ^ 32 ∧ (u.tile t).evt.holdoff = true ∧ SameObjs [O.EVT_PRODUCER t] s u ∧
        u.traffic = s.traffic))

/-- An entry closes after AGG_WINDOW and is written once the ring has room, with the record's body before its header, the producer index one further, and a message
unless the hold-off runs; at the hold-off's end the message owed is sent; and a root that starts or ends on one tile does so on another when it reaches it
(R91 to R94, R600, R602, R603). -/
def Obligations.EventRecords : Prop :=
  ∀ (s : State) (now t : Nat), s.quiet → t < s.variant.tiles →
    (∀ kind cls src e, s.openOf t kind cls src = some e → e.openAt + e.window ≤ max s.now now → s.flag (O.EVT_ENABLE t) = true → s.flag O.ZW_ENABLE = false →
      Does (.aggEntryClose now t kind cls src) s (fun u => (u.tile t).agg = (s.tile t).agg.map (fun y => if y = e then { y with closed := true } else y) ∧
        u.out = s.out ∧ SameObjs [] s u ∧ u.traffic = s.traffic)) ∧
    (∀ kind cls src e, s.openOf t kind cls src = some e → e.openAt + e.window ≤ max s.now now → (s.at now).zwOn = true → e.sev ≠ 3 →
      s.obj O.ZW_EVENT_MIN ≤ e.sev →
      Does (.aggEntryClose now t kind cls src) s (fun u => u.out = .zwiwa (6 * 128 + s.node) (({ data := s.record t e } : ZwMsg).bytes []) :: s.out ∧
        SameObjs [] s u ∧ u.traffic = s.traffic)) ∧
    (∀ e rest, oldestClosed (s.tile t).agg = some (e, rest) → s.flag (O.EVT_ENABLE t) = true → s.ringRoom t = true → (s.tile t).evt.holdoff = false →
      Does (.evtRecordWrite now t) s (fun u => (u.tile t).agg = rest ∧ u.obj (O.EVT_PRODUCER t) = (s.obj (O.EVT_PRODUCER t) + 1) % 2 ^ 32 ∧
        u.out = [.message t (s.tile t).evt.rid (s.obj (O.EVT_MSI_ADDR t)) (s.obj (O.EVT_MSI_DATA t)),
          .eventWrite t (s.tile t).evt.rid ((s.tile t).evt.base + 32 * (s.obj (O.EVT_PRODUCER t) % (s.tile t).evt.size)) ((s.record t e).take 4),
          .eventWrite t (s.tile t).evt.rid ((s.tile t).evt.base + 32 * (s.obj (O.EVT_PRODUCER t) % (s.tile t).evt.size) + 4) ((s.record t e).drop 4)] ++ s.out ∧
        (u.tile t).evt.holdoff = true ∧ (u.tile t).evt.endAt = max s.now now + s.obj (O.EVT_HOLDOFF t) * usU ∧ SameObjs [O.EVT_PRODUCER t] s u ∧
        u.traffic = s.traffic)) ∧
    (∀ e rest, oldestClosed (s.tile t).agg = some (e, rest) → s.ringRoom t = false →
      Does (.evtRecordWrite now t) s (fun u => u.tiles = s.tiles ∧ u.out = s.out ∧ SameObjs [] s u ∧ u.traffic = s.traffic)) ∧
    ((s.tile t).evt.holdoff = true → (s.tile t).evt.endAt ≤ max s.now now →
      Does (.evtHoldoffEnd now t) s (fun u => (u.tile t).evt.owed = false ∧ (u.tile t).evt.holdoff = (s.tile t).evt.owed ∧
        u.out = (if (s.tile t).evt.owed then [.message t (s.tile t).evt.rid (s.obj (O.EVT_MSI_ADDR t)) (s.obj (O.EVT_MSI_DATA t))] else []) ++ s.out ∧
        SameObjs [] s u ∧ u.traffic = s.traffic)) ∧
    (∀ src kind cls sid r, src < s.variant.tiles → src ≠ t →
      (s.tile src).roots.find? (fun r => r.tile == src && r.kind == kind && r.cls == cls && r.src == sid) = some r → r.stopAt = none →
      Does (.rootDistribute now t src kind cls sid true) s (fun u => ⟨src, kind, cls, sid, none⟩ ∈ (u.tile t).roots ∧ SameObjs [] s u ∧
        u.traffic = s.traffic)) ∧
    (∀ src kind cls sid i, src < s.variant.tiles → src ≠ t →
      (s.tile src).roots.find? (fun r => r.tile == src && r.kind == kind && r.cls == cls && r.src == sid) = some ⟨src, kind, cls, sid, some i⟩ →
      Does (.rootDistribute now t src kind cls sid false) s (fun u =>
        (∀ r ∈ (u.tile t).roots, r.tile = src → r.kind = kind → r.cls = cls → r.src = sid → r.stopAt ≠ none) ∧ SameObjs [] s u ∧ u.traffic = s.traffic)) ∧
    (∀ r data, s.accepts now r (O.EVT_ENABLE t) data = true → leNat data = 1 →
      Does (.evtEnableWrite now r t data) s (fun u => Written s u r ∧ u.obj (O.EVT_ENABLE t) = 1 ∧ u.obj (O.EVT_PRODUCER t) = 0 ∧
        (u.tile t).evt.base = s.obj (O.EVT_RING_BASE t) ∧ (u.tile t).evt.size = s.obj (O.EVT_RING_SIZE t) ∧ (u.tile t).evt.rid = s.obj (O.EVT_RID t) ∧
        SameObjs [O.EVT_ENABLE t, O.EVT_PRODUCER t] s u ∧ u.datapath = s.datapath)) ∧
    (∀ r data, s.accepts now r (O.EVT_ENABLE t) data = true → leNat data = 0 →
      Does (.evtEnableWrite now r t data) s (fun u => Written s u r ∧ u.obj (O.EVT_ENABLE t) = 0 ∧ (∀ e ∈ (u.tile t).agg, e.closed = false) ∧
        SameObjs [O.EVT_ENABLE t] s u ∧ u.datapath = s.datapath))

/-- The detectors of a lane: an amplitude below its threshold for its time, or two bad windows of the clock recovery, show as loss of signal or of lock, count and, on
a lane in use, are reported; a supply below 92 % of its nominal for 1 µs faults the lanes; the loss takes an ACTIVE port down, to RX_DETECT once LINK_STABLE has
passed and else to BACKOFF with LINK_FLAP; and when it ends the lane shows that (R162 to R167, R185, R657). -/
def Obligations.LaneDetectors : Prop :=
  ∀ (s : State) (now l : Nat), s.quiet → l < s.variant.ports → (∀ p, s.portOf l = some p → p < s.variant.ports) →
    (∀ mv ns, s.obj (O.LANE_STATE l) ≠ 0 → s.los l = false → mv < s.obj (O.LOS_ASSERT_MV l) → losTime (s.obj (O.LOS_ASSERT_TIME l)) ≤ ns →
      Does (.laneLosAssert now l mv ns) s (fun u => u.obj (O.LOS_STATE l) = 1 ∧ u.obj (O.LOS_COUNT l) = (s.obj (O.LOS_COUNT l) + 1) % 2 ^ 64 ∧
        (s.obj (O.LANE_STATE l) ≠ 5 → u.obj (O.LOL_STATE l) = 1 ∧ u.obj (O.SNR_NOW l) = 0) ∧
        (lanesReport (s.obj (O.LANE_STATE l)) = true → ∃ r ∈ (u.tile (tileOf l)).reports, r.kind = 0x20 ∧ r.cls = 2 ∧ r.src = l))) ∧
    (∀ p mv ns, s.portOf l = some p → s.obj (O.LANE_STATE l) = 4 → s.los l = false → mv < s.obj (O.LOS_ASSERT_MV l) →
      losTime (s.obj (O.LOS_ASSERT_TIME l)) ≤ ns → s.link p = 6 → s.isSpan p = false → l - p < s.obj (O.WIDTH_NOW p) →
      Does (.laneLosAssert now l mv ns) s (fun u => u.obj (O.LINK_DOWNS p) = (s.obj (O.LINK_DOWNS p) + 1) % 2 ^ 64 ∧
        (if (s.port p).activeAt + s.obj (O.LINK_STABLE p) * msU ≤ max s.now now then u.link p = 1 ∧ u.obj (O.ATTEMPTS p) = 0
          else u.link p = 7 ∧ u.obj (O.LAST_FAIL p) = 10 ∧ u.obj (O.ATTEMPTS p) = (s.obj (O.ATTEMPTS p) + 1) % 2 ^ 32))) ∧
    (∀ mv ns, s.obj (O.LANE_STATE l) = 0 ∨ s.los l = true ∨ s.obj (O.LOS_ASSERT_MV l) ≤ mv ∨ ns < s.obj (O.LOS_ASSERT_TIME l) →
      Does (.laneLosAssert now l mv ns) s (fun u => SameObjs [] s u ∧ u.tiles = s.tiles ∧ u.lanes = s.lanes ∧ u.traffic = s.traffic)) ∧
    (∀ mv ns, s.obj (O.LANE_STATE l) ≠ 0 → s.los l = true → s.obj (O.LOS_DEASSERT_MV l) ≤ mv → losTime (s.obj (O.LOS_DEASSERT_TIME l)) ≤ ns →
      Does (.laneLosDeassert now l mv ns) s (fun u => u.obj (O.LOS_STATE l) = 0 ∧
        (∀ r ∈ (u.tile (tileOf l)).roots, r.kind = 0x20 → r.src = l → r.stopAt ≠ none))) ∧
    (∀ ws, lanesReport (s.obj (O.LANE_STATE l)) = true → s.los l = false → s.lol l = false → lastWindows 2 (s.windowBad l) ws = true →
      Does (.laneLolAssert now l ws) s (fun u => u.obj (O.LOL_STATE l) = 1 ∧ u.obj (O.SNR_NOW l) = 0 ∧
        u.obj (O.LOL_COUNT l) = (s.obj (O.LOL_COUNT l) + 1) % 2 ^ 64 ∧ (∃ r ∈ (u.tile (tileOf l)).reports, r.kind = 0x21 ∧ r.cls = 2 ∧ r.src = l))) ∧
    (∀ ws, lanesReport (s.obj (O.LANE_STATE l)) = true → s.los l = false → s.lol l = true → lastWindows 8 (fun w => !s.windowBad l w) ws = true →
      Does (.laneLolDeassert now l ws) s (fun u => u.obj (O.LOL_STATE l) = 0 ∧ (u.lane l).lolClearAt = max s.now now)) ∧
    (∀ snr start, snr < 65536 → s.lol l = false → (s.lane l).lostAt = none →
      Does (.snrWindowEnd now l snr start) s (fun u => u.obj (O.SNR_NOW l) = snr ∧ u.obj (O.SNR_MIN l) = min (s.obj (O.SNR_MIN l)) snr)) ∧
    (∀ hv mv ns, (if hv then 1200 else 900) * 92 ≤ mv * 100 ∨ ns < 1000 →
      Does (.laneSupplyDip now hv mv ns) s (fun u => SameObjs [] s u ∧ u.tiles = s.tiles ∧ u.lanes = s.lanes ∧ u.traffic = s.traffic)) ∧
    (∀ hv mv ns, mv * 100 < (if hv then 1200 else 900) * 92 → 1000 ≤ ns → Does (.laneSupplyDip now hv mv ns) s (fun u => (∀ i, i < s.variant.ports → s.portOf i ≠ none →
        u.obj (O.LANE_STATE i) = 7 ∧ u.obj (O.LANE_FAULT_CAUSE i) = 3) ∧ (∀ p, p < s.variant.ports → u.link p ≠ 6)))

/-- The receiver and transmitter of a lane: an adaptation update shows its taps within their ranges; a codeword counts the symbols corrected on each lane, or itself as
uncorrectable; the counts are cleared on request; the fixed taps take effect at once where they are in force; the checker starts anew when it is written, locks on
64 clean symbols of its pattern and drops lock on 1,024 errors in 65,536 bits; and a loop or a pattern stops the port's bring-up (R151, R154, R157, R158, R168 to R170, R173 to R176). -/
def Obligations.LaneControls : Prop :=
  ∀ (s : State) (now l : Nat), s.quiet → l < s.variant.ports →
    (∀ ctle ffe dfe, s.lol l = false → (s.lane l).frozen = false → s.obj (O.LANE_STATE l) ∈ [3, 4, 5, 6] →
      Does (.adaptUpdate now l ctle ffe dfe) s (fun u => u.obj (O.RX_CTLE l) = min ctle 15 ∧
        u.obj (O.RX_FFE l) = ffeBytes (isPam4 (s.obj (O.LANE_MODE l))) ffe ∧ u.obj (O.RX_DFE l) = ofS 32 (clampI (-64) 63 dfe) ∧
        (u.lane l).frozen = (s.obj (O.RX_ADAPT l) == 1) ∧
        (s.obj (O.LANE_STATE l) = 4 → (∀ p, s.portOf l = some p → s.link p ≠ 2) →
          SameObjs [O.RX_CTLE l, O.RX_FFE l, O.RX_DFE l] s u ∧ u.traffic = s.traffic))) ∧
    (∀ n, s.rsFec l = true → 0 < (s.mode l).width →
      Does (.fecCodeword now l [⟨0, n⟩] false) s (fun u => u.obj (O.FEC_HIST l (min n 15)) = (s.obj (O.FEC_HIST l (min n 15)) + 1) % 2 ^ 64 ∧
        u.obj (O.FEC_SYM_CORR l) = (s.obj (O.FEC_SYM_CORR l) + n) % 2 ^ 64 ∧ SameObjs [O.FEC_HIST l (min n 15), O.FEC_SYM_CORR l] s u ∧
        u.traffic = s.traffic)) ∧
    (∀ n, s.rsFec l = true → 0 < (s.mode l).width → s.isSpan l = false →
      Does (.fecCodeword now l [⟨0, n⟩] true) s (fun u => u.obj (O.FEC_HIST_UNCORR l) = (s.obj (O.FEC_HIST_UNCORR l) + 1) % 2 ^ 64 ∧
        SameObjs [O.FEC_HIST_UNCORR l] s u ∧ u.traffic = s.traffic)) ∧
    (∀ r, s.accepts now r (O.HIST_CLEAR l) [1] = true →
      Does (.histClear now r l [1]) s (fun u => Written s u r ∧ (∀ i, i < 16 → u.obj (O.FEC_HIST l i) = 0) ∧ u.obj (O.FEC_HIST_UNCORR l) = 0 ∧
        u.obj (O.FEC_SYM_CORR l) = 0 ∧ u.obj (O.SNR_MIN l) = 0xFFFF ∧ u.lanes = s.lanes ∧ u.datapath = s.datapath)) ∧
    (∀ r data, s.accepts now r (O.TX_FIR_FIXED l) data = true →
      Does (.txFirFixedWrite now r l data) s (fun u => Written s u r ∧ u.obj (O.TX_FIR_FIXED l) = leNat data ∧
        u.obj (O.TX_FIR_NOW l) = (if s.force (O.TX_FIR_MODE l) = 1 ∧ s.obj (O.LANE_STATE l) ≠ 0 then leNat data else s.obj (O.TX_FIR_NOW l)) ∧
        SameObjs [O.TX_FIR_FIXED l, O.TX_FIR_NOW l] s u ∧ u.datapath = s.datapath)) ∧
    (∀ r data, s.accepts now r (O.LOOP l) data = true → s.portUp l = true → 0 < (s.mode l).width → leNat data ≠ 0 →
      Does (.loopWrite now r l data) s (fun u => Written s u r ∧ (∀ i ∈ s.lanesOf l, u.obj (O.LOOP i) = leNat data) ∧ u.link l = 0)) ∧
    (∀ r data p, s.accepts now r (O.TX_PATTERN l) data = true → s.portOf l = some p → p < s.variant.ports → s.portUp p = true → l ∈ s.lanesOf p → leNat data ≠ 0 →
      Does (.txPatternWrite now r l data) s (fun u => Written s u r ∧ u.obj (O.TX_PATTERN l) = leNat data ∧ u.link p = 0)) ∧
    (∀ r data, s.accepts now r (O.RX_CHECKER l) data = true →
      Does (.rxCheckerWrite now r l data) s (fun u => Written s u r ∧ u.obj (O.RX_CHECKER l) = leNat data ∧ u.obj (O.CHK_LOCK l) = 0 ∧
        u.obj (O.CHK_ERRORS l) = 0 ∧ u.obj (O.CHK_BITS l) = 0 ∧ SameObjs [O.RX_CHECKER l, O.CHK_LOCK l, O.CHK_ERRORS l, O.CHK_BITS l] s u ∧
        u.datapath = s.datapath)) ∧
    (∀ levels, s.obj (O.RX_CHECKER l) ≠ 0 → checkerClean (s.obj (O.RX_CHECKER l)) (s.lane l).rxInverted levels = true →
      Does (.chkLockGain now l levels) s (fun u => u.obj (O.CHK_LOCK l) = 1 ∧ SameObjs [O.CHK_LOCK l] s u ∧ u.lanes = s.lanes ∧ u.traffic = s.traffic)) ∧
    (∀ bits errs within, s.obj (O.CHK_LOCK l) = 1 →
      Does (.chkLockLoss now l bits errs within) s (fun u => u.obj (O.CHK_LOCK l) = (if 1024 ≤ within ∧ within ≤ 65536 then 0 else 1) ∧ u.obj (O.CHK_BITS l) = (s.obj (O.CHK_BITS l) + bits) % 2 ^ 64 ∧
        u.obj (O.CHK_ERRORS l) = (s.obj (O.CHK_ERRORS l) + errs) % 2 ^ 64 ∧ SameObjs [O.CHK_LOCK l, O.CHK_BITS l, O.CHK_ERRORS l] s u ∧
        u.lanes = s.lanes ∧ u.traffic = s.traffic))

/-- Deep rest: the entry is requested, counted and completes; an exit locks the PLL, calibrates and trains, or leaves the lane off while its port is; each of three PLL attempts may last 500 microseconds, and the
third late one faults the lane (R178 to R181). -/
def Obligations.DeepRest : Prop :=
  ∀ (s : State) (now l : Nat), s.quiet → l < s.variant.ports →
    (∀ r, s.accepts now r (O.LANE_REST l) [1] = true → (s.lane l).restPhase = .out → s.obj (O.LANE_STATE l) ≠ 7 →
      Does (.laneRestEnter now r l) s (fun u => Written s u r ∧ u.obj (O.LANE_REST l) = 1 ∧ u.obj (O.LANE_STATE l) = 1 ∧
        u.obj (O.REST_ENTRIES l) = (s.obj (O.REST_ENTRIES l) + 1) % 2 ^ 32 ∧ (u.lane l).restPhase = .entering ∧ u.datapath = s.datapath)) ∧
    ((s.lane l).restPhase = .entering → (s.lane l).restHeld ≠ some false →
      Does (.laneRestEntryDone now l) s (fun u => (u.lane l).restPhase = .rest ∧ SameObjs [] s u ∧ u.traffic = s.traffic)) ∧
    ((s.lane l).restPhase = .entering → (s.lane l).restHeld = some false →
      Does (.laneRestEntryDone now l) s (fun u => (u.lane l).restPhase = .pll ∧ (u.lane l).pllTries = 1 ∧ u.obj (O.LANE_STATE l) = 2 ∧
        SameObjs [O.LANE_STATE l, O.LOL_STATE l, O.SNR_NOW l] s u ∧ u.traffic = s.traffic)) ∧
    (∀ r, s.accepts now r (O.LANE_REST l) [0] = true → (s.lane l).restPhase = .rest →
      Does (.laneRestExit now r l) s (fun u => Written s u r ∧ u.obj (O.LANE_REST l) = 0 ∧ (u.lane l).restPhase = .pll ∧ (u.lane l).pllTries = 1 ∧
        u.obj (O.LANE_STATE l) = 2 ∧ SameObjs [O.LANE_REST l, O.LANE_STATE l, O.LOL_STATE l, O.SNR_NOW l] s u ∧
        u.datapath = s.datapath)) ∧
    ((s.lane l).restPhase = .pll → (s.lane l).restHeld = none →
      Does (.lanePllLock now l) s (fun u => (u.lane l).restPhase = .cal ∧ SameObjs [] s u ∧ u.traffic = s.traffic)) ∧
    ((s.lane l).restPhase = .pll → (s.lane l).restHeld = none → (s.lane l).restAt + 500 * usU ≤ max s.now now → (s.lane l).pllTries < 3 →
      Does (.lanePllTimeout now l) s (fun u => (u.lane l).restPhase = .pll ∧ (u.lane l).pllTries = (s.lane l).pllTries + 1 ∧ SameObjs [] s u)) ∧
    ((s.lane l).restPhase = .pll → (s.lane l).restHeld = none → (s.lane l).restAt + 500 * usU ≤ max s.now now → 3 ≤ (s.lane l).pllTries →
      Does (.lanePllTimeout now l) s (fun u => (u.lane l).restPhase = .out ∧ u.obj (O.LANE_STATE l) = 7 ∧ u.obj (O.LANE_FAULT_CAUSE l) = 1 ∧
        u.obj (O.REST_EXIT_FAIL l) = (s.obj (O.REST_EXIT_FAIL l) + 1) % 2 ^ 32 ∧
        (∃ r ∈ (u.tile (tileOf l)).reports, r.kind = 0x22 ∧ r.cls = 2 ∧ r.src = l))) ∧
    (∀ p, (s.lane l).restPhase = .cal → (s.lane l).restHeld = none → s.portOf l = some p → s.link p ≠ 0 →
      Does (.laneCalDone now l) s (fun u => (u.lane l).restPhase = .out ∧ u.obj (O.LANE_STATE l) = 3 ∧ (u.lane l).alone = (if s.link p = 6 then 1 else (s.lane l).alone) ∧
        SameObjs [O.LANE_STATE l, O.TX_FIR_NOW l, O.LOL_STATE l, O.SNR_NOW l] s u)) ∧
    (∀ p, (s.lane l).restPhase = .cal → (s.lane l).restHeld = none → s.portOf l = some p → s.link p = 0 →
      Does (.laneCalDone now l) s (fun u => (u.lane l).restPhase = .out ∧ u.obj (O.LANE_STATE l) = 0 ∧ u.obj (O.LOS_STATE l) = 1 ∧ u.obj (O.LOL_STATE l) = 1))

/-- The bring-up of a port: it starts when its MAC is enabled and runs from RX_DETECT through TRAINING, BIT_LOCK, SYMBOL_LOCK and CAP_EXCHANGE to ACTIVE, where its rate
and width show; after LINK_STABLE the count of attempts starts again (R184, R188, R191, R196, R233). -/
def Obligations.BringUp : Prop :=
  ∀ (s : State) (now p : Nat), s.quiet → p < s.variant.ports →
    (∀ r, s.accepts now r (O.MAC_ENABLE p) [1] = true → s.portUp p = true → s.tested p = false → s.link p = 0 →
      Does (.macEnableWrite now r p [1]) s (fun u => Written s u r ∧ u.obj (O.MAC_ENABLE p) = 1 ∧ u.link p = 1 ∧ u.obj (O.ATTEMPTS p) = 0 ∧
        (u.port p).stateAt = max s.now now)) ∧
    (∀ r, s.accepts now r (O.MAC_ENABLE p) [0] = true → s.portUp p = true →
      Does (.macEnableWrite now r p [0]) s (fun u => Written s u r ∧ u.obj (O.MAC_ENABLE p) = 0 ∧ u.link p = 0)) ∧
    (∀ r data, s.accepts now r (O.PORT_MODE p) data = true →
      Does (.portModeWrite now r p data) s (fun u => Written s u r ∧ u.obj (O.PORT_MODE p) = leNat data)) ∧
    (∀ x, s.link p = 1 → (s.mode p).kind = 0 → s.force (O.AN_ENABLE p) ≠ 0 → x.hcd = s.obj (O.PORT_MODE p) →
      Does (.partnerDetected now p x) s (fun u => u.link p = 2 ∧ (u.port p).partner = some x ∧ u.obj (O.SHED_PARTNER p) = b2n (s.pagesShed p x) ∧
        SameObjs [O.LINK_STATE p, O.SHED_PARTNER p] s u ∧ u.traffic = s.traffic)) ∧
    (∀ status : List PartnerTrain, s.link p = 2 → 0 < (s.mode p).width → (∀ l ∈ s.lanesOf p, s.portOf l = some p ∧ s.obj (O.LANE_STATE l) = 3 ∧ (s.lane l).alone ≠ 1 ∧
        3 ≤ (s.lane l).steady ∧ (∃ x, status[l - p]? = some x ∧ x.ready = true)) →
      (s.force (O.SNR_ACCEPT p) ≠ 0 →
        Does (.trainingComplete now p status) s (fun u => u.link p = 3 ∧ (u.port p).stateAt = max s.now now ∧ (∀ l ∈ s.lanesOf p, (u.lane l).trained = true) ∧
          u.traffic = s.traffic)) ∧
      (s.force (O.SNR_ACCEPT p) = 0 → (∀ l ∈ s.lanesOf p, s.lol l = false) →
        Does (.trainingComplete now p status) s (fun u => u.link p = 4))) ∧
    (∀ dk skew, s.link p = 4 → (s.mode p).kind ≠ 2 ∨ (skew ≤ 128 ∧ ∀ l ∈ s.lanesOf p, (s.lane l).aligned = true ∧ (s.lane l).codeword ≠ none) →
      2 ≤ (s.mode p).width →
      Does (.symbolLockDone now p dk skew) s (fun u => u.link p = 5 ∧ u.obj (O.DESKEW_PS p) = dk ∧
        SameObjs [O.LINK_STATE p, O.DESKEW_PS p, O.TS_RX_CORR p, O.TS_TX_CORR p] s u ∧ u.traffic = s.traffic)) ∧
    (∀ speed half us linkBit, s.link p = 5 → (s.mode p).kind = 0 → 1000 ≤ us →
      Does (.capExchangeDone now p speed half us linkBit) s (fun u => u.link p = 6 ∧ u.obj (O.LINK_UPS p) = (s.obj (O.LINK_UPS p) + 1) % 2 ^ 64 ∧
        u.obj (O.SPEED_NOW p) = (s.mode p).mbps ∧ u.obj (O.WIDTH_NOW p) = (s.mode p).width ∧ u.obj (O.DUPLEX_NOW p) = 0 ∧
        u.obj (O.FEC_NOW p) = fecOf (s.obj (O.PORT_MODE p)) (s.force (O.FEC_MODE p)) ∧ (u.port p).activeAt = max s.now now)) ∧
    (∀ speed half us, s.link p = 5 → (s.mode p).kind = 1 → 1600 ≤ us → s.force (O.SGMII_SPEED p) = 0 → s.force (O.DUPLEX_CFG p) = 0 →
      Does (.capExchangeDone now p speed half us true) s (fun u => u.link p = 6 ∧ u.obj (O.SPEED_NOW p) = speed ∧ u.obj (O.DUPLEX_NOW p) = 0)) ∧
    (s.link p = 6 → (s.port p).activeAt + s.obj (O.LINK_STABLE p) * msU ≤ max s.now now →
      Does (.linkStableExpiry now p) s (fun u => u.obj (O.ATTEMPTS p) = 0 ∧ (u.port p).stable = true ∧ SameObjs [O.ATTEMPTS p] s u ∧
        u.traffic = s.traffic)) ∧
    (∀ k, 1 ≤ k → k ≤ 3 → s.training p = true → s.force (O.TX_FIR_MODE p) ≠ 1 →
      Does (.trainCoeffRequest now p (.preset k)) s (fun u => u.obj (O.TX_FIR_NOW p) = preset k ∧ u.out = .trainStatus p 0 :: s.out ∧
        SameObjs [O.TX_FIR_NOW p] s u ∧ u.lanes = s.lanes ∧ u.traffic = s.traffic)) ∧
    (∀ tap up, s.training p = true → s.force (O.TX_FIR_MODE p) ≠ 1 → firStepOut (s.obj (O.TX_FIR_NOW p)) tap up = true →
      Does (.trainCoeffRequest now p (if up then .inc tap else .dec tap)) s (fun u => u.out = .trainStatus p 1 :: s.out ∧ SameObjs [] s u ∧
        u.traffic = s.traffic))

/-- An attempt that fails ends in BACKOFF with its cause and one more attempt counted: no partner, a partner of another mode, or a state that lasts too long; a back-off
that is over, and a partner that starts again, lead to RX_DETECT (R184, R188, R193, R195). -/
def Obligations.BringUpFails : Prop :=
  ∀ (s : State) (now p : Nat), s.quiet → p < s.variant.ports →
    let backoff := fun (cause : Nat) (u : State) => u.link p = 7 ∧ u.obj (O.LAST_FAIL p) = cause ∧
      u.obj (O.ATTEMPTS p) = (s.obj (O.ATTEMPTS p) + 1) % 2 ^ 32 ∧ (∃ r ∈ (u.tile (tileOf p)).reports, r.kind = 0x30 ∧ r.cls = 1 ∧ r.src = p)
    let late := fun (st key : Nat) => s.link p = st ∧ (s.port p).stateAt + s.force key * msU ≤ max s.now now
    (∀ x, s.link p = 1 → (s.mode p).kind = 0 → s.force (O.AN_ENABLE p) ≠ 0 → x.hcd ≠ s.obj (O.PORT_MODE p) →
      Does (.partnerDetected now p x) s (backoff 3)) ∧
    (late 1 (O.RXDET_TIMEOUT p) → (s.mode p).kind ≠ 1 ∨ s.los p = true → Does (.rxdetTimeout now p) s (backoff (if (s.lanesOf p).any s.los then 1 else 2))) ∧
    (late 2 (O.TRAIN_TIMEOUT p) → Does (.trainTimeout now p) s (backoff 4)) ∧
    (late 3 (O.BITLOCK_TIMEOUT p) → (∃ l ∈ s.lanesOf p, s.lol l = true ∨ (s.force (O.SNR_ACCEPT p) ≠ 0 ∧ (s.lane l).snrGood = false)) →
      Does (.bitlockTimeout now p) s (backoff (if (s.lanesOf p).all (fun l => !s.lol l) then 6 else 5))) ∧
    (late 4 (O.SYMLOCK_TIMEOUT p) → Does (.symlockTimeout now p) s (backoff 7)) ∧
    (late 5 (O.CAPX_TIMEOUT p) → s.isSpan p = false ∨ s.capReady p = none → Does (.capxTimeout now p) s (backoff 8)) ∧
    (s.attempting p = true → (s.mode p).kind = 0 → s.force (O.AN_ENABLE p) ≠ 0 →
      Does (.partnerRestart now p) s (fun u => u.link p = 1 ∧ u.obj (O.LAST_FAIL p) = 12 ∧ u.obj (O.ATTEMPTS p) = s.obj (O.ATTEMPTS p))) ∧
    (s.link p = 7 → (s.port p).backoffEnd ≤ max s.now now →
      Does (.backoffExpiry now p) s (fun u => u.link p = 1 ∧ u.obj (O.ATTEMPTS p) = s.obj (O.ATTEMPTS p))) ∧
    (s.link p = 6 → s.isSpan p = false → (s.port p).relock = false → ∀ lane,
      Does (.pcsLockLoss now p lane) s (fun u => u.link p ≠ 6 ∧ u.obj (O.LINK_DOWNS p) = (s.obj (O.LINK_DOWNS p) + 1) % 2 ^ 64))

/-- A span link: it sends what waits in numbered units, striped over the lanes in use, with a comma on every lane when one is due, and keeps each unit until it is
acknowledged; it accepts the next unit in order, takes no notice of one it has had, and asks once for the first it misses; a
refused unit is sent again with those after it; and its lanes align on commas. A CAP block that fits is counted as one of a run of equal ones, one that does not fails the
attempt, and the exchange completes with the sparing and the width both sides allow (R201, R204, R206, R207, R211, R616). -/
def Obligations.SpanUnits : Prop :=
   (∀ (s : State) (now p : Nat), s.quiet → p < s.variant.ports → s.spanUp p = true →
      (∀ r rest, (s.port p).resend = [] → (s.port p).txPart = [] → (s.port p).replay.length < 510 → (s.port p).txRecords = r :: rest → r.length = 992 →
        (s.port p).txNext = none → (s.at now).commasSent p ≤ (s.port p).commaNum →
        Does (.unitTransmit now p) s (fun u => u.out = .unit p (s.port p).txSeq r
            (stripe (lanesIn (s.port p).txLanes) (unitBlocks (s.port p).txSeq r (unitCrc r))) :: s.out ∧ (u.port p).txSeq = ((s.port p).txSeq + 1) % 4096 ∧
          (u.port p).replay = (s.port p).replay ++ [((s.port p).txSeq, r)] ∧ (u.port p).txRecords = rest ∧ (u.port p).txPart = [] ∧ SameObjs [] s u ∧
          u.traffic = s.traffic)) ∧
      ((s.port p).resend = [] → (s.port p).txPart = [] → (s.port p).txRecords = [] → (s.port p).txNext = none →
        (s.at now).commasSent p = (s.port p).commaNum + 1 →
        Does (.unitTransmit now p) s (fun u =>
          u.out = (s.lanesOf p).reverse.map (fun l => .comma l (s.commaOut p l ((s.port p).commaNum + 1))) ++ s.out ∧
          (u.port p).commaNum = (s.port p).commaNum + 1 ∧ SameObjs [] s u ∧ u.traffic = s.traffic)) ∧
      (∀ data lanes, data.length = 992 → (s.port p).rxSinceAck < 63 → (s.port p).takesLanes lanes = true →
        Does (.unitReceived now p (s.port p).rxSeq data (unitCrc data) lanes) s (fun u => (u.port p).rxSeq = ((s.port p).rxSeq + 1) % 4096 ∧
          (u.port p).nakSent = false ∧ (u.port p).rxRecords = (s.port p).rxRecords ++ (unitRecords data 125 0 (s.port p).rxPart).1 ∧ u.out = s.out)) ∧
      (∀ seq data crc lanes, seq ≠ (s.port p).rxSeq → (s.port p).nakSent = false → unitCrc data ≠ crc ∨ seqFrom seq (s.port p).rxSeq = true →
        Does (.unitReceived now p seq data crc lanes) s (fun u => (u.port p).nakSent = true ∧ (u.port p).rxSeq = (s.port p).rxSeq ∧
          u.out = .control p (s.port p).txLanes (nakBlock (s.port p).rxSeq) :: s.out ∧ SameObjs [] s u ∧ u.traffic = s.traffic)) ∧
      (∀ seq data lanes, seq ≠ (s.port p).rxSeq → seqFrom seq (s.port p).rxSeq = false →
        Does (.unitReceived now p seq data (unitCrc data) lanes) s (fun u => SameObjs [] s u ∧ u.ports = s.ports ∧ u.out = s.out ∧ u.traffic = s.traffic)) ∧
      (∀ seq d rest, (s.port p).replay = (seq, d) :: rest →
        Does (.ackReceived now p seq) s (fun u => (u.port p).replay = rest ∧ SameObjs [] s u ∧ u.traffic = s.traffic)) ∧
      (∀ seq d rest, (s.port p).replay = (seq, d) :: rest →
        Does (.nakReceived now p seq) s (fun u => u.obj (O.RETRY_COUNT p) = (s.obj (O.RETRY_COUNT p) + 1) % 2 ^ 64 ∧ (u.port p).resend = (seq, d) :: rest ∧
          (u.port p).replay = (s.port p).replay ∧ SameObjs [O.RETRY_COUNT p] s u ∧ u.traffic = s.traffic)) ∧
      (∀ l block bits b, l < s.variant.ports → s.portOf l = some p → isComma bits = true → (s.lane l).lastComma = some b → block = b + 16384 →
        Does (.commaReceived now l block bits) s (fun u => (u.lane l).aligned = true ∧ (u.lane l).codeword ≠ none ∧ (u.lane l).lastComma = some block ∧
          (u.lane l).missed = 0 ∧
          SameObjs [] s u))) ∧
   (∀ (s : State) (now p l : Nat) (c : Cap), s.quiet → p < s.variant.ports → l < s.variant.ports → s.portOf l = some p → s.isSpan p = true → s.link p = 5 →
      (s.capMismatch p c = false →
        Does (.capBlock now l c) s (fun u => (u.lane l).cap = some c ∧ (u.lane l).capSeen = c.seen ∧
          (u.lane l).capRuns = (if (s.lane l).cap = some c then (s.lane l).capRuns + 1 else 1) ∧ u.link p = 5 ∧ SameObjs [] s u ∧ u.traffic = s.traffic)) ∧
      (s.capMismatch p c = true →
        Does (.capBlock now l c) s (fun u => u.link p = 7 ∧ u.obj (O.LAST_FAIL p) = 9)) ∧
      (∀ speed half us linkBit, s.capReady p = some c →
        Does (.capExchangeDone now p speed half us linkBit) s (fun u => u.link p = 6 ∧ u.obj (O.SPEED_NOW p) = (s.mode p).mbps ∧
          u.obj (O.LANES_UP p) = 2 ^ (s.mode p).width - 1 ∧ (u.port p).sparing = (s.force (O.SPARING p) != 0 && c.sparing) ∧
          (u.port p).minWidth = max (s.force (O.MIN_WIDTH p)) c.minWidth ∧ (u.port p).partnerCap = some c ∧
          (u.port p).txLanes = 2 ^ (s.mode p).width - 1 ∧ (u.port p).rxLanes = 2 ^ (s.mode p).width - 1)))

/-- The lanes of a span link: a drop the partner asks for clears the lane and is acknowledged; a dropped lane that has aligned again is offered; an
offer is acknowledged once the lane is back here too; and the lane carries data again from the units that the two sides name (R210, R212). -/
def Obligations.SpanLanes : Prop :=
  ∀ (s : State) (now p lane : Nat), s.quiet → p < s.variant.ports → s.spanUp p = true → lane < 8 → p + lane < s.variant.ports →
    (∀ restripe replay, bit (s.obj (O.LANES_UP p)) lane = true → s.canDrop p = true →
      Does (.laneDrop now p lane restripe replay) s (fun u => u.obj (O.LANES_UP p) = setBit (s.obj (O.LANES_UP p)) lane false ∧
        u.obj (O.SPARE_EVENTS p) = (s.obj (O.SPARE_EVENTS p) + 1) % 2 ^ 64 ∧
        u.obj (O.SPAN_DROPS (p + lane)) = (s.obj (O.SPAN_DROPS (p + lane)) + 1) % 2 ^ 32 ∧ (u.lane (p + lane)).dropped = true ∧
        (u.port p).rxNext = some (restripe, setBit (s.obj (O.LANES_UP p)) lane false) ∧
        (∃ m n, u.out = .control p m (laneAckBlock 6 lane n) :: s.out) ∧ (∃ r ∈ (u.tile (tileOf p)).reports, r.kind = 0x23 ∧ r.cls = 2 ∧ r.src = p + lane))) ∧
    (∀ restripe replay, bit (s.obj (O.LANES_UP p)) lane = true → s.canDrop p = false →
      Does (.laneDrop now p lane restripe replay) s (fun u => u.link p ≠ 6 ∧ u.obj (O.LINK_DOWNS p) = (s.obj (O.LINK_DOWNS p) + 1) % 2 ^ 64)) ∧
    (∀ restripe, (s.lane (p + lane)).dropped = true → s.laneReady p (p + lane) = true → (s.port p).txNext = none →
      Does (.laneAdd now p lane restripe) s (fun u => (u.port p).laneChange = some (lane, false) ∧
        (u.port p).rxNext = some (restripe, setBit (s.port p).txLanes lane true) ∧ (u.port p).txLanes = setBit (s.port p).txLanes lane true ∧
        u.out = .control p (setBit (s.port p).txLanes lane true) (laneAckBlock 7 lane (s.port p).nextUnit) :: s.out ∧ SameObjs [] s u ∧ u.traffic = s.traffic)) ∧
    (∀ restripe, (s.lane (p + lane)).dropped = true → s.laneReady p (p + lane) = false →
      Does (.laneAdd now p lane restripe) s (fun u => (u.port p).addOwed = some (lane, restripe) ∧ SameObjs [] s u ∧ u.out = s.out ∧ u.traffic = s.traffic)) ∧
    (∀ data m, data.length = 992 → (s.port p).laneChange = some (lane, false) → (s.port p).txNext = none → (s.port p).addOwed = none →
      (s.port p).rxNext = some ((s.port p).rxSeq, m) →
      Does (.unitReceived now p (s.port p).rxSeq data (unitCrc data) m) s (fun u => (u.port p).rxLanes = m ∧ (u.port p).laneChange = none ∧
        u.obj (O.LANES_UP p) = setBit (s.obj (O.LANES_UP p)) lane true ∧ u.obj (O.WIDTH_NOW p) = popcount 8 (setBit (s.obj (O.LANES_UP p)) lane true) ∧
        (u.lane (p + lane)).dropped = false ∧ u.obj (O.LANE_STATE (p + lane)) = 4)) ∧
    (∀ restripe, (s.port p).laneChange = some (lane, false) →
      Does (.laneAck now p 7 lane restripe) s (fun u => (u.port p).txHold = false ∧ (u.port p).rxNext = some (restripe, setBit (s.port p).rxLanes lane true) ∧
        SameObjs [] s u ∧ u.lanes = s.lanes ∧ u.traffic = s.traffic)) ∧
    (∀ restripe, (s.port p).laneChange = some (lane, true) →
      Does (.laneAck now p 6 lane restripe) s (fun u => (u.port p).laneChange = none ∧ (u.port p).rxNext = some (restripe, (s.port p).txLanes) ∧
        SameObjs [] s u ∧ u.lanes = s.lanes ∧ u.traffic = s.traffic)) ∧
    (s.portOf (p + lane) = some p → (s.lane (p + lane)).dropped = true → s.obj (O.REJOIN p) = 1 → (s.port p).laneChange = none → (s.port p).addOwed = none →
      s.laneReady p (p + lane) = true →
      Does (.spanLaneRejoin now (p + lane)) s (fun u => (u.port p).laneChange = some (lane, false) ∧ (u.port p).txHold = true ∧
        (∃ r, (u.port p).txNext = some (r, setBit (s.port p).txLanes lane true) ∧
          u.out = .control p (setBit (s.port p).txLanes lane true) (laneAddBlock lane r) :: s.out) ∧ SameObjs [] s u ∧ u.traffic = s.traffic))

/-- Lane shedding: a window with little traffic asks for fewer lanes and a sub-window with much for all of them; a partner's request is judged and answered; an answer
agrees or declines; and the agreed width is taken, the lanes freed going to rest (R216 to R223). -/
def Obligations.Shedding : Prop :=
  ∀ (s : State) (now p : Nat), s.quiet → p < s.variant.ports →
    (∀ sent rcvd, s.shedding p = true → s.widthChanging p = false → (s.port p).shedQuiet ≤ max s.now now → s.obj (O.WIDTH_NOW p) < (s.mode p).width →
      s.force (O.WIDEN_HIGH p) * s.capOf p (s.obj (O.WIDTH_NOW p)) * s.force (O.SHED_WINDOW p) < max sent rcvd * 1000 →
      Does (.shedSubwindow now p sent rcvd) s (fun u => ∃ r, (u.port p).shedOut = some r ∧ r.widen = true ∧ r.width = (s.mode p).width ∧
        u.obj (O.WIDTH_NOW p) = s.obj (O.WIDTH_NOW p))) ∧
    (∀ sent rcvd w, s.shedding p = true → s.widthChanging p = false → (s.port p).shedQuiet ≤ max s.now now →
      (s.port p).shedAt + s.obj (O.SHED_HOLD p) * msU ≤ max s.now now →
      (s.shedWidths p).find? (fun w => w < s.obj (O.WIDTH_NOW p) && s.fits p w (max sent rcvd) (s.force (O.SHED_WINDOW p))) = some w →
      Does (.shedWindow now p sent rcvd) s (fun u => (∃ r, (u.port p).shedOut = some r ∧ r.widen = false ∧ r.width = w) ∧
        (u.port p).lastLoad = max sent rcvd ∧ SameObjs [] s u ∧ u.lanes = s.lanes ∧ u.tiles = s.tiles)) ∧
    (∀ width token restripe, s.link p = 6 → s.isSpan p = false → s.widthChanging p = false → (s.burin p).tx = none →
      s.shedJudge p ⟨false, width, token, restripe⟩ = 0 →
      Does (.shedReq now p false width token restripe) s (fun u => (u.port p).shedAgreed = some ⟨false, width, token, restripe⟩ ∧
        u.out = .line p (s.shedFrame p 2 token width 0) true :: s.out ∧ SameObjs [] s u ∧ u.traffic = s.traffic)) ∧
    (∀ width token restripe, s.link p = 6 → s.isSpan p = false → s.widthChanging p = false → (s.burin p).tx = none →
      s.shedJudge p ⟨false, width, token, restripe⟩ = 1 →
      Does (.shedReq now p false width token restripe) s (fun u => u.ports = s.ports ∧
        u.out = .line p (s.shedFrame p 2 token width 1) true :: s.out ∧ SameObjs [] s u ∧ u.traffic = s.traffic)) ∧
    (∀ o widen width restripe, (s.port p).shedOut = some o →
      Does (.shedRsp now p widen width o.token 0 restripe) s (fun u => (u.port p).shedAgreed = some o ∧ (u.port p).shedOut = none ∧ SameObjs [] s u ∧
        u.traffic = s.traffic)) ∧
    (∀ o widen width result restripe, (s.port p).shedOut = some o → result ≠ 0 → s.obj (O.SHED_MODE p) ≠ 0 ∨ s.narrow p = false →
      Does (.shedRsp now p widen width o.token result restripe) s (fun u => (u.port p).shedOut = none ∧
        u.obj (O.SHED_DECLINED p) = (s.obj (O.SHED_DECLINED p) + 1) % 2 ^ 64 ∧ SameObjs [O.SHED_DECLINED p] s u ∧ u.traffic = s.traffic)) ∧
    (∀ r, (s.port p).shedAgreed = some r → s.link p = 6 → (s.at now).switchDue p = true → r.widen = false → (s.port p).shedOwed = none →
      Does (.shedSwitch now p) s (fun u => u.obj (O.WIDTH_NOW p) = r.width ∧ u.obj (O.WIDTH_CHANGES p) = (s.obj (O.WIDTH_CHANGES p) + 1) % 2 ^ 64 ∧
        (u.port p).shedAgreed = none ∧ (u.port p).relock = !s.isSpan p ∧
        (∀ l ∈ s.lanesOf p, p + r.width ≤ l → s.resting l = false → s.obj (O.LANE_STATE l) ≠ 7 → (u.lane l).restPhase = .entering) ∧
        (∃ x ∈ (u.tile (tileOf p)).reports, x.kind = 0x31 ∧ x.cls = 1 ∧ x.src = p))) ∧
    (s.link p = 6 → (s.port p).relock = true → (s.port p).switchAt + s.force (O.SYMLOCK_TIMEOUT p) * msU ≤ max s.now now →
      Does (.shedRelockTimeout now p) s (fun u => u.link p = 1 ∧ u.obj (O.LAST_FAIL p) = 13 ∧
        u.obj (O.ATTEMPTS p) = (s.obj (O.ATTEMPTS p) + 1) % 2 ^ 32 ∧ (u.port p).relock = false)) ∧
    (∀ r, s.accepts now r (O.SHED_MODE p) [0] = true → s.narrow p = false → (s.port p).lpi = false →
      Does (.shedModeOff now r p [0]) s (fun u => Written s u r ∧ u.obj (O.SHED_MODE p) = 0 ∧ SameObjs [O.SHED_MODE p] s u ∧ u.ports = s.ports)) ∧
    (∀ r, s.accepts now r (O.SHED_MODE p) [0] = true → s.narrow p = true → s.laneWork p = false → (s.port p).shedQuiet ≤ max s.now now →
      Does (.shedModeOff now r p [0]) s (fun u => Written s u r ∧ u.obj (O.SHED_MODE p) = 0 ∧
        (∃ x, (u.port p).shedOut = some x ∧ x.widen = true ∧ x.width = (s.mode p).width)))

/-- A frame that begins on an ACTIVE port is captured, and dropped and counted where its path into the pipe overruns; at its limit or at byte 16,384 it is cut and discarded; at its end a good frame counts by its
length, and any other under the first outcome of the list that applies, and is discarded. A filter that matches a good frame sets its bit in WAKE_CAUSE, stores the frame
when it is the first, is counted and reported; WAKE_CLEAR clears the cause (R235, R255, R256). -/
def Obligations.Reception : Prop :=
   (∀ (s : State) (now p fid : Nat), s.quiet → p < s.variant.ports →
      (∀ data lpiUs, s.link p = 6 → (s.mode p).kind ≠ 2 → s.fresh fid = true →
        Does (.rxFrameStart now p fid data false lpiUs) s (fun u => SameObjs (O.PCNT p 26 :: (List.range 64).map (O.EVC_VALUE (tileOf p))) s u ∧
          u.obj (O.PCNT p 26) = (s.obj (O.PCNT p 26) + if s.eeeKind p = 0 then 0 else lpiUs) % 2 ^ 64 ∧
          (∃ f, u.frame fid = some f ∧ f.data = data ∧ f.src = .port p ∧ f.cap = (s.at now).rxCapture p ∧ f.wire = data.length + 4 ∧
            f.limit = s.maxLen p s.currentSlot data ∧ f.laned = false ∧ f.ended = false ∧ f.cut = 0 ∧ f.bad = false) ∧
          u.copies = s.copies ∧ u.tiles = s.tiles ∧ u.ports = s.ports ∧ u.queues = s.queues ∧ u.holds = s.holds ∧ u.out = s.out)) ∧
      (∀ data lpiUs, s.link p = 6 → (s.mode p).kind ≠ 2 → s.fresh fid = true → s.obj (O.ISOLATE_THRESHOLD (tileOf p)) = 0 →
        Does (.rxFrameStart now p fid data true lpiUs) s (fun u => (∃ f, u.frame fid = some f ∧ f.data = data ∧ f.bad = true) ∧
          u.obj (O.PCNT p 23) = (s.obj (O.PCNT p 23) + 1) % 2 ^ 64 ∧
          u.obj (O.INTEGRITY_FAULTS (tileOf p)) = (s.obj (O.INTEGRITY_FAULTS (tileOf p)) + 1) % 2 ^ 64 ∧
          (∃ r ∈ (u.tile (tileOf p)).reports, r.kind = 0x14 ∧ r.cls = 1 ∧ r.src = p))) ∧
      (∀ data o lpiUs, s.link p ≠ 6 → Does (.rxFrameStart now p fid data o lpiUs) s (fun u => SameObjs [] s u ∧ u.tiles = s.tiles ∧ u.ports = s.ports ∧ u.traffic = s.traffic)) ∧
      (∀ f, s.frame fid = some f → f.src = .port p → f.ended = false → f.cut = 0 → f.charge = none → f.flying = false → f.resolved = false →
          s.copiesOf fid = [] →
        (f.limit < f.wire →
          Does (.rxOversizeCut now fid) s (fun u => u.frame fid = some { f with data := f.data.take (f.limit + 1 - 4), cut := 10, bad := true, lastSeg := true } ∧
            SameObjs [] s u ∧ u.copies = s.copies ∧ u.tiles = s.tiles)) ∧
        (16383 < f.wire →
          Does (.rxJabberCut now fid) s (fun u => u.frame fid = some { f with data := f.data.take 16380, cut := 11, bad := true, lastSeg := true } ∧
            u.obj (O.PCNT p 11) = (s.obj (O.PCNT p 11) + 1) % 2 ^ 64 ∧ SameObjs [O.PCNT p 11] s u ∧ u.copies = s.copies ∧ u.tiles = s.tiles)) ∧
        (∀ fcs codeErr, (fcs == crc32 f.data) = false →
          Does (.rxFrameEnd now fid fcs codeErr) s (fun u => u.frame fid = none ∧
            u.obj (O.PCNT p (rxOutcome f.wire f.limit codeErr false)) = (s.obj (O.PCNT p (rxOutcome f.wire f.limit codeErr false)) + 1) % 2 ^ 64 ∧
            SameObjs [O.PCNT p (rxOutcome f.wire f.limit codeErr false)] s u ∧ u.copies = s.copies ∧ u.tiles = s.tiles)) ∧
        (s.obj (O.WAKE_ENABLE p) = 0 → takenKind s.mgmt f = 0 → s.pipeOn (tileOf p) (pipeOf p) = true → rxOutcome f.wire f.limit false true = 0 →
            f.bad = false →
          Does (.rxFrameEnd now fid (crc32 f.data) false) s (fun u => u.frame fid = some { f with ended := true } ∧
            u.obj (O.PCNT p 0) = (s.obj (O.PCNT p 0) + 1) % 2 ^ 64 ∧ u.obj (O.PCNT p 1) = (s.obj (O.PCNT p 1) + f.wire) % 2 ^ 64 ∧
            u.obj (O.PCNT p (32 + sizeBin f.wire)) = (s.obj (O.PCNT p (32 + sizeBin f.wire)) + 1) % 2 ^ 64 ∧
            SameObjs [O.PCNT p 0, O.PCNT p 1, O.PCNT p 4, O.PCNT p 5, O.PCNT p (32 + sizeBin f.wire)] s u ∧ u.copies = s.copies ∧ u.tiles = s.tiles)) ∧
        (s.obj (O.WAKE_ENABLE p) = 0 → takenKind s.mgmt f = 0 → f.laned = false → s.pipeOn (tileOf p) (pipeOf p) = false →
            rxOutcome f.wire f.limit false true = 0 →
          Does (.rxFrameEnd now fid (crc32 f.data) false) s (fun u => u.frame fid = none ∧
            u.obj (O.PIPE_OFF_DROP (tileOf p)) = (s.obj (O.PIPE_OFF_DROP (tileOf p)) + 1) % 2 ^ 64 ∧ u.copies = s.copies ∧ u.tiles = s.tiles)))) ∧
   (∀ (s : State) (now p : Nat), s.quiet → p < s.variant.ports →
      (∀ fid f k, s.frame fid = some f → f.src = .port p → f.ended = false → f.cut = 0 → takenKind s.mgmt f = 0 → f.resolved = false →
          rxOutcome f.wire f.limit false true = 0 → bitList 17 (Nat.land (s.wakeHits p f) (s.obj (O.WAKE_ENABLE p))) = [k] → s.obj (O.WAKE_CAUSE p) = 0 →
        Does (.rxFrameEnd now fid (crc32 f.data) false) s (fun u => u.obj (O.WAKE_CAUSE p) = 2 ^ k ∧
          u.obj (O.WAKE_FRAME p) = leNat (padTo (withFcs f.data) 128) ∧ u.obj (O.WAKE_MATCHES p) = (s.obj (O.WAKE_MATCHES p) + 1) % 2 ^ 32 ∧
          (∃ r ∈ (u.tile (tileOf p)).reports, r.kind = 0x32 ∧ r.cls = 1 ∧ r.src = p))) ∧
      (∀ r, s.accepts now r (O.WAKE_CLEAR p) [1] = true →
        Does (.wakeClear now r p [1]) s (fun u => Written s u r ∧ u.obj (O.WAKE_CAUSE p) = 0 ∧ SameObjs [O.WAKE_CAUSE p] s u ∧ u.datapath = s.datapath)))

/-- A PAUSE or PFC frame that the port honours loads the timer of each priority it names, and one whose time is 0 ends the pause; a timer that has run out ends it too. A port
that generates PFC frames asks a priority to stop when its occupancy passes XOFF_CELLS, asks again each PAUSE_REFRESH quanta, and lets it go at XON_CELLS; the frame goes
out at the next frame boundary (R242 to R247, R350). -/
def Obligations.FlowControl : Prop :=
   (∀ (s : State) (now p : Nat) (fr : Bytes), s.quiet → p < s.variant.ports →
      (s.link p = 6 → (s.mode p).kind ≠ 2 → s.obj (O.WAKE_ENABLE p) = 0 → beAt fr 12 2 = 0x8808 → beAt fr 0 6 = 0x0180C2000001 → bit (s.obj (O.FC_DIR p)) 0 = true →
          s.obj (O.DUPLEX_NOW p) = 0 → rxOutcome (fr.length + 4) (s.maxLen p s.currentSlot fr) false true = 0 →
        (∀ i, beAt fr 14 2 = 0x0101 → s.obj (O.FC_MODE p) = 2 → bitList 8 (byteAt fr 17) = [i] → beAt fr (18 + 2 * i) 2 ≠ 0 →
          Does (.pauseReceived now p fr (crc32 fr)) s (fun u => bit (u.obj (O.PAUSED_NOW p)) i = true ∧
            tget 0 (u.port p).pauseEnd i = max s.now now + s.quanta p (beAt fr (18 + 2 * i) 2) ∧
            (∀ j, j ≠ i → bit (u.obj (O.PAUSED_NOW p)) j = bit (s.obj (O.PAUSED_NOW p)) j) ∧
            u.obj (O.PCNT p (128 + 4 * i)) = (s.obj (O.PCNT p (128 + 4 * i)) + 1) % 2 ^ 64 ∧ u.queues = s.queues)) ∧
        (∀ i, beAt fr 14 2 = 0x0101 → s.obj (O.FC_MODE p) = 2 → bitList 8 (byteAt fr 17) = [i] → beAt fr (18 + 2 * i) 2 = 0 →
          Does (.pauseReceived now p fr (crc32 fr)) s (fun u => bit (u.obj (O.PAUSED_NOW p)) i = false ∧
            (∀ j, j ≠ i → bit (u.obj (O.PAUSED_NOW p)) j = bit (s.obj (O.PAUSED_NOW p)) j))) ∧
        (beAt fr 14 2 = 1 → s.obj (O.FC_MODE p) = 1 → beAt fr 16 2 ≠ 0 →
          Does (.pauseReceived now p fr (crc32 fr)) s (fun u => u.obj (O.PCNT p 14) = (s.obj (O.PCNT p 14) + 1) % 2 ^ 64 ∧
            (∀ i, i < 8 → bit (u.obj (O.PAUSED_NOW p)) i = true ∧ tget 0 (u.port p).pauseEnd i = max s.now now + s.quanta p (beAt fr 16 2))))) ∧
      (∀ i, i < 8 → bit (s.obj (O.PAUSED_NOW p)) i = true → tget 0 (s.port p).pauseEnd i ≤ max s.now now →
        Does (.pauseTimerExpiry now p i) s (fun u => bit (u.obj (O.PAUSED_NOW p)) i = false ∧
          (∀ j, j ≠ i → bit (u.obj (O.PAUSED_NOW p)) j = bit (s.obj (O.PAUSED_NOW p)) j) ∧ SameObjs [O.PAUSED_NOW p, O.PCNT p (130 + 4 * i)] s u ∧
          u.traffic = s.traffic))) ∧
   (∀ (s : State) (now p i : Nat), s.quiet → p < s.variant.ports → i < 8 →
      (∀ written a, (s.at now).cellsNow written = a → a.quiet → a.generates p = 2 → bit (a.obj (O.PFC_PRIOS p)) i = true → a.ingressHeld p i < 2 ^ 32 →
        (bit (a.obj (O.XOFF_SENT p)) i = false → a.obj (O.XOFF_CELLS p i) < a.ingressHeld p i →
          Does (.ingressOccupancyReport now p i written) s (fun u => octets (u.obj (O.INGRESS_CELLS p)) (4 * i) 4 = a.ingressHeld p i ∧
            bit (u.obj (O.XOFF_SENT p)) i = true ∧ tget 0 (u.port p).xoffAt i = a.now ∧
            (∃ e ∈ (u.port p).pauseDue, (i, a.obj (O.PAUSE_TX_TIME p)) ∈ e.2) ∧ SameObjs [O.INGRESS_CELLS p, O.XOFF_SENT p] a u ∧
            u.holds = a.holds ∧ u.queues = a.queues ∧ u.frames = a.frames)) ∧
        (bit (a.obj (O.XOFF_SENT p)) i = true → a.ingressHeld p i ≤ a.obj (O.XON_CELLS p i) →
          Does (.ingressOccupancyReport now p i written) s (fun u => octets (u.obj (O.INGRESS_CELLS p)) (4 * i) 4 = a.ingressHeld p i ∧
            bit (u.obj (O.XOFF_SENT p)) i = false ∧ (∃ e ∈ (u.port p).pauseDue, (i, 0) ∈ e.2) ∧ SameObjs [O.INGRESS_CELLS p, O.XOFF_SENT p] a u ∧
            u.holds = a.holds ∧ u.queues = a.queues ∧ u.frames = a.frames))) ∧
      (s.generates p = 2 → bit (s.obj (O.PFC_PRIOS p)) i = true → bit (s.obj (O.XOFF_SENT p)) i = true → s.obj (O.XON_CELLS p i) < octets (s.obj (O.INGRESS_CELLS p)) (4 * i) 4 →
          tget 0 (s.port p).xoffAt i + s.quanta p (s.obj (O.PAUSE_REFRESH p)) ≤ max s.now now →
        Does (.pauseRefresh now p i) s (fun u => bit (u.obj (O.XOFF_SENT p)) i = true ∧ tget 0 (u.port p).xoffAt i = max s.now now ∧
          (∃ e ∈ (u.port p).pauseDue, (i, s.obj (O.PAUSE_TX_TIME p)) ∈ e.2) ∧ SameObjs [O.XOFF_SENT p] s u ∧ u.traffic = s.traffic)) ∧
      (∀ n l rest, (s.port p).pauseDue = (n, l) :: rest → s.link p = 6 → (s.burin p).tx = none → (s.port p).sel = none → (s.port p).lpi = false →
          s.obj (O.DUPLEX_NOW p) = 0 → s.shedHolds p = false →
        Does (.pauseFrameSend now p) s (fun u => u.out = .line p (s.pauseFrame p l) true :: s.out ∧ (u.port p).pauseDue = rest ∧
          u.obj (O.PCNT p 2) = (s.obj (O.PCNT p 2) + 1) % 2 ^ 64 ∧ u.obj (O.PCNT p 3) = (s.obj (O.PCNT p 3) + 64) % 2 ^ 64 ∧ u.queues = s.queues ∧ u.tiles = s.tiles)))

/-- An idle port enters LPI and leaves it after its wake time; on a half-duplex port a collision sends a jam and, after a back-off without carrier, the frame again, and a late one discards it (R239,
R240, R249). -/
def Obligations.LineStates : Prop :=
  ∀ (s : State) (now p : Nat), s.quiet → p < s.variant.ports →
    (s.eeeKind p = 1 → s.txBusy p = false → (s.port p).lpi = false → (s.port p).idleFrom + s.obj (O.EEE_IDLE p) * usU ≤ max s.now now →
      Does (.lpiEntry now p) s (fun u => (u.port p).lpi = true ∧ (u.port p).lpiWake = none ∧ u.obj (O.PCNT p 24) = (s.obj (O.PCNT p 24) + 1) % 2 ^ 64 ∧
        SameObjs [O.PCNT p 24] s u ∧ u.traffic = s.traffic)) ∧
    (∀ i, (s.port p).lpiWake = some i → i ≤ max s.now now →
      Does (.lpiWakeDone now p) s (fun u => (u.port p).lpi = false ∧ (u.port p).lpiWake = none ∧ (u.port p).idleFrom = max s.now now ∧ u.traffic = s.traffic)) ∧
    (∀ x bits, (s.burin p).tx = some x → s.obj (O.DUPLEX_NOW p) = 1 → (s.port p).hdWait = false → (s.port p).collisions < 15 →
      (bits ≤ 512 →
        Does (.collision now p bits) s (fun u => (u.port p).hdWait = true ∧ (u.port p).collisions = (s.port p).collisions + 1 ∧ (u.burin p).tx = some x ∧
          u.out = .jam p bits 32 :: s.out ∧
          (∃ n, n < 2 ^ min ((s.port p).collisions + 1) 10 ∧ (u.port p).hdEnd = max s.now now + n * 512 * usU / s.txMbps p) ∧
          SameObjs [O.PCNT p 20] s u)) ∧
      (512 < bits →
        Does (.collision now p bits) s (fun u => (u.burin p).tx = none ∧ u.copy x.fid x.h = none ∧ u.obj (O.PCNT p 18) = (s.obj (O.PCNT p 18) + 1) % 2 ^ 64))) ∧
    (∀ x, (s.burin p).tx = some x → (s.port p).hdWait = true → (s.port p).hdEnd ≤ max s.now now → s.carrier p = false →
      Does (.hdBackoffExpiry now p) s (fun u => (u.port p).hdWait = false ∧ (∃ y, (u.burin p).tx = some y ∧ y.fid = x.fid ∧ y.h = x.h ∧ y.data = x.data ∧
        y.began = max s.now now) ∧ SameObjs [] s u))

/-- A frame takes a position of the datapath word and a lane of its pipe under the version that is current, and counts in flight under it; on a later pass it keeps its
version; without a position it waits, and a cycle in which one from the host feed waits counts. A well-formed frame is looked up
under its version: an action that forwards to a port makes the frame's original there, with the action's priority, MATCH_ID and timestamp domain; one that does not forward
makes none; a frame without a match goes to the processor within its limiter, or is discarded; and a frame whose sender named its port goes there without a lookup (R28,
R30, R31, R289 to R292). -/
def Obligations.PipeLookup : Prop :=
   (∀ (s : State) (now fid lane middle : Nat) (f : Frame), s.quiet → s.frame fid = some f → (s.at now).etchSwitch = s.at now → (s.at now).laneFree f lane = true →
      (f.pass = 0 → f.lastSeg = false → ((s.at now).position fid f middle).1 = true → s.pairOk (.current f.src.tile f.src.pipe) = true →
        Does (.frameLaneAssign now fid lane middle) s (fun u => u.flying f.src.tile s.currentSlot = s.flying f.src.tile s.currentSlot + 1 ∧
          (∃ g, u.frame fid = some g ∧ g.laned = true ∧ g.lane = some lane ∧ g.wants = false ∧ g.flying = true ∧ g.slot = s.currentSlot ∧ g.data = f.data ∧ g.resolved = f.resolved ∧
            (f.src.host = false → g.cap = f.cap) ∧ (f.src.host = true → g.cap = (s.at now).tileCapture f.src.tile)) ∧
          SameObjs ((List.range 64).map (O.EVC_VALUE f.src.tile)) s u ∧ u.copies = s.copies ∧ u.tiles = s.tiles ∧ u.queues = s.queues)) ∧
      (f.pass ≠ 0 → ((s.at now).position fid f middle).1 = true →
        Does (.frameLaneAssign now fid lane middle) s (fun u => u.frame fid = some { f with laned := true, lane := some lane, wants := false } ∧
          u.inflight = s.inflight ∧ SameObjs ((List.range 64).map (O.EVC_VALUE f.src.tile)) s u ∧ u.copies = s.copies ∧ u.tiles = s.tiles)) ∧
      (((s.at now).position fid f middle).1 = false →
        Does (.frameLaneAssign now fid lane middle) s (fun u => u.frame fid = some { f with wants := true } ∧ u.inflight = s.inflight ∧ u.copies = s.copies ∧
          (f.slotNo ≠ none → SameObjs [] s u) ∧
          (f.slotNo = none → ((s.at now).word f.src.tile f.src.pipe).waited = false →
            u.obj (O.HOST_FEED_WAIT f.src.tile) = (s.obj (O.HOST_FEED_WAIT f.src.tile) + 1) % 2 ^ 64)))) ∧
   (∀ (s : State) (now fid p : Nat) (f : Frame), s.quiet → s.frame fid = some f → f.laned = true → f.resolved = false → f.bad = false → f.lastSeg = false → f.ended = false →
        f.hm.desc = none → (s.parseOf f).outcome = 0 → s.inTurn f (fun g => g.laned && !g.resolved && !g.bad) = true →
      (∀ a rule, f.src = .port p → f.hm.dstPort = 0xFF → s.lookup f (s.parseOf f) false = .action a rule → bit a 4 = false → bit a 5 = false → bit a 63 = false →
        (octet a 0 / 64 = 1 → octet a 1 / 64 = 0 → s.portUp (octets a 2 2) = true → (s.mode (octets a 2 2)).kind ≠ 2 →
          Does (.lookupResolve now fid) s (fun u =>
            u.copy fid 0 = some { dst := .port (octets a 2 2) (octet a 4 % 16), place := .arrived, colour := f.colour, matchId := octets a 8 2 } ∧
            (∃ g, u.frame fid = some g ∧ g.resolved = true ∧ g.looked = true ∧ g.data = f.data ∧ g.matchId = octets a 8 2 ∧ g.tsSel = a % 4 ∧
              g.prio = (if bit a 2 then octet a 4 / 16 % 8 else s.defaultPrio f (s.parseOf f))) ∧
            SameObjs [] s u ∧ u.tiles = s.tiles ∧ u.queues = s.queues ∧ u.holds = s.holds)) ∧
        (octet a 0 / 64 ≠ 1 →
          Does (.lookupResolve now fid) s (fun u => u.copies = s.copies ∧ (∃ g, u.frame fid = some g ∧ g.resolved = true ∧ g.looked = true) ∧ SameObjs [] s u ∧
            u.tiles = s.tiles))) ∧
      (f.src = .port p → f.hm.dstPort = 0xFF → s.lookup f (s.parseOf f) false = .unmatched → s.obj (O.UNMATCHED_MODE (tileOf p)) = 1 →
        Does (.lookupResolve now fid) s (fun u => u.obj (O.UNMATCHED_FRAMES (tileOf p)) = (s.obj (O.UNMATCHED_FRAMES (tileOf p)) + 1) % 2 ^ 64 ∧
          u.copies = s.copies ∧ SameObjs [O.UNMATCHED_FRAMES (tileOf p)] s u ∧ u.tiles = s.tiles)) ∧
      (f.src = .port p → f.hm.dstPort = 0xFF → s.lookup f (s.parseOf f) false = .unmatched → s.obj (O.UNMATCHED_MODE (tileOf p)) ≠ 1 →
          1000000 ≤ ((s.at now).limiterRefill (tileOf p)).limCredit (tileOf p) 1 → (∃ k d, s.obj (O.PROC_UNMATCHED_DST (tileOf p)) = (k + 1) * 65536 + d ∧ d < 65536) →
        Does (.lookupResolve now fid) s (fun u => u.obj (O.UNMATCHED_FRAMES (tileOf p)) = (s.obj (O.UNMATCHED_FRAMES (tileOf p)) + 1) % 2 ^ 64 ∧
          u.copy fid 0 = some { dst := procDst (s.obj (O.PROC_UNMATCHED_DST (tileOf p))), place := .arrived, kind := 3, colour := f.colour } ∧
          u.limCredit (tileOf p) 1 = ((s.at now).limiterRefill (tileOf p)).limCredit (tileOf p) 1 - 1000000 ∧ SameObjs [O.UNMATCHED_FRAMES (tileOf p)] s u)) ∧
      (f.hm.dstPort ≠ 0xFF → s.portUp f.hm.dstPort = true → (s.mode f.hm.dstPort).kind ≠ 2 →
        Does (.lookupResolve now fid) s (fun u =>
          u.copy fid 0 = some { dst := .port f.hm.dstPort f.hm.queue, place := .arrived, colour := f.colour, matchId := f.matchId } ∧
          (∃ g, u.frame fid = some g ∧ g.resolved = true ∧ g.looked = false) ∧ SameObjs [] s u)))

/-- A frame whose last segment takes a position in its pipe, after its lookup, leaves its version's count and counts under its parse outcome; a length that its headers deny ends it as
malformed; a recirculated frame enters its pipe again; and the processor's limiters refill each microsecond (R272 to R275, R289, R292, R314, R315). -/
def Obligations.PipeExit : Prop :=
  ∀ (s : State) (now fid : Nat) (f : Frame), s.quiet → s.frame fid = some f → f.laned = true → f.bad = false → f.ended = true → f.resolved = true →
      f.charge = none → f.hm.desc = none →
    (∀ middle, f.segments ≤ 1 ∨ ((s.at now).position fid f middle).1 = true →
        f.lastSeg = false → f.outcome = 0 → f.req ≤ f.data.length → f.recirc = false → f.flying = true → s.copiesOf fid ≠ [] →
      Does (.pipeLastSegment now fid middle) s (fun u => (∃ w, u.frame fid = some { f with lastSeg := true, flying := false, wants := w }) ∧
        u.flying f.src.tile f.slot = s.flying f.src.tile f.slot - 1 ∧ u.obj (O.PARSE_OK f.src.tile) = (s.obj (O.PARSE_OK f.src.tile) + 1) % 2 ^ 64 ∧
        SameObjs [O.PARSE_OK f.src.tile] s u ∧ u.copies = s.copies ∧ u.queues = s.queues)) ∧
    (∀ middle, 1 < f.segments → ((s.at now).position fid f middle).1 = false → f.lastSeg = false →
      Does (.pipeLastSegment now fid middle) s (fun u => u.frame fid = some { f with wants := true } ∧ u.copies = s.copies ∧ u.queues = s.queues)) ∧
    (∀ middle, f.segments ≤ 1 ∨ ((s.at now).position fid f middle).1 = true → f.lastSeg = false → f.outcome = 0 → f.data.length < f.req → f.hm.dstPort = 0xFF →
        s.etchVal f.slot O.ACT_LENGTH = 0 → f.flying = true → s.copiesOf fid = [] →
      Does (.pipeLastSegment now fid middle) s (fun u => u.frame fid = none ∧ u.flying f.src.tile f.slot = s.flying f.src.tile f.slot - 1 ∧
        u.obj (O.LENGTH_LATE f.src.tile) = (s.obj (O.LENGTH_LATE f.src.tile) + 1) % 2 ^ 64 ∧
        u.obj (O.PARSE_LENGTH f.src.tile) = (s.obj (O.PARSE_LENGTH f.src.tile) + 1) % 2 ^ 64 ∧
        SameObjs [O.LENGTH_LATE f.src.tile, O.PARSE_LENGTH f.src.tile] s u ∧ u.copies = s.copies)) ∧
    (f.lastSeg = true → f.recirc = true →
      Does (.recircReentry now fid) s (fun u => u.frame fid = some { f with
          seq := s.arrivals, pass := f.pass + 1, prev := f.matchId, laned := false, resolved := false, lastSeg := false, recirc := false } ∧
        SameObjs [] s u ∧ u.copies = s.copies ∧ u.tiles = s.tiles ∧ u.queues = s.queues)) ∧
    (∀ t, t < s.variant.tiles → (s.at now).wholeUs = true → tget 0 (s.tile t).refilled 1 ≠ max s.now now + 1 →
      Does (.limiterRefill now t) s (fun u => SameObjs [] s u ∧ (∀ i, i < 3 →
        u.limCredit t i = min (s.limCredit t i + s.obj (limRate t i)) (s.obj (limBurst t i) * 1000000)) ∧ u.traffic = s.traffic))

/-- A frame between tiles takes the col link that its tile's route names, if the link is up, the frame has crossed fewer than three, and the staging buffer has room; else it
is dropped and counted, and a cell of it that fails its CRC is counted. A col link that fails leaves service at both its tiles, which report it; it trains again after a second and comes up, or fails again within 2 ms and
counts; and in AUTO mode a tile's route table follows the links (R36 to R42, R641). -/
def Obligations.Fabric : Prop :=
   (∀ (s : State) (now t fid h : Nat) (c : Copy) (f : Frame), s.quiet → t < s.variant.tiles → s.both fid h = some (c, f) → inTransit c f t = true → s.copyInTurn c f = true → f.hm.desc = none →
      (∀ k whole, k < 3 → (whole = false ∧ 1 < f.segments) ∨ c.staged = [] → s.routeTo t c.dst.tile = k + 1 → s.colUp t k = true → c.path.length < 3 →
          (s.at now).stagedAtStart t k + 16384 ≤ 262144 →
        Does (.colLinkFrameIn now t fid h whole false) s (fun u =>
          u.copy fid h = some { c with place := .link t k, path := c.path ++ [(t, k)], staged := c.staged ++ [(t, k)] } ∧
          u.stagedBytes t k = s.stagedBytes t k + (c.bytes f).length ∧ u.frame fid = some f ∧ SameObjs [] s u ∧ u.queues = s.queues)) ∧
      (∀ whole, s.routeTo t c.dst.tile = 0 →
        Does (.colLinkFrameIn now t fid h whole false) s (fun u => u.copy fid h = none ∧ u.obj (O.UNREACH_DROP t) = (s.obj (O.UNREACH_DROP t) + 1) % 2 ^ 64)) ∧
      (∀ k whole, k < 3 → s.routeTo t c.dst.tile = k + 1 → s.colUp t k = true → 3 ≤ c.path.length →
        Does (.colLinkFrameIn now t fid h whole false) s (fun u => u.copy fid h = none ∧ u.obj (O.HOP_DROP t) = (s.obj (O.HOP_DROP t) + 1) % 2 ^ 64)) ∧
      (∀ k whole, k < 3 → (whole = false ∧ 1 < f.segments) ∨ c.staged = [] → s.routeTo t c.dst.tile = k + 1 → s.colUp t k = true → c.path.length < 3 →
          262144 < (s.at now).stagedAtStart t k + 16384 →
        Does (.colLinkFrameIn now t fid h whole false) s (fun u => u.copy fid h = none ∧ u.obj (stageDropKey t k) = (s.obj (stageDropKey t k) + 1) % 2 ^ 64)) ∧
      (∀ whole x k, c.place = .link x k → s.obj (O.ISOLATE_THRESHOLD t) = 0 →
        Does (.colLinkFrameIn now t fid h whole true) s (fun u => u.obj (O.CELL_CRC_FAIL t) = (s.obj (O.CELL_CRC_FAIL t) + 1) % 2 ^ 64))) ∧
   (∀ (s : State) (now t k : Nat), s.quiet → t < s.variant.tiles → k < s.variant.colLinks → k < 3 →
      (s.col t k = 3 → s.onLink t k = [] → s.onLink (neighbour t k) k = [] →
        Does (.colLinkDown now t k) s (fun u => u.col t k = 1 ∧ u.col (neighbour t k) k = 1 ∧ (∃ r ∈ (u.tile t).reports, r.kind = 0x33 ∧ r.cls = 7 ∧ r.src = k) ∧
          (∃ r ∈ (u.tile (neighbour t k)).reports, r.kind = 0x33 ∧ r.cls = 7 ∧ r.src = k) ∧ SameObjs [colKey t k, colKey (neighbour t k) k] s u ∧
          u.traffic = s.traffic)) ∧
      (s.col t k = 2 →
        Does (.colLinkUp now t k) s (fun u => u.col t k = 3 ∧ u.col (neighbour t k) k = 3 ∧ SameObjs [colKey t k, colKey (neighbour t k) k] s u ∧
          u.traffic = s.traffic)) ∧
      (s.col t k = 2 → tget 0 (s.tile t).linkAt k + 2 * msU ≤ max s.now now →
        Does (.colTrainTimeout now t k) s (fun u => u.col t k = 1 ∧ u.col (neighbour t k) k = 1 ∧
          u.obj (O.COL_TRAIN_FAILS t) = (s.obj (O.COL_TRAIN_FAILS t) + 1) % 2 ^ 32 ∧
          u.obj (O.COL_TRAIN_FAILS (neighbour t k)) = (s.obj (O.COL_TRAIN_FAILS (neighbour t k)) + 1) % 2 ^ 32 ∧
          (∃ r ∈ (u.tile t).reports, r.kind = 0x33 ∧ r.cls = 7 ∧ r.src = k) ∧ u.traffic = s.traffic)) ∧
      (s.col t k = 1 → tget 0 (s.tile t).linkAt k + secU ≤ max s.now now → s.linkReady t k = true →
        Does (.colRetrain now t k) s (fun u => u.col t k = 2 ∧ u.col (neighbour t k) k = 2 ∧ SameObjs [colKey t k, colKey (neighbour t k) k] s u ∧
          u.traffic = s.traffic)) ∧
      (s.obj (O.ROUTE_MODE t) = 0 →
        Does (.routeRecompute now t) s (fun u => u.obj (O.ROUTE t) = s.autoTable t ∧ SameObjs [O.ROUTE t] s u ∧ u.traffic = s.traffic ∧ u.tiles = s.tiles)))

/-- An etch opens for its owner, takes the exact-match and ternary operations and the object values its owner writes, and goes back to idle when it is aborted or has been
idle too long; probes tell of the current version (R282 to R288, R299 to R304). -/
def Obligations.EtchStaging : Prop :=
  ∀ (s : State) (now : Nat) (r : Requester), s.quiet →
    (s.accepts now r O.ETCH_CTL [1] = true →
      Does (.etchOpen now r) s (fun u => Written s u r ∧ u.obj O.ETCH_STATE = 1 ∧ u.obj O.ETCH_OWNER = ownerCode r ∧
        (∃ e, u.etch = some e ∧ e.owner = r ∧ e.ems = [] ∧ e.tcs = [] ∧ e.sets = [] ∧ e.lastAt = max s.now now) ∧ SameObjs [O.ETCH_STATE, O.ETCH_OWNER] s u)) ∧
    (s.accepts now r O.ETCH_CTL [3] = true →
      Does (.etchAbort now r) s (fun u => Written s u r ∧ u.obj O.ETCH_STATE = 0 ∧ u.obj O.ETCH_OWNER = 0xFFFF ∧ u.etch = none ∧
        SameObjs [O.ETCH_STATE, O.ETCH_OWNER] s u ∧ u.em = s.em ∧ u.tc = s.tc ∧ u.etchObjs = s.etchObjs)) ∧
    (∀ t data e, t < s.variant.tiles → s.stages now r (O.EM_OP t) data = true → s.etch = some e → (s.askedAt now r).etchForm (O.EM_OP t) (leNat data) = 0 →
        ((s.askedAt now r).emCheck t data).1 = 0 → e.ems.length < 131072 →
      Does (.emOpWrite now r t data) s (fun u => Written s u r ∧ u.obj (O.EM_REFUSAL t) = 0 ∧
        u.etch = some { e with ems := e.ems ++ [(t, data)], order := e.order ++ [(t, true)], lastAt := max s.now now } ∧ SameObjs [O.EM_REFUSAL t] s u ∧
        u.em = s.em)) ∧
    (∀ t data e, t < s.variant.tiles → s.stages now r (O.TC_OP t) data = true → s.etch = some e → (s.askedAt now r).etchForm (O.TC_OP t) (leNat data) = 0 →
        e.tcs.length < 65536 →
      Does (.tcOpWrite now r t data) s (fun u => Written s u r ∧
        u.etch = some { e with tcs := e.tcs ++ [(t, data)], order := e.order ++ [(t, false)], lastAt := max s.now now } ∧ SameObjs [] s u ∧ u.tc = s.tc)) ∧
    (∀ idx sub data e, idx < 65536 → sub < 256 → s.stages now r (256 * idx + sub) data = true → s.etch = some e → 256 * idx + sub ≠ O.EM_OP (emTile idx) →
        256 * idx + sub ≠ O.TC_OP (emTile idx) →
        (s.askedAt now r).etchForm (256 * idx + sub) (leNat data) = 0 →
        (s.askedAt now r).etchObjCheck ((s.askedAt now r).stage (256 * idx + sub) data).2 (256 * idx + sub) (leNat data) = 0 → e.sets.length < 1024 →
      Does (.etchObjectWrite now r idx sub data) s (fun u => Written s u r ∧ SameObjs [] s u ∧ u.etchObjs = s.etchObjs ∧
        u.etch = some { e with sets := e.sets.filter (fun x => x.1 != 256 * idx + sub) ++ [(256 * idx + sub, leNat data)], lastAt := max s.now now })) ∧
    (∀ t data, t < s.variant.tiles → s.accepts now r (O.EM_PROBE t) data = true →
      Does (.emProbeWrite now r t data) s (fun u => Written s u r ∧ u.selection r (O.EM_PROBE t) = leNat (s.emProbe t data) ∧ SameObjs [] s u ∧
        u.datapath = s.datapath)) ∧
    (∀ t data, t < s.variant.tiles → s.accepts now r (O.TC_PROBE t) data = true →
      Does (.tcProbeWrite now r t data) s (fun u => Written s u r ∧ u.selection r (O.TC_PROBE t) = leNat data ∧
        u.tcProbeRead r t = leNat (u.tcProbe t (natLe (leNat data) 128)) ∧ SameObjs [] s u ∧
        u.datapath = s.datapath)) ∧
    (∀ e, s.obj O.ETCH_STATE = 1 → s.etch = some e → e.lastAt + s.obj O.ETCH_IDLE * msU ≤ max s.now now →
      Does (.etchIdleExpiry now) s (fun u => u.obj O.ETCH_STATE = 0 ∧ u.obj O.ETCH_OWNER = 0xFFFF ∧ u.etch = none ∧
        u.obj O.ETCH_ABORTS = (s.obj O.ETCH_ABORTS + 1) % 2 ^ 64 ∧ SameObjs [O.ETCH_STATE, O.ETCH_OWNER, O.ETCH_ABORTS] s u ∧ u.em = s.em ∧ u.tc = s.tc))

/-- A commit takes the lowest free slot and starts loading on the tiles in service; each tile loads the operations staged for it; at the switch instant the new version
becomes current and the old one drains; a slot with no frame left in flight is free again; and one that drains too long is reported once (R305 to R309, R316, R318). -/
def Obligations.EtchSwitching : Prop :=
  ∀ (s : State) (now : Nat) (e : Etch), s.quiet → s.etch = some e →
    (∀ r k, s.accepts now r O.ETCH_CTL [2] = true → ¬(e.ems = [] ∧ e.tcs = [] ∧ e.sets = []) → (∀ j, j < 4 → s.pairOk (.slot j) = true) →
        [0, 1, 2, 3].find? (fun j => s.slotState j == 0) = some k →
      Does (.etchCommit now r) s (fun u => Written s u r ∧ u.obj O.ETCH_STATE = 2 ∧ u.slotState k = 1 ∧ u.obj (O.SLOT_GEN k) = (s.obj O.ETCH_GEN + 1) % 2 ^ 32 ∧
        u.obj O.CURRENT_SLOT = s.obj O.CURRENT_SLOT ∧ (∃ x, u.etch = some x ∧ x.slot = k ∧ x.ems = e.ems ∧ x.tcs = e.tcs ∧ x.left = s.tileList.filter (fun t => s.runs t && !e.missed.contains t)) ∧
        SameObjs [O.ETCH_STATE, O.SLOT_STATE k, O.SLOT_GEN k, O.ETCH_TILE_MISS] s u)) ∧
    (∀ t, t < s.variant.tiles → s.obj O.ETCH_STATE = 2 → e.left.contains t = true →
      Does (.etchLoadDone now t) s (fun u =>
        u.emOf t = ((e.ems.filter (fun x => x.1 == t)).map (·.2)).foldl (emLoad e.slot (fun i => keyLen (s.etchVal e.slot (O.KEY_PROFILE i)))) (s.emOf t) ∧
        (∃ x, u.etch = some x ∧ x.left = e.left.filter (fun i => i != t) ∧ x.slot = e.slot ∧
          (x.left = [] → e.switchAt = none → x.switchAt = some (ceilDiv ((s.at now).L + 10 * usU) usU * usU))) ∧ u.obj O.ETCH_STATE = 2)) ∧
    (∀ i, e.switchAt = some i → i ≤ (s.at now).L → e.slot < 4 → s.currentSlot < 4 → e.slot ≠ s.currentSlot →
      Does (.etchSwitch now) s (fun u => u.obj O.CURRENT_SLOT = e.slot ∧ u.slotState e.slot = 2 ∧ u.slotState s.currentSlot = 3 ∧
        u.obj O.ETCH_GEN = s.obj (O.SLOT_GEN e.slot) ∧ u.obj O.LAST_SWITCH = ts96 i ∧ u.obj O.ETCH_STATE = 0 ∧ u.etch = none ∧
        (∃ r ∈ (u.tile 0).reports, r.kind = 0x40 ∧ r.cls = 0) ∧ u.em = s.em ∧ u.tc = s.tc ∧ u.etchObjs = s.etchObjs ∧ u.frames = s.frames)) ∧
    (∀ k, k < 4 → (∀ j, j < 4 → s.pairOk (.slot j) = true) → s.slotState k = 3 → s.slotQuiet k = true →
      Does (.slotRetire now k) s (fun u => u.slotState k = 0 ∧ (∀ t, ∀ x ∈ u.emOf t, k ∉ x.slots) ∧ (∀ t pipe rule, u.tcRule t pipe rule k = none) ∧
        u.frames = s.frames)) ∧
    (∀ k, k < 4 → s.slotState k = 3 → (tget (0, false) s.drainAt k).2 = false →
        (tget (0, false) s.drainAt k).1 + s.obj O.ETCH_STUCK_LIMIT * msU < max s.now now →
      Does (.etchStuck now k) s (fun u => (∃ r ∈ (u.tile 0).reports, r.kind = 0x41 ∧ r.cls = 0) ∧ (tget (0, false) u.drainAt k).2 = true ∧ SameObjs [] s u))

/-- A policer record is written with its buckets capped or, under a new kind, filled; and all policers of a tile refill once at each microsecond (R324, R334). -/
def Obligations.Policers : Prop :=
  ∀ (s : State) (now t : Nat), s.quiet → t < s.variant.tiles →
    (∀ r data, s.accepts now r (O.POL_WRITE t) data = true →
      Does (.polWrite now r t data) s (fun u => Written s u r ∧
        u.policer t (octets (leNat data) 0 2 % 16384) = (s.policer t (octets (leNat data) 0 2 % 16384)).written (leNat data) ∧
        (∀ n, n < 16384 → n ≠ octets (leNat data) 0 2 % 16384 → u.policer t n = s.policer t n) ∧ SameObjs [] s u ∧ u.frames = s.frames ∧ u.queues = s.queues)) ∧
    ((s.at now).wholeUs = true → tget 0 (s.tile t).refilled 0 ≠ max s.now now + 1 →
      Does (.policerRefill now t) s (fun u => (∀ n, n < 16384 → u.policer t n = (s.policer t n).refill) ∧
        (∀ x n, x ≠ t → n < 16384 → u.policer x n = s.policer x n) ∧ SameObjs [] s u ∧ (∀ x, x ≠ t → u.tile x = s.tile x) ∧
        u.frames = s.frames))

/-- A frame that reaches its egress tile is admitted to its queue with its first cell, or refused and counted by colour or as lossless, or dropped where no bank group is on;
and its last segment takes the rest of its cells (R338, R339, R346 to R348, R557). -/
def Obligations.Admission : Prop :=
   (∀ (s a : State) (now fid h p q : Nat) (written : List (Nat × Nat × Nat)) (c : Copy) (f : Frame), s.quiet → (s.at now).cellsNow written = a → a.quiet →
        a.both fid h = some (c, f) → c.dst = .port p q → q < 16 → f.hm.desc = none → c.place = .arrived → f.src.tile = tileOf p → a.copyInTurn c f = true →
        a.portUp p = true →
    (∀ pool, field (a.obj (O.PD_ON (tileOf p))) 46 39 ≠ 0 →
        (a.test c.dst).poolFor (a.lossless f) c.colour = some pool → a.hold fid (tileOf p) = {} → a.nextBank (tileOf p) ≠ none → a.launchOf fid h = none →
        (a.burin p).oper = none →
      Does (.basinAdmit now fid h written) s (fun u => (∃ d, u.copy fid h = some d ∧ d.place = .queued ∧ d.pool = pool ∧ d.cells = 1 ∧ d.admitAt = a.now) ∧
        (u.queue p q).frames = (a.queue p q).frames ++ [(fid, h)] ∧ (u.hold fid (tileOf p)).users = [h] ∧ (u.hold fid (tileOf p)).banks.length = 1 ∧
        (u.qstat c.dst.qkey).depth = (a.qstat c.dst.qkey).depth + 1 ∧ (u.qstat c.dst.qkey).admitted = bumpAt (a.qstat c.dst.qkey).admitted c.colour ∧
        u.frame fid = some f)) ∧
    (field (a.obj (O.PD_ON (tileOf p))) 46 39 ≠ 0 → (a.test c.dst).poolFor (a.lossless f) c.colour = none →
      Does (.basinAdmit now fid h written) s (fun u => u.copy fid h = none ∧ u.obj (O.PCNT p (67 + 4 * q)) = (a.obj (O.PCNT p (67 + 4 * q)) + 1) % 2 ^ 64 ∧
        (a.lossless f = false → (u.qstat c.dst.qkey).drop = bumpAt (a.qstat c.dst.qkey).drop c.colour) ∧
        (a.lossless f = true → (u.qstat c.dst.qkey).headroom = (a.qstat c.dst.qkey).headroom + 1) ∧ u.queues = a.queues)) ∧
    (field (a.obj (O.PD_ON (tileOf p))) 46 39 = 0 →
      Does (.basinAdmit now fid h written) s (fun u => u.copy fid h = none ∧
        u.obj (O.UNREACH_DROP (tileOf p)) = (a.obj (O.UNREACH_DROP (tileOf p)) + 1) % 2 ^ 64 ∧ u.queues = a.queues))) ∧
   (∀ (s : State) (now fid h p q : Nat) (c : Copy) (f : Frame), s.quiet → s.both fid h = some (c, f) → c.dst = .port p q → q < 16 → f.hm.desc = none →
    (f.lastSeg = true → c.complete = false → (s.hold fid (tileOf p)).users.contains h = true →
        ((s.at now).growHold fid (tileOf p) (max (c.need f) (s.hold fid (tileOf p)).banks.length)).isSome = true → (s.burin p).oper = none →
      Does (.basinFrameComplete now fid h) s (fun u => (∃ d, u.copy fid h = some d ∧ d.complete = true ∧ d.cells = max (c.need f) (s.hold fid (tileOf p)).banks.length ∧ d.place = c.place) ∧
        (u.hold fid (tileOf p)).users = (s.hold fid (tileOf p)).users ∧
        (u.hold fid (tileOf p)).banks.length = max (c.need f) (s.hold fid (tileOf p)).banks.length ∧ u.frame fid = some f)))

/-- Bank groups are enabled by a write and switch off once empty; at a sample instant every queue of the tile is sampled; and the statistics of one queue or of all are
cleared, their occupancy kept (R340, R341, R351 to R354, R557). -/
def Obligations.BasinUpkeep : Prop :=
  ∀ (s : State) (now t : Nat), s.quiet → t < s.variant.tiles →
    (∀ r data, s.accepts now r (O.GROUPS_EN t) data = true →
      Does (.groupsEnWrite now r t data) s (fun u => Written s u r ∧ u.obj (O.GROUPS_EN t) = leNat data ∧ SameObjs [O.GROUPS_EN t] s u ∧ u.datapath = s.datapath)) ∧
    (∀ g, g < 8 → s.groupUse t g = 0 → bit (s.obj (O.BASIN_PWR t)) g = true →
      Does (.basinGroupEmpty now t g) s (fun u => bit (u.obj (O.GROUPS_EMPTY t)) g = true ∧ SameObjs [O.GROUPS_EMPTY t] s u ∧ u.tiles = s.tiles ∧
        u.traffic = s.traffic)) ∧
    (∀ g, g < 8 → s.groupUse t g = 0 → bit (s.obj (O.BASIN_PWR t)) g = false →
      Does (.basinGroupEmpty now t g) s (fun u => bit (u.obj (O.GROUPS_EMPTY t)) g = true ∧ bit (u.obj (O.PD_ON t)) (39 + g) = false ∧
        SameObjs [O.GROUPS_EMPTY t, O.PD_ON t] s u ∧ u.tiles = s.tiles ∧ u.traffic = s.traffic)) ∧
    (∀ written a, (s.at now).cellsNow written = a → a.quiet → a.runs t = true → a.L % (a.obj (O.SAMPLE_INTERVAL t) * usU) = 0 →
      Does (.queueSample now t written) s (fun u => (∀ d ∈ a.sampled t, (u.qstat d.qkey).samples = (a.qstat d.qkey).samples + 1 ∧
          (u.qstat d.qkey).depth = (a.qstat d.qkey).depth ∧
          tget 0 (u.qstat d.qkey).depthHist (depthBin (a.qstat d.qkey).depth) =
            min (tget 0 (a.qstat d.qkey).depthHist (depthBin (a.qstat d.qkey).depth) + 1) (2 ^ 32 - 1)) ∧
        SameObjs [] a u ∧ (∀ x, x ≠ t → u.tile x = a.tile x) ∧ u.queues = a.queues ∧ u.copies = a.copies)) ∧
    (∀ r data, s.accepts now r (O.QSTAT_CLEAR t) data = true → (s.tile t).sampledAt ≠ some (max s.now now) → leNat data = 0xFFFF →
      Does (.qstatClear now r t data) s (fun u => Written s u r ∧ SameObjs [] s u ∧ (∀ n, n < 65536 →
        u.qstat (65536 * t + n) = (s.qstat (65536 * t + n)).cleared (max s.now now) ∨ (s.qstat (65536 * t + n) = {} ∧ u.qstat (65536 * t + n) = {})))) ∧
    (∀ r data, s.accepts now r (O.QSTAT_CLEAR t) data = true → (s.tile t).sampledAt ≠ some (max s.now now) → leNat data ≠ 0xFFFF →
      Does (.qstatClear now r t data) s (fun u => Written s u r ∧ (u.qstat (65536 * t + leNat data) = (s.qstat (65536 * t + leNat data)).cleared (max s.now now) ∨
          (s.qstat (65536 * t + leNat data) = {} ∧ u.qstat (65536 * t + leNat data) = {})) ∧
        (∀ k, k ≠ 65536 * t + leNat data → u.qstat k = s.qstat k) ∧ SameObjs [] s u))

/-- At a port's selection point, among heads that may all be sent, the Burin takes the one whose finish tag precedes the others', the lowest queue between equal tags, and
V takes its tag; with nothing to send nothing happens; and the shapers refill once at each 100 ns, before a selection (R359 to R364, R370). -/
def Obligations.Selection : Prop :=
  ∀ (s a : State) (now p : Nat), s.quiet → p < s.variant.ports → (s.at now).shaperRefill p = a →
    (∀ q fid h, a.selectionPoint p = true → q < 16 → s.headOf p q = some (fid, h) → a.sendable p q = true →
        (∀ x ∈ (s.queue p q).frames, s.launchOf x.1 x.2 = none) →
        (∀ j, j < 16 → a.sendable p j = true ∨ (s.queue p j).frames = []) →
        (∀ j, j < 16 → a.sendable p j = true → j < q → precedes (s.queue p q).head.f (s.queue p j).head.f = true) →
        (∀ j, j < 16 → a.sendable p j = true → q < j → precedes (s.queue p j).head.f (s.queue p q).head.f = false) →
      Does (.burinSelect now p) s (fun u => (u.port p).sel = some ⟨fid, h, q, (s.queue p q).head⟩ ∧ u.obj (O.VTIME p) = (s.queue p q).head.f ∧
        (∀ j, j < 16 → j ≠ q → (u.queue p j).frames = (s.queue p j).frames))) ∧
    ((∀ j, j < 16 → (s.queue p j).frames = []) →
      Does (.burinSelect now p) s (fun u => SameObjs [] s u ∧ u.ports = s.ports ∧ u.tiles = s.tiles ∧ u.traffic = a.traffic)) ∧
    ((s.at now).L % (100 * nsU) = 0 → (s.burin p).refilledAt ≠ some (max s.now now) →
      Does (.shaperRefill now p) s (fun u => (u.burin p).tokens = refillShaper (s.obj (O.PORT_SHAPE p)) (s.burin p).tokens ∧
        (∀ q, q < 16 → (u.queue p q).tokens = refillShaper (s.obj (O.QCFG p q)) (s.queue p q).tokens ∧ (u.queue p q).frames = (s.queue p q).frames) ∧
        SameObjs [] s u ∧ u.tiles = s.tiles ∧ u.ports = s.ports))

/-- The frame in a port's slot starts when the port is free, and its timestamp is queued if it asked for one; a paused one goes back to the head of its queue, and one that is
too long is discarded; a remote fault that an Ethernet port receives holds every start; a cell that fails its CRC is counted; at its end the frame goes on the line, is counted, and leaves the
port free (R236, R245, R460; assumption 86). -/
def Obligations.Transmission : Prop :=
  ∀ (s : State) (now p : Nat) (c : Copy) (f : Frame), s.quiet → p < s.variant.ports → f.hm.desc = none →
    (∀ x, (s.port p).sel = some x → s.both x.fid x.h = some (c, f) → s.link p = 6 → (s.burin p).tx = none → (s.port p).lpi = false → (s.port p).hdWait = false →
        s.launchOf x.fid x.h = none → s.shedHolds p = false → s.carrier p = false → s.pauseAhead p = false → ∀ remote, remote = false ∨ (s.mode p).kind ≠ 0 →
      (bit (s.obj (O.PAUSED_NOW p)) (s.prioOf p x.q) = false → s.flag (O.HATCH_ENABLE p) = false → (c.complete = true → c.len f ≤ s.maxLen p f.slot (c.bytes f)) →
        Does (.txStartCheck now p false remote) s (fun u => (u.port p).sel = none ∧
          (∃ y, (u.burin p).tx = some y ∧ y.fid = x.fid ∧ y.h = x.h ∧ y.q = x.q ∧ y.began = max s.now now) ∧
          (∃ d, u.copy x.fid x.h = some d ∧ d.place = .sending) ∧
          (f.hm.tsReq = true → x.h = 0 → (tget {} s.tsqs p : Tsq).entries.length < 32 → (tget {} u.tsqs p : Tsq).entries = (tget {} s.tsqs p : Tsq).entries ++
            [(f.hm.frameId, ts64 ((s.at now).txStamp p (s.obj (O.TX_TS_SEL p))).1, ((s.at now).txStamp p (s.obj (O.TX_TS_SEL p))).2)]) ∧
          (f.hm.tsReq = true → x.h = 0 → 32 ≤ (tget {} s.tsqs p : Tsq).entries.length → (tget {} u.tsqs p : Tsq).entries = (tget {} s.tsqs p : Tsq).entries ∧
            (tget {} u.tsqs p : Tsq).ovf = true) ∧ u.frame x.fid = some f)) ∧
      ((s.at now).paused p (s.prioOf p x.q) = true → (s.burin p).oper = none →
        Does (.txStartCheck now p false remote) s (fun u => (u.port p).sel = none ∧ (u.queue p x.q).frames = (x.fid, x.h) :: (s.queue p x.q).frames ∧
          (u.queue p x.q).head = x.head ∧ u.obj (O.PCNT p (66 + 4 * x.q)) = (s.obj (O.PCNT p (66 + 4 * x.q)) + 1) % 2 ^ 64 ∧
          SameObjs [O.PCNT p (66 + 4 * x.q)] s u)) ∧
      ((s.at now).paused p (s.prioOf p x.q) = false → c.complete = true → s.maxLen p f.slot (c.bytes f) < c.len f →
        Does (.txStartCheck now p false remote) s (fun u => (u.port p).sel = none ∧ u.copy x.fid x.h = none ∧
          u.obj (O.PCNT p 16) = (s.obj (O.PCNT p 16) + 1) % 2 ^ 64 ∧ (u.burin p).tx = none))) ∧
    ((s.mode p).kind = 0 → Does (.txStartCheck now p false true) s (fun u => SameObjs [] s u ∧ u.ports = s.ports ∧ u.traffic = s.traffic)) ∧
    (∀ x remote, (s.port p).sel = some x → (s.burin p).tx = none → s.obj (O.ISOLATE_THRESHOLD (tileOf p)) = 0 →
      Does (.txStartCheck now p true remote) s (fun u => u.obj (O.CELL_CRC_FAIL (tileOf p)) = (s.obj (O.CELL_CRC_FAIL (tileOf p)) + 1) % 2 ^ 64)) ∧
    (∀ x, (s.burin p).tx = some x → s.both x.fid x.h = some (c, f) → (s.port p).hdWait = false → c.complete = true → c.bad = false → c.len f ≤ x.limit →
      Does (.txFrameEnd now p) s (fun u => (u.burin p).tx = none ∧ u.copy x.fid x.h = none ∧
        ((s.mode p).kind ≠ 2 → (s.port p).shedTx = [] → u.out = .line p (padFrame x.data) true :: s.out) ∧ u.obj (O.PCNT p 2) = (s.obj (O.PCNT p 2) + 1) % 2 ^ 64 ∧
        u.obj (O.PCNT p 3) = (s.obj (O.PCNT p 3) + c.len f) % 2 ^ 64 ∧ u.obj (O.PCNT p (64 + 4 * x.q)) = (s.obj (O.PCNT p (64 + 4 * x.q)) + 1) % 2 ^ 64 ∧
        u.obj (O.PCNT p (65 + 4 * x.q)) = (s.obj (O.PCNT p (65 + 4 * x.q)) + c.len f) % 2 ^ 64 ∧ (u.port p).idleFrom = max s.now now))

/-- Hatch lists: enabling starts without lists and disabling discards them; a commit makes the administrative list the pending one with its start computed; at its start it
becomes the operating list; and at each boundary the gates shown are those in force (R386, R392 to R396, R407). -/
def Obligations.HatchLists : Prop :=
  ∀ (s : State) (now p : Nat), s.quiet → p < s.variant.ports →
    (∀ r, s.accepts now r (O.HATCH_ENABLE p) [1] = true → s.flag (O.HATCH_ENABLE p) = false →
      Does (.hatchEnableWrite now r p [1]) s (fun u => Written s u r ∧ u.obj (O.HATCH_ENABLE p) = 1 ∧ (u.burin p).oper = none ∧ (u.burin p).pend = none ∧
        u.obj (O.HATCH_STATE p) = 0 ∧ SameObjs [O.HATCH_ENABLE p, O.HATCH_STATE p] s u)) ∧
    (∀ r, s.accepts now r (O.HATCH_ENABLE p) [0] = true →
      Does (.hatchEnableWrite now r p [0]) s (fun u => Written s u r ∧ u.obj (O.HATCH_ENABLE p) = 0 ∧ (u.burin p).oper = none ∧ (u.burin p).pend = none ∧
        u.obj (O.HATCH_STATE p) = 0 ∧ SameObjs [O.HATCH_ENABLE p, O.HATCH_STATE p] s u)) ∧
    (∀ r, s.accepts now r (O.HATCH_COMMIT p) [1] = true → (s.at now).startDue p = none →
      Does (.hatchCommit now r p [1]) s (fun u => Written s u r ∧ u.obj (O.HATCH_STATE p) = 1 ∧ (u.burin p).oper = (s.burin p).oper ∧
        (∃ x, (u.burin p).pend = some x ∧ x.cycle = s.obj (O.ADMIN_CYCLE p) ∧
          x.entries = fitCycle (s.obj (O.ADMIN_CYCLE p)) (listOf (s.adminParts p) (s.obj (O.ADMIN_LENGTH p))) ∧
          x.start = (startTime (unitsOf96 (s.obj (O.ADMIN_BASE p)) / nsU) (s.obj (O.ADMIN_CYCLE p)) (ceilDiv ((s.at now).txRef p) nsU)).1 ∧
          u.obj (O.PEND_START p) = ts96 (x.start * nsU)) ∧ SameObjs [O.HATCH_STATE p, O.PEND_START p, O.LATE_BASE p] s u)) ∧
    (∀ x, (s.at now).startDue p = some x → s.pairOk (.operBase p) = true →
        (∀ j, j < 16 → ∀ e ∈ (s.queue p j).frames, ∀ f, s.frame e.1 = some f → f.hm.desc = none) →
      Does (.hatchListStart now p) s (fun u => (u.burin p).oper = some x.entries ∧ (u.burin p).pend = none ∧ u.obj (O.HATCH_STATE p) = 2 ∧
        u.obj (O.OPER_BASE p) = ts96 (x.base * nsU) ∧ u.obj (O.OPER_CYCLE p) = x.cycle ∧ u.obj (O.OPER_LENGTH p) = x.count ∧
        u.obj (O.OPER_START p) = ts96 (x.start * nsU) ∧ u.obj (O.HATCH_STARTS p) = (s.obj (O.HATCH_STARTS p) + 1) % 2 ^ 64)) ∧
    (s.pairOk (.operBase p) = true →
      Does (.gateEntryChange now p) s (fun u => u.obj (O.GATE_NOW p) = (s.at now).gates p ((s.at now).txRef p) ∧ SameObjs [O.GATE_NOW p] s u ∧
        u.burins = s.burins ∧ u.queues = s.queues ∧ u.tiles = s.tiles))

/-- The masters of A and B: each tick advances the time by a microsecond and the steering in force; a phase written waits for the next tick, and one beyond the jump limit on
a LOCKED domain is counted and reported, and declares a loss; DOM_SRC, the watchdog and a PPS that fails to come declare changes, and each takes effect at the first whole microsecond of L that is at least 2 µs after
its declaration, and not before (R419, R420, R423 to R425, R475). -/
def Obligations.TimeDomains : Prop :=
  ∀ (s : State) (now d : Nat), s.quiet → d < 2 →
    ((s.at now).effectAt % usU = 0 ∧ (s.at now).L + 2 * usU ≤ (s.at now).effectAt ∧ (s.at now).effectAt < (s.at now).L + 3 * usU) ∧
    (∀ r, s.timeOn = true → (s.at now).tickDue d = true → s.pairOk (.steer d) = true → s.timeMember = false → (s.dom d).hold = none →
        r = tickStep (s.obj (O.SLEW_MAX d)) (s.objS 64 (O.FREQ_ADJ d)) (s.dom d).acc ((s.dom d).phaseNew.getD (s.objS 64 (O.PHASE_LEFT d)))
          (s.refCorr (s.obj (O.DOM_BASE d))) →
      Does (.masterTick now d) s (fun u => (u.dom d).time = wrapTime ((s.dom d).time + 65536000 + r.2.2) ∧ (u.dom d).tickAt = (s.at now).L ∧
        (u.dom d).acc = r.1 ∧ (u.dom d).phaseNew = none ∧ u.obj (O.PHASE_LEFT d) = ofS 64 r.2.1 ∧
        u.obj (O.RATE_NOW d) = ofS 64 (tdiv (r.2.2 * 1000000000000) 65536000) ∧ u.dom (otherDom d) = s.dom (otherDom d) ∧
        SameObjs [O.PHASE_LEFT d, O.RATE_NOW d] s u ∧ u.tiles = s.tiles)) ∧
    (∀ r data, s.accepts now r (O.PHASE_ADJ d) data = true →
        (s.domState d ≠ 1 ∨ absI (toS 64 (leNat data)) ≤ s.obj (if d = 0 then O.JUMP_LIMIT_A else O.JUMP_LIMIT_B) * 65536) →
      Does (.phaseAdjWrite now r d data) s (fun u => Written s u r ∧ (u.dom d).phaseNew = some (toS 64 (leNat data)) ∧ (u.dom d).steerAt = (s.at now).L ∧
        (u.dom d).time = (s.dom d).time ∧ SameObjs [O.PHASE_ADJ d] s u)) ∧
    (∀ r data, s.accepts now r (O.PHASE_ADJ d) data = true → s.domState d = 1 → (s.dom d).hold = none → (s.dom d).changes = [] →
        s.obj (if d = 0 then O.JUMP_LIMIT_A else O.JUMP_LIMIT_B) * 65536 < absI (toS 64 (leNat data)) →
      Does (.phaseAdjWrite now r d data) s (fun u => Written s u r ∧ u.obj O.JUMPS = (s.obj O.JUMPS + 1) % 2 ^ 32 ∧
        u.obj O.PATH_VERDICT = (if toS 64 (leNat data) < 0 then 5 else 6) ∧ u.obj O.PATH_VERDICT_DOM = d ∧ (u.dom d).time = (s.dom d).time ∧
        (u.dom d).changes = [⟨false, 5, (s.at now).effectAt⟩] ∧ (∃ x ∈ (u.tile 0).reports, x.kind = 0x56 ∧ x.cls = 8 ∧ x.src = d))) ∧
    (∀ r, s.accepts now r (O.DOM_SRC d) [1] = true → s.timeMember = false → s.domState d ≠ 1 →
      Does (.domSrcOk now r d) s (fun u => Written s u r ∧ u.obj (O.DOM_SRC d) = 1 ∧
        (u.dom d).changes = (s.dom d).changes ++ [⟨true, 0, (s.at now).effectAt⟩] ∧ SameObjs [O.DOM_SRC d] s u)) ∧
    (∀ r, s.accepts now r (O.DOM_SRC d) [2] = true → s.timeMember = false → s.domState d = 1 → (s.dom d).changes = [] →
      Does (.domSrcFailed now r d) s (fun u => Written s u r ∧ u.obj (O.DOM_SRC d) = 2 ∧ (u.dom d).changes = [⟨false, 1, (s.at now).effectAt⟩] ∧
        SameObjs [O.DOM_SRC d] s u)) ∧
    (s.timeOn = true → (s.at now).watchdogDue d = true → (s.dom d).changes = [] →
      Does (.domWatchdogExpiry now d) s (fun u => (u.dom d).changes = [⟨false, 2, (s.at now).effectAt⟩] ∧ SameObjs [] s u ∧ u.tiles = s.tiles)) ∧
    (s.timeOn = true → (s.at now).ppsLossDue d = true → (s.dom d).changes = [] →
      Does (.ppsLoss now d) s (fun u => (u.dom d).changes = [⟨false, 3, (s.at now).effectAt⟩] ∧ SameObjs [] s u ∧ u.tiles = s.tiles)) ∧
    (s.timeOn = true → (∀ c ∈ (s.dom d).changes, (s.at now).L < c.instant) →
      Does (.domainStateEffect now d) s (fun u => u.dom d = s.dom d ∧ SameObjs [] s u ∧ u.tiles = s.tiles)) ∧
    (∀ c, s.timeOn = true → (s.dom d).changes = [c] → c.instant ≤ (s.at now).L → c.lock = true →
      Does (.domainStateEffect now d) s (fun u => u.domState d = 1 ∧ (u.dom d).changes = [] ∧ (u.dom d).lockedAt = (s.at now).L)) ∧
    (∀ c, s.timeOn = true → (s.dom d).changes = [c] → c.instant ≤ (s.at now).L → c.lock = false → s.domState d = 1 → (s.dom (otherDom d)).hold = none →
      Does (.domainStateEffect now d) s (fun u => u.domState d = 2 ∧ u.obj (O.LOST_CAUSE d) = c.cause ∧ u.obj (O.LOSSES d) = (s.obj (O.LOSSES d) + 1) % 2 ^ 32 ∧
        u.obj (O.PHASE_LEFT d) = 0 ∧ (u.dom d).changes = [] ∧ (∃ x ∈ (u.tile 0).reports, x.kind = 0x50 ∧ x.cls = 8 ∧ x.src = d)))

/-- Saddle: at each whole microsecond the difference of the masters is measured and the decision made: a switch to the other domain keeps the presented time, and without one
O is slewed toward 0; a request waits for the decision; DIFF_CLEAR begins the extremes again; and a re-epoch is scheduled, cancelled, and takes place at its instant
(R431 to R438). -/
def Obligations.Saddle : Prop :=
  ∀ (s : State) (now : Nat), s.quiet →
    (s.timeOn = true → (s.at now).decideDue = true → s.reepoch = none → s.upstream = none → s.timeMember = false → s.pairOk .active = true → s.active < 2 →
        (s.dom 0).changes = [] → (s.dom 1).changes = [] →
      ((s.at now).wantsSwitch s.active = true →
        Does (.saddleDecision now) s (fun u => u.active = otherDom s.active ∧ u.obj O.SADDLE_REQ = 0 ∧ u.obj O.SWITCHOVERS = (s.obj O.SWITCHOVERS + 1) % 2 ^ 32 ∧
          u.obj O.PRES_OFFSET = ofS 64 (((s.at now).presented 0 : Int) - (s.at now).masterNow (otherDom s.active)) ∧
          u.obj O.LAST_SWITCH_L = ts96 (s.at now).L ∧ u.obj O.DIFF_BA = ofS 64 (((s.at now).masterNow 1 : Int) - (s.at now).masterNow 0) ∧
          (∃ x ∈ (u.tile 0).reports, x.kind = 0x52 ∧ x.cls = 8 ∧ x.src = otherDom s.active))) ∧
      ((s.at now).wantsSwitch s.active = false → s.domState s.active = 1 →
        Does (.saddleDecision now) s (fun u => u.active = s.active ∧ u.obj O.SADDLE_REQ = 0 ∧ u.obj O.SWITCHOVERS = s.obj O.SWITCHOVERS ∧
          u.obj O.PRES_OFFSET = ofS 64 (slewStep (s.dom s.active).slew s.offsetO) ∧ u.tiles = s.tiles ∧
          SameObjs [O.DIFF_BA, O.DIFF_BA_MIN, O.DIFF_BA_MAX, O.SADDLE_REQ, O.PRES_OFFSET, O.PRES_STATE] s u))) ∧
    (∀ r data, s.accepts now r O.SADDLE_REQ data = true →
      Does (.saddleReqWrite now r data) s (fun u => Written s u r ∧ u.obj O.SADDLE_REQ = leNat data ∧ SameObjs [O.SADDLE_REQ] s u ∧ u.datapath = s.datapath)) ∧
    (∀ r, s.accepts now r O.DIFF_CLEAR [1] = true →
      Does (.diffClear now r [1]) s (fun u => Written s u r ∧ u.obj O.DIFF_BA_MIN = s.obj O.DIFF_BA ∧ u.obj O.DIFF_BA_MAX = s.obj O.DIFF_BA ∧
        SameObjs [O.DIFF_BA_MIN, O.DIFF_BA_MAX] s u ∧ u.datapath = s.datapath)) ∧
    (∀ r data, s.accepts now r O.REEPOCH_CMD data = true → leNat data ≠ 0 →
      Does (.reepochCmd now r data) s (fun u => Written s u r ∧ u.obj O.REEPOCH_STATE = 1 ∧
        u.reepoch = some (leNat data - 1, unitsOf96 (s.obj O.REEPOCH_AT), unitsOf96 (s.obj O.REEPOCH_TIME)) ∧ SameObjs [O.REEPOCH_CMD, O.REEPOCH_STATE] s u)) ∧
    (∀ r, s.accepts now r O.REEPOCH_CMD [0] = true →
      Does (.reepochCancel now r) s (fun u => Written s u r ∧ u.obj O.REEPOCH_STATE = 0 ∧ u.reepoch = none ∧ SameObjs [O.REEPOCH_CMD, O.REEPOCH_STATE] s u)) ∧
    (∀ d i v, s.timeOn = true → s.reepoch = some (d, i, v) → d < 2 → i ≤ (s.at now).L → (s.dom d).hold = none →
      Does (.reepoch now) s (fun u => (u.dom d).time = wrapTime ((wrapTime (v + ((s.at now).L - i) : Nat) : Int) - ((s.at now).L - (s.dom d).tickAt : Nat)) ∧
        (u.dom d).tickAt = (s.dom d).tickAt ∧ u.obj (O.DOM_GEN d) = (s.obj (O.DOM_GEN d) + 1) % 4 ∧
        u.obj O.REEPOCH_STATE = 0 ∧ u.reepoch = none ∧ (s.active = d → u.obj O.PRES_OFFSET = 0) ∧
        (∃ x ∈ (u.tile 0).reports, x.kind = 0x54 ∧ x.cls = 8 ∧ x.src = d)))

/-- A time unit's marker tells its running replicas its domains' times; a replica follows the error that a marker gives, enters FAULT after four bad or missing ones, and
ticks at its servo's rate; and a measured path delay is what it moves toward (R426 to R429). -/
def Obligations.Replicas : Prop :=
  ∀ (s : State) (now rep d : Nat), s.quiet → hasReplica s.variant rep = true → d < 3 →
    (∀ t, t < s.variant.tiles → s.pd t 49 = true → (s.at now).wholeUs = true →
      Does (.timeMarker now t) s (fun u => u.out = .marker t ((s.at now).timeAt t 0) ((s.at now).timeAt t 1) ((s.at now).timeAt t 2) (s.domState 0) (s.domState 1) s.active
          s.offsetO :: s.out ∧
        (rep ∈ s.markerTargets t → (s.replica rep d).running = true → (u.replica rep d).sent = some ((s.at now).timeAt t d)) ∧
        (rep ∉ s.markerTargets t → u.replica rep d = s.replica rep d) ∧ SameObjs [] s u ∧ u.tiles = s.tiles)) ∧
    (∀ arrival v e, (s.replica rep d).running = true → (s.replica rep d).sent = some v → s.pairOk (.replicaActive rep) = true → (s.replica rep d).state = 1 →
        e = ((v : Int) + (s.replica rep d).moveDelay.delay) - (s.replica rep d).at (arrival / 1024 * 1024) →
      (absI e < 131072 →
        Does (.replicaMarker now rep d arrival) s (fun u => (u.replica rep d).state = 1 ∧ (u.replica rep d).sent = none ∧ (u.replica rep d).seen = true ∧
          (u.replica rep d).bad = 0 ∧ (u.replica rep d).integ = (s.replica rep d).integ + e * 12 ∧
          (u.replica rep d).rate = clampI (-100000000) 100000000 (e * 763 + ((s.replica rep d).integ + e * 12)) ∧
          (8 ≤ rep → SameObjs [] s u) ∧ u.tiles = s.tiles)) ∧
      (262144 < absI e → 3 ≤ (s.replica rep d).bad →
        Does (.replicaMarker now rep d arrival) s (fun u => (u.replica rep d).state = 2 ∧
          u.obj (O.REPLICA_FAULTS (repTile rep)) = (s.obj (O.REPLICA_FAULTS (repTile rep)) + 1) % 2 ^ 32 ∧
          (∃ x ∈ (u.tile (repTile rep)).reports, x.kind = 0x51)))) ∧
    (∀ k, (s.replica rep d).running = true → (s.replica rep d).tickAt + usU ≤ (s.at now).L + fastest → k = tickStep 100000 (s.replica rep d).rate (s.replica rep d).acc 0 0 →
      ((s.replica rep d).seen = true ∨ (s.replica rep d).missed < 3 →
        Does (.replicaTick now rep d) s (fun u => (u.replica rep d).time = wrapTime ((s.replica rep d).time + 65536000 + k.2.2) ∧
          (u.replica rep d).tickAt = (s.at now).L ∧ (u.replica rep d).acc = k.1 ∧ (u.replica rep d).seen = false ∧
          (u.replica rep d).missed = (if (s.replica rep d).seen then 0 else (s.replica rep d).missed + 1) ∧
          (u.replica rep d).state = (s.replica rep d).state ∧ SameObjs [] s u ∧ u.tiles = s.tiles)) ∧
      ((s.replica rep d).seen = false → 3 ≤ (s.replica rep d).missed → (s.replica rep d).state = 1 →
        Does (.replicaTick now rep d) s (fun u => (u.replica rep d).state = 2 ∧
          u.obj (O.REPLICA_FAULTS (repTile rep)) = (s.obj (O.REPLICA_FAULTS (repTile rep)) + 1) % 2 ^ 32))) ∧
    (∀ delay : Nat, (s.replica rep d).running = true → (∀ i, (s.replica rep d).delayAt = some i → i + secU ≤ (s.at now).L) →
      Does (.pathDelayMeasure now rep delay) s (fun u => (u.replica rep d).delayTo = delay ∧ (u.replica rep d).delayAt = some (s.at now).L ∧
        (u.replica rep d).delay = (if (s.replica rep d).delayAt = none then (delay : Int) else (s.replica rep d).delay) ∧ SameObjs [] s u ∧ u.tiles = s.tiles))

/-- PPS_OUT rises for its width, skips a pulse that would overlap, and falls; an edge of PPS_IN is captured in the three domains unless it comes within half a second of the
last; REF10M_IN is lost after two bad windows and good again after a hundred; and TSQ_FLUSH empties a port's timestamp queue (R439 to R443, R465). -/
def Obligations.TimeSignals : Prop :=
  ∀ (s : State) (now : Nat), s.quiet →
    (s.timeOn = true → (s.at now).atSecond = true → s.flag O.PPS_OUT_ENABLE = true → s.ppsOut = none →
      Does (.ppsOutPulse now) s (fun u => u.ppsOut = some (max s.now now + s.obj O.PPS_OUT_WIDTH * usU) ∧ SameObjs [] s u ∧ u.tiles = s.tiles)) ∧
    (∀ i, s.timeOn = true → (s.at now).atSecond = true → s.flag O.PPS_OUT_ENABLE = true → s.ppsOut = some i →
      Does (.ppsOutPulse now) s (fun u => u.ppsOut = some i ∧ u.obj O.PPS_OUT_SKIPPED = (s.obj O.PPS_OUT_SKIPPED + 1) % 2 ^ 32 ∧
        SameObjs [O.PPS_OUT_SKIPPED] s u ∧ u.tiles = s.tiles)) ∧
    (∀ i, s.ppsOut = some i → max s.now now < i → Does (.ppsOutPulseEnd now) s (fun u => u.ppsOut = some i ∧ SameObjs [] s u ∧ u.tiles = s.tiles)) ∧
    (∀ i, s.ppsOut = some i → i ≤ max s.now now → Does (.ppsOutPulseEnd now) s (fun u => u.ppsOut = none ∧ SameObjs [] s u ∧ u.tiles = s.tiles)) ∧
    (s.timeOn = true → s.flag O.PPS_IN_ENABLE = true → (∀ e, s.ppsEdge = some e → e + 500 * msU ≤ max s.now now) →
      Does (.ppsInEdge now) s (fun u => u.ppsEdge = some (max s.now now) ∧ u.obj O.PPS_IN_A = (s.at now).ppsValue 0 ∧ u.obj O.PPS_IN_B = (s.at now).ppsValue 1 ∧
        u.obj O.PPS_IN_L = (s.at now).ppsValue 2 ∧ u.obj O.PPS_IN_SEQ = (s.obj O.PPS_IN_SEQ + 1) % 2 ^ 32 ∧
        SameObjs [O.PPS_IN_A, O.PPS_IN_B, O.PPS_IN_L, O.PPS_IN_SEQ] s u ∧ u.tiles = s.tiles)) ∧
    (s.timeOn = true → s.flag O.PPS_IN_ENABLE = false → (∀ e, s.ppsEdge = some e → e + 500 * msU ≤ max s.now now) →
      Does (.ppsInEdge now) s (fun u => u.ppsEdge = some (max s.now now) ∧ SameObjs [] s u ∧ u.tiles = s.tiles)) ∧
    (∀ e, s.timeOn = true → s.ppsEdge = some e → max s.now now < e + 500 * msU →
      Does (.ppsInEdge now) s (fun u => u.ppsEdge = some e ∧ u.obj O.PPS_IN_GLITCH = (s.obj O.PPS_IN_GLITCH + 1) % 2 ^ 32 ∧ SameObjs [O.PPS_IN_GLITCH] s u ∧
        u.tiles = s.tiles)) ∧
    (∀ off, s.timeOn = true → (∀ i, s.refAt = some i → i + msU ≤ max s.now now) → absI off ≤ 50000000 →
      Does (.ref10mWindow now true off) s (fun u => u.refBad = 0 ∧ u.refGood = s.refGood + 1 ∧ u.obj O.REF_OFFSET = ofS 32 off ∧
        u.obj O.REF_STATE = (if 100 ≤ s.refGood + 1 then 1 else s.obj O.REF_STATE) ∧ SameObjs [O.REF_OFFSET, O.REF_STATE] s u ∧ u.tiles = s.tiles)) ∧
    (∀ edges off, s.timeOn = true → (∀ i, s.refAt = some i → i + msU ≤ max s.now now) → edges = false ∨ 50000000 < absI off → s.obj O.REF_STATE ≠ 1 ∨ s.refBad = 0 →
      Does (.ref10mWindow now edges off) s (fun u => u.refBad = s.refBad + 1 ∧ u.refGood = 0 ∧ SameObjs [] s u ∧ u.tiles = s.tiles)) ∧
    (∀ edges off, s.timeOn = true → (∀ i, s.refAt = some i → i + msU ≤ max s.now now) → edges = false ∨ 50000000 < absI off → s.obj O.REF_STATE = 1 → 1 ≤ s.refBad →
      Does (.ref10mWindow now edges off) s (fun u => u.obj O.REF_STATE = 0 ∧ u.obj O.REF_LOSSES = (s.obj O.REF_LOSSES + 1) % 2 ^ 32 ∧ u.refGood = 0 ∧
        (∃ x ∈ (u.tile 0).reports, x.kind = 0x55 ∧ x.src = 4) ∧ SameObjs [O.REF_STATE, O.REF_LOSSES] s u)) ∧
    (∀ r p, p < s.variant.ports → s.accepts now r (O.TSQ_FLUSH p) [1] = true →
      Does (.tsqFlush now r p [1]) s (fun u => Written s u r ∧ (tget {} u.tsqs p : Tsq) = {} ∧ SameObjs [] s u ∧ u.queues = s.queues))

/-- A port's path detector learns its base from PATH_LEARN samples, follows samples near it, and takes PATH_STEP_COUNT outliers in a row as a step: of a LOCKED domain it
starts a hold, or declares a loss where the other domain is held or not LOCKED; a hold that ends within the limit is released with the phase owed, and one beyond it is a
loss (R470, R471, R473, R474). -/
def Obligations.PathChecks : Prop :=
  ∀ (s : State) (now : Nat), s.quiet →
    (∀ r p data, p < s.variant.ports → s.accepts now r (O.PATH_SAMPLE p) data = true → s.obj (O.PATH_STATE p) = 0 →
      ((s.path p).n + 1 ≠ (s.path p).learn →
        Does (.pathSample now r p data) s (fun u => Written s u r ∧ (u.path p).sum = (s.path p).sum + toS 64 (leNat data) ∧ (u.path p).n = (s.path p).n + 1 ∧
          SameObjs [O.PATH_SAMPLE p] s u)) ∧
      ((s.path p).n + 1 = (s.path p).learn →
        Does (.pathSample now r p data) s (fun u => Written s u r ∧ u.obj (O.PATH_STATE p) = 1 ∧
          u.obj (O.PATH_BASE p) = ofS 64 (tdiv ((s.path p).sum + toS 64 (leNat data)) ((s.path p).n + 1 : Nat)) ∧
          SameObjs [O.PATH_SAMPLE p, O.PATH_BASE p, O.PATH_STATE p] s u))) ∧
    (∀ r p data dev, p < s.variant.ports → s.accepts now r (O.PATH_SAMPLE p) data = true → s.obj (O.PATH_STATE p) ≠ 0 →
        dev = toS 64 (leNat data) - s.objS 64 (O.PATH_BASE p) →
      (absI dev ≤ s.obj (O.PATH_STEP_NS p) * 65536 →
        Does (.pathSample now r p data) s (fun u => Written s u r ∧ (u.path p).run = 0 ∧
          u.obj (O.PATH_BASE p) = ofS 64 (s.objS 64 (O.PATH_BASE p) + tdiv dev 16) ∧ SameObjs [O.PATH_SAMPLE p, O.PATH_BASE p] s u)) ∧
      (s.obj (O.PATH_STEP_NS p) * 65536 < absI dev → (s.path p).run + 1 < s.obj (O.PATH_STEP_COUNT p) →
        Does (.pathSample now r p data) s (fun u => Written s u r ∧ (u.path p).run = (s.path p).run + 1 ∧ SameObjs [O.PATH_SAMPLE p] s u)) ∧
      (s.obj (O.PATH_STEP_NS p) * 65536 < absI dev → s.obj (O.PATH_STEP_COUNT p) ≤ (s.path p).run + 1 → s.obj (O.PATH_DOMAIN p) = 0 →
        Does (.pathSample now r p data) s (fun u => Written s u r ∧ u.obj (O.PATH_STEPS p) = (s.obj (O.PATH_STEPS p) + 1) % 2 ^ 32 ∧
          u.obj (O.PATH_LAST_STEP p) = ofS 64 dev ∧ u.obj (O.PATH_STATE p) = 0 ∧
          SameObjs [O.PATH_SAMPLE p, O.PATH_STEPS p, O.PATH_LAST_STEP p, O.PATH_STATE p] s u))) ∧
    (∀ r p data d dev, p < s.variant.ports → d < 2 → s.accepts now r (O.PATH_SAMPLE p) data = true → s.obj (O.PATH_STATE p) ≠ 0 →
        dev = toS 64 (leNat data) - s.objS 64 (O.PATH_BASE p) → s.obj (O.PATH_STEP_NS p) * 65536 < absI dev → s.obj (O.PATH_STEP_COUNT p) ≤ (s.path p).run + 1 →
        s.obj (O.PATH_DOMAIN p) = d + 1 →
      (s.domState d ≠ 1 ∨ (s.dom (otherDom d)).hold = none ∧ (s.dom d).hold.isSome = true →
        Does (.pathSample now r p data) s (fun u => Written s u r ∧ u.obj (O.PATH_STEPS p) = (s.obj (O.PATH_STEPS p) + 1) % 2 ^ 32 ∧
          u.obj (O.PATH_STATE p) = 0 ∧ u.dom d = s.dom d ∧ SameObjs [O.PATH_SAMPLE p, O.PATH_STEPS p, O.PATH_LAST_STEP p, O.PATH_STATE p] s u ∧ (∀ i, (u.tile i).reports = (s.tile i).reports))) ∧
      (s.domState d = 1 → (s.dom (otherDom d)).hold.isSome = true → (s.dom d).changes = [] →
        Does (.pathSample now r p data) s (fun u => Written s u r ∧ u.obj (O.PATH_STEPS p) = (s.obj (O.PATH_STEPS p) + 1) % 2 ^ 32 ∧
          u.obj (O.PATH_STATE p) = 0 ∧ u.obj O.PATH_VERDICT = 4 ∧ u.obj O.PATH_VERDICT_DOM = otherDom d ∧ (u.dom d).hold = none ∧
          (u.dom (otherDom d)).hold = none ∧ (u.dom d).changes = [⟨false, 5, (s.at now).effectAt⟩] ∧
          (s.domState (otherDom d) = 1 → (s.dom (otherDom d)).changes = [] → (u.dom (otherDom d)).changes = [⟨false, 5, (s.at now).effectAt⟩]))) ∧
      (s.domState d = 1 → (s.dom (otherDom d)).hold = none → (s.dom d).hold = none → s.domState (otherDom d) ≠ 1 → (s.dom d).changes = [] →
        Does (.pathSample now r p data) s (fun u => Written s u r ∧ u.obj (O.PATH_STEPS p) = (s.obj (O.PATH_STEPS p) + 1) % 2 ^ 32 ∧
          u.obj (O.PATH_STATE p) = 0 ∧ u.obj O.PATH_VERDICT = 3 ∧ u.obj O.PATH_VERDICT_DOM = d ∧
          (u.dom d).changes = [⟨false, 5, (s.at now).effectAt⟩])) ∧
      (s.domState d = 1 → (s.dom (otherDom d)).hold = none → (s.dom d).hold = none → s.domState (otherDom d) = 1 →
        Does (.pathSample now r p data) s (fun u => Written s u r ∧ u.obj (O.PATH_STEPS p) = (s.obj (O.PATH_STEPS p) + 1) % 2 ^ 32 ∧
          u.obj (O.PATH_STATE p) = 0 ∧ u.obj O.HOLD_D0 = s.obj O.DIFF_BA ∧ bit (u.obj O.HOLD_STATE) d = true ∧
          (u.dom d).hold = some ⟨(s.dom d).time, (s.dom d).tickAt, (s.dom d).acc, (s.dom d).phaseNew.getD (s.objS 64 (O.PHASE_LEFT d)), (s.dom d).freq,
            max s.now now + s.obj O.PATH_HOLD * msU⟩ ∧ (u.dom d).changes = (s.dom d).changes ∧ (∀ i, (u.tile i).reports = (s.tile i).reports)))) ∧
    (∀ d h dev pred, d < 2 → s.timeOn = true → (s.dom d).hold = some h → h.endAt ≤ max s.now now → dev = (h.time : Int) - (s.dom d).time →
        pred = (if d = 0 then s.objS 64 O.DIFF_BA - dev else s.objS 64 O.DIFF_BA + dev) →
      (absI (pred - s.objS 64 O.HOLD_D0) ≤ s.obj O.DIFF_STEP_NS * 65536 →
        Does (.pathHoldEnd now d) s (fun u => (u.dom d).hold = none ∧ bit (u.obj O.HOLD_STATE) d = false ∧ u.obj O.PATH_VERDICT = 1 ∧
          u.obj (O.PHASE_LEFT d) = ofS 64 (dev + (s.dom d).phaseNew.getD h.phaseLeft) ∧ u.obj (O.FREQ_ADJ d) = s.obj (O.FREQ_ADJ d) ∧
          (u.dom d).changes = (s.dom d).changes ∧ (∃ x ∈ (u.tile 0).reports, x.kind = 0x57 ∧ x.cls = 8 ∧ x.src = d ∧ x.sev = 1))) ∧
      (s.obj O.DIFF_STEP_NS * 65536 < absI (pred - s.objS 64 O.HOLD_D0) → s.domState d = 1 → (s.dom d).changes = [] →
        Does (.pathHoldEnd now d) s (fun u => (u.dom d).hold = none ∧ bit (u.obj O.HOLD_STATE) d = false ∧ u.obj O.PATH_VERDICT = 2 ∧
          u.obj O.PATH_VERDICT_DOM = d ∧ u.obj (O.FREQ_ADJ d) = ofS 64 (s.dom d).freq ∧ (u.dom d).phaseNew = none ∧
          (u.dom d).changes = [⟨false, 5, (s.at now).effectAt⟩] ∧ (∃ x ∈ (u.tile 0).reports, x.kind = 0x57 ∧ x.cls = 8 ∧ x.src = d ∧ x.sev = 2))))

/-- The counter unit: an event counter that is configured starts again at 0; EVC_SAMPLE adds to the counters of an occupancy once in a nanosecond, and to no other; a preset
replaces a counter, keeps the flag of an earlier cycle and loses a wrap of its own; a window that has ended with its last frame is published; a new WIN_LEN holds from its next boundary; and a page that is granted gets the next
MAP_GEN (R528 to R530, R534, R536 to R539, R543). -/
def Obligations.CounterUnit : Prop :=
  ∀ (s : State) (now : Nat) (r : Requester), s.quiet →
    (∀ t n data, t < s.variant.tiles → n < 64 → s.accepts now r (O.EVC_CFG t n) data = true →
      Does (.evcCfgWrite now r t n data) s (fun u => Written s u r ∧ u.obj (O.EVC_CFG t n) = leNat data ∧ u.obj (O.EVC_VALUE t n) = 0 ∧
        tget none u.wraps (O.EVC_VALUE t n) = none ∧ SameObjs [O.EVC_CFG t n, O.EVC_VALUE t n] s u ∧ u.tiles = s.tiles ∧ u.datapath = s.datapath)) ∧
    (∀ t, t < s.variant.tiles → (s.tile t).evcAt = (s.at now).L / nsU + 1 →
      Does (.evcSample now t) s (fun u => SameObjs [] s u ∧ u.tiles = s.tiles ∧ u.traffic = s.traffic)) ∧
    (∀ t, t < s.variant.tiles → (s.tile t).evcAt ≠ (s.at now).L / nsU + 1 →
      Does (.evcSample now t) s (fun u => SameObjs ((List.range 64).map (O.EVC_VALUE t)) s u ∧ (∀ i, i ≠ t → u.tile i = s.tile i) ∧
        (u.tile t).reports = (s.tile t).reports ∧ (u.tile t).evcAt = (s.at now).L / nsU + 1 ∧ u.traffic = s.traffic ∧
        (∀ i, i < 64 → (s.evcCfg t i).1 < 2 → u.obj (O.EVC_VALUE t i) = s.obj (O.EVC_VALUE t i)) ∧
        (∀ i, i < 64 → (s.evcCfg t i).1 = 3 → (s.evcCfg t i).2.1 ≤ 0x25 → 0x20 ≤ (s.evcCfg t i).2.1 →
          u.obj (O.EVC_VALUE t i) = (s.obj (O.EVC_VALUE t i) + (s.occupancy t (s.evcCfg t i).2.1 (s.evcCfg t i).2.2.1).1) % 2 ^ 64) ∧
        (∀ i, i < 64 → (s.evcCfg t i).1 = 2 → (s.evcCfg t i).2.1 = 0x21 →
          u.obj (O.EVC_VALUE t i) = (if (s.evcCfg t i).2.2.2 < 131072 - s.obj (O.CELLS_FREE t) then (s.obj (O.EVC_VALUE t i) + 1) % 2 ^ 64
            else s.obj (O.EVC_VALUE t i))))) ∧
    (∀ t data n, t < s.variant.tiles → n < 64 → s.accepts now r (O.CNT_PRESET t) data = true → octet (leNat data) 0 = 18 → octets (leNat data) 2 2 = n →
      Does (.cntPreset now r t data) s (fun u => Written s u r ∧ u.obj (O.EVC_VALUE t n) = octets (leNat data) 4 8 ∧
        (∀ k, tget none u.wraps k = (if k = O.EVC_VALUE t n ∧ tget none s.wraps k = some (max s.now now) then none else tget none s.wraps k)) ∧
        SameObjs [O.EVC_VALUE t n] s u ∧ u.tiles = s.tiles ∧ u.datapath = s.datapath)) ∧
    (∀ p b, p < s.variant.ports → b = bounds (s.wins p).grids (s.wins p).next →
      (b.2.1 ≤ (s.at now).L → (s.at now).winBusy p b.2.1 = false →
        Does (.windowPublish now p) s (fun u =>
          u.obj (O.WIN_LAST p) = leNat (winRecord (s.wins p).next b.2.1 (s.wins p).seq (tget {} (s.wins p).wins (s.wins p).next) b.2.2
            ((s.at now).winInactive p (s.wins p).next b.2.1)) ∧
          (u.wins p).next = b.2.1 ∧ (u.wins p).seq = ((s.wins p).seq + 1) % 2 ^ 32 ∧ tget {} (u.wins p).wins (s.wins p).next = {} ∧
          (∀ q, q ≠ p → u.wins q = s.wins q) ∧ SameObjs [O.WIN_LAST p, O.WIN_HIST p] s u ∧ u.tiles = s.tiles)) ∧
      ((s.at now).L < b.2.1 → Does (.windowPublish now p) s (fun u => u.wins p = s.wins p ∧ SameObjs [] s u ∧ u.tiles = s.tiles ∧ u.traffic = s.traffic))) ∧
    (∀ p data, p < s.variant.ports → s.accepts now r (O.WIN_LEN p) data = true →
      Does (.winLenWrite now r p data) s (fun u => Written s u r ∧ u.obj (O.WIN_LEN p) = leNat data ∧ (u.wins p).next = (s.wins p).next ∧
        (∃ b, (u.wins p).grids.getLast? = some (b, leNat data) ∧ (s.at now).L ≤ b ∧ b < (s.at now).L + max 1 (leNat data) * usU ∧
          b % (max 1 (leNat data) * usU) = 0) ∧ SameObjs [O.WIN_LEN p] s u ∧ u.tiles = s.tiles)) ∧
    (∀ t k, t < s.variant.tiles → k < 8 →
      (s.accepts now r (O.PAGE_GRANT t k) [1] = true →
        Does (.pageGrantWrite now r t k [1]) s (fun u => Written s u r ∧ u.obj (O.PAGE_GRANT t k) = 1 ∧
          tget 0 u.mapGen (8 * t + k) = (tget 0 s.mapGen (8 * t + k) + 1) % 2 ^ 32 ∧ SameObjs [O.PAGE_GRANT t k] s u ∧ (∀ i, (u.tile i).reports = (s.tile i).reports))) ∧
      (s.accepts now r (O.PAGE_GRANT t k) [0] = true →
        Does (.pageGrantWrite now r t k [0]) s (fun u => Written s u r ∧ u.obj (O.PAGE_GRANT t k) = 0 ∧ u.mapGen = s.mapGen ∧
          SameObjs [O.PAGE_GRANT t k] s u ∧ (∀ i, (u.tile i).reports = (s.tile i).reports))))

/-- The proof store: each operating second is counted once, and bins a temperature for each powered tile; a checkpoint is taken after 900 s, or on request, which is held for 15
minutes after the last request; one that completes stands in the next good slot, and a slot that fails is marked bad; and PS_SEL 0x800 copies the live state (R545 to
R548, R550). -/
def Obligations.ProofStore : Prop :=
  ∀ (s : State) (now : Nat) (r : Requester), s.quiet →
    ((s.at now).up 0 = true → max s.now now < s.psSampleAt + secU →
      Does (.psSecondSample now) s (fun u => u.proof = s.proof ∧ SameObjs [] s u ∧ u.tiles = s.tiles ∧ u.traffic = s.traffic)) ∧
    ((s.at now).up 0 = true → s.psSampleAt + secU ≤ max s.now now →
      Does (.psSecondSample now) s (fun u => u.psSampleAt = max s.now now ∧ tget 0 u.proof.life 1 = min (tget 0 s.proof.life 1 + 1) (2 ^ 64 - 1) ∧
        (∀ t, t < s.variant.tiles → (s.tile t).vregReq = true → (s.tile t).vregRdy = true →
          tget 0 u.proof.hist (32 * t + tempBin (s.objS 32 (O.TILE_TEMP t))) =
            min (tget 0 s.proof.hist (32 * t + tempBin (s.objS 32 (O.TILE_TEMP t))) + 1) (2 ^ 32 - 1)) ∧
        (∀ l, l < s.variant.ports → (u.lane l).fecSec = 0 ∧ (u.lane l).uncSec = false) ∧ u.proof.log = s.proof.log ∧
        { u.traffic with psSampleAt := s.psSampleAt } = s.traffic)) ∧
    ((s.at now).up 0 = true → s.psNow = none → s.psLastAt + 900 * secU ≤ max s.now now →
      Does (.psPeriodic now) s (fun u => u.psNow = some ⟨0, s.obj O.LC_STATE, (s.at now).tagP 0, s.obj O.PS_SEQ + 1, ts96 ((s.at now).presented 0), s.proof⟩ ∧
        u.psLastAt = max s.now now ∧ u.proof = s.proof)) ∧
    ((s.at now).up 0 = true → max s.now now < s.psLastAt + 900 * secU →
      Does (.psPeriodic now) s (fun u => u.psNow = s.psNow ∧ u.psLastAt = s.psLastAt ∧ SameObjs [] s u ∧ u.tiles = s.tiles ∧ u.traffic = s.traffic)) ∧
    (s.accepts now r O.PS_CHECKPOINT [1] = true → s.psNow = none → s.psWait = [] → (∀ i, s.psHostAt = some i → i + 900 * secU ≤ max s.now now) →
      Does (.psCheckpoint now r [1]) s (fun u => Written s u r ∧ (∃ x, u.psNow = some x ∧ x.cause = 2 ∧ x.seq = s.obj O.PS_SEQ + 1 ∧ x.copy = s.proof) ∧
        u.psHostAt = some (max s.now now) ∧ u.psHeld = s.psHeld)) ∧
    (∀ i, s.accepts now r O.PS_CHECKPOINT [1] = true → (s.psHostAt = some i ∧ max s.now now < i + 900 * secU) ∨ s.psWait.contains 2 = true →
      Does (.psCheckpoint now r [1]) s (fun u => Written s u r ∧ u.psHeld = true ∧ u.psNow = s.psNow ∧ u.psHostAt = s.psHostAt ∧ u.psWait = s.psWait ∧ SameObjs [] s u ∧ u.tiles = s.tiles)) ∧
    (∀ i, (s.at now).up 0 = true → s.psHeld = true → s.psHostAt = some i → i + 900 * secU ≤ max s.now now → s.psNow = none →
      Does (.psHoldExpiry now) s (fun u => u.psHeld = false ∧ u.psHostAt = some (max s.now now) ∧
        (∃ x, u.psNow = some x ∧ x.cause = 2 ∧ x.seq = s.obj O.PS_SEQ + 1 ∧ x.copy = s.proof))) ∧
    (∀ x j, s.psNow = some x → s.psWait = [] → s.nextSlot s.psFrom = some j → (∀ e ∈ s.psSlots, ∀ y, e.2 = some y → y.seq < x.seq) →
      Does (.psCheckpointDone now []) s (fun u => u.psNow = none ∧ tget none u.psSlots j = some x ∧ u.obj O.PS_LATEST = j ∧ u.obj O.PS_SEQ = x.seq ∧
        (∀ k, k ≠ j → tget none u.psSlots k = tget none s.psSlots k) ∧ SameObjs [O.PS_LATEST, O.PS_SEQ] s u ∧ u.tiles = s.tiles) ∧
      Does (.psCheckpointDone now [true]) s (fun u => u.psNow = none ∧ bit (u.obj O.PS_BAD_SLOTS) j = true ∧ tget none u.psSlots j = none ∧
        tget 0 u.proof.life 18 = min (tget 0 s.proof.life 18 + 1) (2 ^ 64 - 1))) ∧
    (∀ data, s.accepts now r O.PS_SEL data = true →
      Does (.psSelWrite now r data) s (fun u => Written s u r ∧ u.selection r O.PS_SEL = leNat data ∧ (∀ o, o ≠ r → u.selection o O.PS_SEL = s.selection o O.PS_SEL) ∧
        u.psCopy = (if leNat data / 256 = 0x800 then s.proof else s.psCopy) ∧ u.proof = s.proof))

/-- Budgets and the scrub: a period that begins brings the budgets written since into force, with nothing used; a scrub read of the memory whose turn it is takes one unit, waits when none is
left, stops where the budget is 0, and counts a pass at the last word; a corrected error is counted and reported, and an uncorrectable one makes the record bad until it is rewritten, or is fatal in the
control block's memory (R585, R586, R588, R590, R594, R596, R612). -/
def Obligations.Maintenance : Prop :=
  ∀ (s : State) (now t : Nat), s.quiet → t < s.variant.tiles →
    ((s.at now).wholeUs = true → (s.tile t).periodAt ≠ max s.now now + 1 →
      Does (.budgetPeriod now t) s (fun u => (∀ i, i < 6 → u.force (O.BUDGET t i) = s.obj (O.BUDGET t i)) ∧ u.force (O.MAINT_SHARE t) = s.obj (O.MAINT_SHARE t) ∧
        (u.tile t).budgetUsed = [] ∧ (u.tile t).waited = [] ∧ SameObjs [] s u ∧ u.traffic = s.traffic)) ∧
    ((s.at now).wholeUs = false ∨ (s.tile t).periodAt = max s.now now + 1 → Does (.budgetPeriod now t) s (fun u => u.inForce = s.inForce ∧ SameObjs [] s u ∧ u.tiles = s.tiles ∧ u.traffic = s.traffic)) ∧
    (∀ mem loc outcome, s.up t = false →
      Does (.scrubRead now t mem loc outcome) s (fun u => SameObjs [] s u ∧ u.tiles = s.tiles ∧ u.traffic = s.traffic)) ∧
    (∀ mem loc res, s.up t = true → scrubRes mem = some res → scrubTurn (s.scrubWords t) (s.tile t).scrubAt ≠ mem →
      Does (.scrubRead now t mem loc 0) s (fun u => SameObjs [] s u ∧ u.tiles = s.tiles ∧ u.traffic = s.traffic)) ∧
    (∀ mem loc outcome res, s.up t = true → scrubRes mem = some res → scrubTurn (s.scrubWords t) (s.tile t).scrubAt = mem →
        (mem = 0 → s.scrubs t (loc % 64) = true) →
      (s.budget t 0 res = 0 →
        Does (.scrubRead now t mem loc outcome) s (fun u => SameObjs [] s u ∧ u.tiles = s.tiles ∧ u.traffic = s.traffic)) ∧
      (s.budget t 0 res ≠ 0 → s.budgetLeft t 0 res = 0 → tget false (s.tile t).waited 0 = false →
        Does (.scrubRead now t mem loc outcome) s (fun u => u.obj (O.BUDGET_WAIT t 0) = (s.obj (O.BUDGET_WAIT t 0) + 1) % 2 ^ 64 ∧
          tget false (u.tile t).waited 0 = true ∧ SameObjs [O.BUDGET_WAIT t 0] s u ∧ u.traffic = s.traffic)) ∧
      (s.budgetLeft t 0 res ≠ 0 → outcome = 0 →
        Does (.scrubRead now t mem loc outcome) s (fun u => tget 0 (u.tile t).budgetUsed res = tget 0 (s.tile t).budgetUsed res + 1 ∧
          (u.tile t).scrubAt = (if (s.tile t).scrubAt + 1 < (s.scrubWords t).foldl (· + ·) 0 then (s.tile t).scrubAt + 1 else 0) ∧
          u.obj (O.SCRUB_PASSES t) = (if (s.tile t).scrubAt + 1 < (s.scrubWords t).foldl (· + ·) 0 then s.obj (O.SCRUB_PASSES t)
            else (s.obj (O.SCRUB_PASSES t) + 1) % 2 ^ 32) ∧
          SameObjs [O.SCRUB_PASSES t] s u ∧ u.traffic = s.traffic))) ∧
    (∀ mem loc, s.up t = true → (∀ res, scrubRes mem = some res → scrubTurn (s.scrubWords t) (s.tile t).scrubAt = mem →
        (mem = 0 → s.scrubs t (loc % 64) = true) ∧ s.budgetLeft t 0 res ≠ 0) →
      Does (.scrubRead now t mem loc 1) s (fun u => u.obj (O.ECC_CORR t) = (s.obj (O.ECC_CORR t) + 1) % 2 ^ 64 ∧
        (∃ x ∈ (u.tile t).reports, x.kind = 0x10 ∧ x.cls = 0 ∧ x.src = memBlock mem) ∧ SameObjs [O.ECC_CORR t, O.SCRUB_PASSES t] s u ∧ u.traffic = s.traffic)) ∧
    (s.up t = true → s.obj (O.ISOLATE_THRESHOLD t) = 0 →
      (∀ loc, s.budgetLeft t 0 1 ≠ 0 → loc < (s.emOf t).length →
        Does (.scrubRead now t 1 loc 2) s (fun u => u.emOf t = (s.emOf t).modify loc (fun e => { e with bad := true }) ∧
          u.obj (O.BAD_ENTRY t) = 1 + loc % 2 ^ 32 * 2 ^ 32 ∧ u.obj (O.ECC_UNCORR t) = (s.obj (O.ECC_UNCORR t) + 1) % 2 ^ 64 ∧
          u.obj (O.INTEGRITY_FAULTS t) = (s.obj (O.INTEGRITY_FAULTS t) + 1) % 2 ^ 64 ∧
          SameObjs [O.BAD_ENTRY t, O.ECC_UNCORR t, O.INTEGRITY_FAULTS t] s u)) ∧
      (∀ loc, s.budgetLeft t 0 1 ≠ 0 →
        Does (.scrubRead now t 2 loc 2) s (fun u => (∀ k, k < 4 → tget false u.tcBad (tcNum t (loc / 16384 % 2) (loc % 16384) * 4 + k) = true) ∧
          u.obj (O.BAD_ENTRY t) = 2 + loc / 16384 % 2 * 256 + loc % 16384 * 2 ^ 32 ∧
          SameObjs [O.BAD_ENTRY t, O.ECC_UNCORR t, O.INTEGRITY_FAULTS t, O.SCRUB_PASSES t] s u)) ∧
      (∀ loc, loc < 16384 →
        Does (.scrubRead now t 3 loc 2) s (fun u => (u.policer t loc).bad = true ∧ u.obj (O.BAD_ENTRY t) = 3 + loc * 2 ^ 32 ∧
          SameObjs [O.BAD_ENTRY t, O.ECC_UNCORR t, O.INTEGRITY_FAULTS t] s u))) ∧
    (∀ loc, s.up t = true → s.runs t = true → Does (.scrubRead now t 9 loc 2) s (fun u => u.obj (O.TILE_STATE t) = 4))

/-- The stack: a HELLO goes out on every span link; one that arrives puts its origin in the view and moves the package from FORMING into its stack, a master's hand-over
makes it master, and its own number from another package rejects it; a member not heard leaves the view; an election follows FORMING; a waiting package joins; a frame
enters its span port's pipe or is dropped after three links or without a route; a relayed response reaches its requester; and time messages are sent, followed, dropped
when they jump, and missed; and a record acts only as the oldest of its port's stream (R444 to R447, R620 to R625, R628, R631). -/
def Obligations.Stack : Prop :=
  ∀ (s : State) (now p : Nat) (msg : Bytes), s.quiet → p < s.variant.ports →
    (s.up 0 = true → s.flag O.STACK_ENABLE = true → (s.helloSent = 0 ∨ s.helloSent - 1 + 50 * usU ≤ max s.now now) →
      Does (.helloSend now) s (fun u => u.helloSeq = (s.helloSeq + 1) % 65536 ∧ u.helloSent = max s.now now + 1 ∧
        (p ∈ s.spanPorts → (u.port p).txRecords = placeRecord (spanRecord 3 (s.at now).helloBytes) (s.port p).txRecords) ∧
        (p ∉ s.spanPorts → u.port p = s.port p) ∧ SameObjs [] s u ∧ u.tiles = s.tiles)) ∧
    (∀ o x rest, s.up 0 = true → s.flag O.STACK_ENABLE = true → (s.port p).rxRecords = (3, msg) :: rest → p ∈ s.spanPorts → msg.length = 32 → byteAt msg 0 = 1 → helloHops msg < 3 → o = helloOrigin msg →
        x = helloPeer msg →
      (o ≠ s.me → (∀ y, tget none s.peers o = some y → y.serial = x.serial) →
        Does (.helloReceived now p msg) s (fun u => tget none u.peers o = some x ∧ tget 0 u.helloAt (1024 * o + 4 * p + helloHops msg) = max s.now now + 1 ∧
          bit (u.obj O.STACK_VIEW) o = true ∧ (bit (s.obj O.STACK_VIEW) o = false → u.obj O.VIEW_EPOCH = (s.obj O.VIEW_EPOCH + 1) % 2 ^ 32) ∧
          (∀ m, s.obj O.STACK_STATE = 1 → x.master = some m → m ≠ s.me → x.role ≠ 3 → s.domState 0 ≠ 0 → u.obj O.STACK_STATE = 4) ∧
          (∀ m, s.obj O.STACK_STATE = 1 → x.master = some m → m ≠ s.me → x.role ≠ 3 → s.domState 0 = 0 → s.domState 1 = 0 →
            u.obj O.STACK_STATE = 2 ∧ u.obj O.STACK_MASTER = m ∧ u.obj O.STACK_TIME_ROLE = 2) ∧
          (s.obj O.STACK_STATE = 2 → s.obj O.STACK_MASTER = o → x.role = 2 → x.handover = s.me →
            u.obj O.STACK_STATE = 3 ∧ u.obj O.STACK_MASTER = s.me ∧ u.obj O.STACK_TIME_ROLE = 1))) ∧
      (o = s.me → x.serial ≠ s.serialBe → s.obj O.STACK_STATE = 1 → x.role = 1 ∨ x.role = 2 →
        Does (.helloReceived now p msg) s (fun u => u.obj O.STACK_STATE = 5 ∧ u.obj O.REJECT_CAUSE = 1 ∧ u.peers = s.peers))) ∧
    (∀ m, m < 4 → s.flag O.STACK_ENABLE = true → bit (s.obj O.STACK_VIEW) m = true → m ≠ s.me → (s.at now).heard m = false →
      Does (.memberTimeout now m) s (fun u => u.obj O.STACK_VIEW = (s.at now).viewNow ∧ u.obj O.VIEW_EPOCH = (s.obj O.VIEW_EPOCH + 1) % 2 ^ 32 ∧
        (s.obj O.STACK_STATE = 2 → s.obj O.STACK_MASTER = m → u.obj O.ELECTIONS = (s.obj O.ELECTIONS + 1) % 2 ^ 32) ∧
        (s.obj O.STACK_STATE ≠ 2 → u.obj O.ELECTIONS = s.obj O.ELECTIONS))) ∧
    (s.obj O.STACK_STATE = 1 → s.formingAt + 2 * s.obj O.STACK_DEAD * usU ≤ max s.now now →
      Does (.formingTimeout now) s (fun u => u.obj O.ELECTIONS = (s.obj O.ELECTIONS + 1) % 2 ^ 32 ∧ u.electedAt = some (max s.now now) ∧ u.handover = none ∧
        u.obj O.STACK_MASTER = (s.at now).winner ∧ u.obj O.STACK_STATE = (if (s.at now).winner = s.me then 3 else 2) ∧
        u.obj O.STACK_TIME_ROLE = (if (s.at now).winner = s.me then 1 else 2))) ∧
    (∀ r data, s.accepts now r O.STACK_HANDOVER data = true →
      Does (.stackHandover now r data) s (fun u => Written s u r ∧ u.obj O.STACK_HANDOVER = leNat data ∧
        u.handover = (if leNat data = s.me then none else some (leNat data)) ∧ SameObjs [O.STACK_HANDOVER] s u ∧ (∀ i, (u.tile i).reports = (s.tile i).reports))) ∧
    (∀ r o x, s.accepts now r O.STACK_JOIN [1] = true → s.flag O.STACK_ENABLE = true → s.obj O.STACK_STATE = 4 → o < 4 → (s.at now).heard o = true →
        tget none s.peers o = some x → x.role = 2 → (∀ m y, m ≠ o → tget none s.peers m = some y → y.role ≠ 2) →
        (s.at now).heard (s.obj O.STACK_MEMBER) = false →
      Does (.stackJoin now r [1]) s (fun u => Written s u r ∧ u.obj O.STACK_STATE = 2 ∧ u.obj O.STACK_MASTER = o ∧ u.obj O.STACK_TIME_ROLE = 2 ∧
        u.joinOwed = true ∧ u.me = s.obj O.STACK_MEMBER)) ∧
    (∀ r, s.accepts now r O.STACK_JOIN [1] = true → s.obj O.STACK_STATE ≠ 4 → s.obj O.STACK_STATE ≠ 5 →
      Does (.stackJoin now r [1]) s (fun u => Written s u r ∧ SameObjs [] s u ∧ (∀ i, (u.tile i).reports = (s.tile i).reports) ∧ u.datapath = s.datapath)) ∧
    (∀ fid hdr data rest, (s.port p).rxRecords = (1, hdr ++ data) :: rest → p ∈ s.spanPorts → s.fresh fid = true → hdr.length = 32 → s.pipeOn (tileOf p) (pipeOf p) = true →
      (bit (byteAt hdr 1) 1 = false →
        Does (.stackFrameReceived now p fid hdr data) s (fun u => (∃ f, u.frame fid = some f ∧ f.data = data ∧ f.src = .stack p ∧ f.ended = true ∧
          f.colour = stackColour hdr ∧ f.hm = {}) ∧ SameObjs [] s u ∧ u.tiles = s.tiles)) ∧
      (bit (byteAt hdr 1) 1 = true → byteAt hdr 1 / 64 = s.me → byteAt hdr 3 ≠ 0xFF →
        Does (.stackFrameReceived now p fid hdr data) s (fun u => (∃ f, u.frame fid = some f ∧ f.data = data ∧ f.hm.dstPort = byteAt hdr 3 ∧
          f.hm.queue = byteAt hdr 4 / 16) ∧ SameObjs [] s u ∧ u.tiles = s.tiles)) ∧
      (bit (byteAt hdr 1) 1 = true → byteAt hdr 1 / 64 ≠ s.me → 2 ≤ field (byteAt hdr 1) 3 2 →
        Does (.stackFrameReceived now p fid hdr data) s (fun u => u.obj O.STACK_HOP_DROP = (s.obj O.STACK_HOP_DROP + 1) % 2 ^ 64 ∧ u.frame fid = none ∧
          SameObjs [O.STACK_HOP_DROP] s u ∧ u.tiles = s.tiles)) ∧
      (bit (byteAt hdr 1) 1 = true → byteAt hdr 1 / 64 ≠ s.me → field (byteAt hdr 1) 3 2 < 2 → (s.at now).stackRoute (byteAt hdr 1 / 64) = 0xFF →
        Does (.stackFrameReceived now p fid hdr data) s (fun u => u.obj O.STACK_UNREACH_DROP = (s.obj O.STACK_UNREACH_DROP + 1) % 2 ^ 64 ∧ u.frame fid = none ∧
          SameObjs [O.STACK_UNREACH_DROP] s u ∧ u.tiles = s.tiles))) ∧
    (∀ q rest, s.up 0 = true → (s.port p).rxRecords = (4, msg) :: rest → p ∈ s.spanPorts → s.obj O.STACK_STATE = 3 → 0x0E ≤ msg.length → msg.length = 0x0E + leAt msg 0x0A 2 → byteAt msg 0 = 1 →
        byteAt msg 1 % 16 = 5 → s.relayed = [q] → q.client = byteAt msg 4 % 128 → q.seq = byteAt msg 5 →
      Does (.stackDictRecord now p msg) s (fun u => u.relayed = [] ∧ Answered s u q.who q.op (byteAt msg 0x0C) (msg.drop 0x0E) ∧ SameObjs [] s u ∧
        u.tiles = s.tiles)) ∧
    (∀ n ago, s.up 0 = true → p ∈ s.spanPorts → s.obj O.STACK_STATE = 3 → n = (s.at now).commasSent p → n ≠ 0 → (s.port p).timeSent ≠ n →
        ago = max s.now now - ((s.port p).streamAt + n * commaPeriod (s.mode p).lane) → usU ≤ ago → ago ≤ 8 * usU →
      Does (.stackTimeSend now p) s (fun u => tget [] u.commaTx p = (s.at now).commasOut p ∧ (u.port p).timeSent = n ∧
        (u.port p).txRecords = placeRecord (spanRecord 2 (({ s.at now with commaTx := tput [] s.commaTx p ((s.at now).commasOut p) } : State).timeMessage p))
          (s.port p).txRecords ∧ SameObjs [] s u ∧ u.tiles = s.tiles)) ∧
    (∀ rx tx a b rest, s.up 0 = true → (s.port p).rxRecords = (2, msg) :: rest → s.timeMember = true → p ∈ s.spanPorts → (s.at now).upstreamPort = p → msg.length = 64 → byteAt msg 0 = 1 →
        (tget [] s.commaRx p).find? (fun c => c.1 == byteAt msg 1 % 8) = some rx → (tget [] s.commaTx p).find? (fun c => c.1 == byteAt msg 2 % 8) = some tx →
        a = spanError (unitsOf96 (leAt msg 0x10 12)) (unitsOf96 (leAt msg 0x28 12)) rx.2.1 tx.2.1 (s.objS 64 (O.SPAN_ASYM p)) →
        b = spanError (unitsOf96 (leAt msg 0x1C 12)) (unitsOf96 (leAt msg 0x34 12)) rx.2.2 tx.2.2 (s.objS 64 (O.SPAN_ASYM p)) →
      (s.joinOwed = false → s.jumps 0 (byteAt msg 4 / 16 % 4) a.1 = true ∨ s.jumps 1 (byteAt msg 5 / 16 % 4) b.1 = true →
        Does (.stackTimeMessage now p msg) s (fun u => u.obj O.STACK_JUMP_DROP = (s.obj O.STACK_JUMP_DROP + 1) % 2 ^ 64 ∧ u.upstreamAt = s.upstreamAt ∧
          SameObjs [O.STACK_JUMP_DROP] s u ∧ u.tiles = s.tiles)) ∧
      (s.joinOwed = true →
        Does (.stackTimeMessage now p msg) s (fun u => u.upstream = some ⟨a.1, b.1, byteAt msg 4 / 16 % 4, byteAt msg 5 / 16 % 4, byteAt msg 3 % 2, toS 64 (leAt msg 8 8)⟩ ∧
          u.upstreamAt = (s.at now).L ∧ u.obj O.SPAN_RTT = ofS 32 (tdiv ((if byteAt msg 3 % 2 = 0 then a else b).2 * 1000) 65536) ∧
          SameObjs [O.SPAN_OFFSET, O.SPAN_RTT] s u ∧ u.tiles = s.tiles)) ∧
      (s.joinOwed = false → s.jumps 0 (byteAt msg 4 / 16 % 4) a.1 = false → s.jumps 1 (byteAt msg 5 / 16 % 4) b.1 = false →
        Does (.stackTimeMessage now p msg) s (fun u => u.upstreamAt = (s.at now).L ∧ u.obj (O.DOM_GEN 0) = byteAt msg 4 / 16 % 4 ∧
          u.obj (O.DOM_GEN 1) = byteAt msg 5 / 16 % 4 ∧ u.obj O.ACTIVE_DOMAIN = byteAt msg 3 % 2 ∧ u.obj O.PRES_OFFSET = ofS 64 (toS 64 (leAt msg 8 8)) ∧
          u.obj O.SPAN_OFFSET = ofS 64 (if byteAt msg 3 % 2 = 0 then a else b).1))) ∧
    (∀ d, d < 2 → s.timeMember = true → s.upstreamAt + 100 * usU ≤ (s.at now).L → s.domState d = 1 → (s.dom d).changes = [] →
      Does (.upstreamTimeout now) s (fun u => (u.dom d).changes = [⟨false, 6, (s.at now).effectAt⟩] ∧ SameObjs [] s u ∧ u.tiles = s.tiles))

/-- A step takes the command at the front of the queue and runs it on the state with the queue's rest, and answers its outcome; with nothing waiting Clemal idles, and no
state changes (the model's choice: assumption 1). -/
def Obligations.StepRunsFront : Prop :=
  ∀ (s : State) (c : Instr) (rest : List Instr), step { s with pending := c :: rest } = exec c { s with pending := rest } ∧
    step { s with pending := [] } = .next { s with pending := [] }

/-- Every command completes, whatever the state: it keeps the variant and the queue, and time does not go back; a command to a unit that the variant does not have changes
nothing else (the model's choice: assumption 1); and every step completes and keeps a queue of well-formed commands one (R1, R2). -/
def Obligations.CommandsComplete : Prop :=
  (∀ (c : Instr) (s : State), Does c s (fun u => u.variant = s.variant ∧ u.pending = s.pending ∧ s.now ≤ u.now)) ∧
  (∀ (s : State) (now n : Nat), s.quiet → s.variant.tiles ≤ n →
    Does (.cntSnapDone now n) s (fun u => u = s.at now) ∧ Does (.budgetPeriod now n) s (fun u => u = s.at now)) ∧
  (∀ (s : State) (now n : Nat), s.quiet → s.variant.ports ≤ n → Does (.windowPublish now n) s (fun u => u = s.at now) ∧ Does (.laneLosAssert now n 0 0) s (fun u => u = s.at now)) ∧
  (∀ s : State, ∃ u, step s = .next u ∧ (s.safe → u.safe))

/-- What every step keeps: nothing is left over of a command that has completed, domain L began no later than the present instant, time does not go back, the variant stays,
and the queue loses the command that ran and nothing else (R416, R501, R590). -/
def Obligations.StepKeepsSound : Prop :=
  ∀ s u : State, s.sound → step s = .next u → u.sound ∧ s.now ≤ u.now ∧ u.variant = s.variant ∧ u.pending = s.pending.tail

/-- After reset nothing waits and nothing is left over; no tile is in service, no port has a mode or a link, the etch and the stack are idle, no domain is locked, the
lifecycle is BLANK, and tables, rings, queues, sessions and frames are empty (R590, R607, R615, R646; the instant 0, the variant, the level of the inputs and LC_STATE
of a part never provisioned are the model's choice: assumptions 1 and 2). -/
def Obligations.ResetState : Prop :=
  State.reset.sound ∧ State.reset.safe ∧ State.reset.pending = [] ∧ State.reset.now = 0 ∧
  (∀ t, t < 8 → State.reset.up t = false ∧ State.reset.runs t = false ∧ State.reset.obj (O.TILE_STATE t) = 0 ∧ State.reset.obj (O.PD_ON t) = 0 ∧
    State.reset.obj (O.CELLS_FREE t) = 131072 ∧ State.reset.obj (O.CORE_PWR t) = 0xFF ∧ State.reset.obj (O.BASIN_PWR t) = 0xFF ∧
    State.reset.obj (O.ISOLATE_THRESHOLD t) = 64 ∧ State.reset.obj (O.AGG_WINDOW t) = 1000) ∧
  (∀ p, p < 144 → State.reset.obj (O.PORT_MODE p) = 0 ∧ State.reset.obj (O.LINK_STATE p) = 0 ∧ State.reset.obj (O.WIN_LEN p) = 1000) ∧
  State.reset.obj O.ETCH_STATE = 0 ∧ State.reset.obj O.STACK_STATE = 0 ∧ State.reset.obj O.STACK_MASTER = 0xFF ∧ State.reset.obj O.LC_STATE = 1 ∧
  State.reset.obj (O.DOM_STATE 0) = 0 ∧ State.reset.obj (O.DOM_STATE 1) = 0 ∧ State.reset.obj O.ACTIVE_DOMAIN = 0 ∧ State.reset.obj O.PRES_STATE = 2 ∧
  State.reset.obj O.PS_LATEST = 0xFF ∧ State.reset.obj O.GROUP_IDLE = 1000 ∧
  State.reset.frames = [] ∧ State.reset.rings = [] ∧ State.reset.cqs = [] ∧ State.reset.sessions = [] ∧ State.reset.groups = [] ∧
  State.reset.responses = [] ∧ State.reset.em = [] ∧ State.reset.tc = [] ∧ State.reset.policers = [] ∧ State.reset.psSlots = []
end

