-- ==== Sys2Proof/Laws/Table.lean ====
section
/-! SUPPORT. What reading a sparse table gives after a write, and that every write keeps the canonical form. -/

namespace Sys2Proof.Machine

variable {α : Type}

theorem tget_tdel_self (d : α) (t : Tbl α) (k : Nat) : tget d (tdel t k) k = d := by
  induction t with
  | nil => rfl
  | cons e t ih =>
    obtain ⟨j, y⟩ := e
    unfold tdel at ih ⊢
    by_cases h : j = k <;> simp [h, tget] <;> simpa using ih

theorem tget_tdel_ne (d : α) (t : Tbl α) {k j : Nat} (h : j ≠ k) : tget d (tdel t k) j = tget d t j := by
  induction t with
  | nil => rfl
  | cons e t ih =>
    obtain ⟨i, y⟩ := e
    unfold tdel at ih ⊢
    by_cases h1 : i = k
    · subst h1
      simp [tget, Ne.symm h]
      simpa using ih
    · rw [List.filter_cons, if_pos (by simpa using h1)]
      by_cases h2 : i = j <;> simp only [tget, h2, if_true, if_false]
      simpa using ih

theorem tget_tins_self (d : α) (t : Tbl α) (k : Nat) (x : α) : tget d (tins t k x) k = x := by
  induction t with
  | nil => simp [tins, tget]
  | cons e t ih =>
    obtain ⟨j, y⟩ := e
    unfold tins
    split
    · simp [tget]
    · split
      · simp [tget]
      · simp [tget, Ne.symm (by assumption), ih]

theorem tget_tins_ne (d : α) (t : Tbl α) {k j : Nat} (x : α) (h : j ≠ k) : tget d (tins t k x) j = tget d t j := by
  induction t with
  | nil => simp [tins, tget, Ne.symm h]
  | cons e t ih =>
    obtain ⟨i, y⟩ := e
    unfold tins
    split
    · simp [tget, Ne.symm h]
    · split
      · subst_vars; simp [tget, Ne.symm h]
      · simp [tget, ih]

/-- A key that is written reads what was written. -/
@[simp] theorem tget_tput_self [DecidableEq α] (d : α) (t : Tbl α) (k : Nat) (x : α) : tget d (tput d t k x) k = x := by
  unfold tput
  split
  · simp_all [tget_tdel_self]
  · exact tget_tins_self d t k x

/-- Every other key reads as before. -/
theorem tget_tput_ne [DecidableEq α] (d e : α) (t : Tbl α) {k j : Nat} (x : α) (h : j ≠ k) : tget e (tput d t k x) j = tget e t j := by
  unfold tput
  split
  · exact tget_tdel_ne e t h
  · exact tget_tins_ne e t x h

/-- What a table reads as after a write. -/
theorem tget_tput [DecidableEq α] (d : α) (t : Tbl α) (k j : Nat) (x : α) : tget d (tput d t k x) j = if j = k then x else tget d t j := by
  split
  · subst j; simp
  · exact tget_tput_ne d d t x (by assumption)

@[simp] theorem tget_tmod_self [DecidableEq α] (d : α) (t : Tbl α) (k : Nat) (f : α → α) : tget d (tmod d t k f) k = f (tget d t k) := by
  simp [tmod]

theorem tget_tmod_ne [DecidableEq α] (d : α) (t : Tbl α) {k j : Nat} (f : α → α) (h : j ≠ k) : tget d (tmod d t k f) j = tget d t j :=
  tget_tput_ne d d t _ h

/-- What a table reads as after a value is changed. -/
theorem tget_tmod [DecidableEq α] (d : α) (t : Tbl α) (k j : Nat) (f : α → α) :
    tget d (tmod d t k f) j = if j = k then f (tget d t k) else tget d t j := tget_tput d t k j _

/-- A table without some keys reads as before at the others. -/
theorem tget_tdrop (d : α) (p : Nat → Bool) (t : Tbl α) (k : Nat) : tget d (tdrop p t) k = if p k then d else tget d t k := by
  induction t with
  | nil => simp [tdrop, tget]
  | cons e t ih =>
    obtain ⟨j, y⟩ := e
    unfold tdrop at ih ⊢
    by_cases h : p j <;> simp [h, tget, ih]
    · by_cases h2 : j = k
      · subst h2; simp [h]
      · simp [h2]
    · by_cases h2 : j = k
      · subst h2; simp [h]
      · simp [h2]

/-! A predicate of every listed value. -/

theorem all_tget {d : α} {t : Tbl α} {P : α → Bool} (hd : P d = true) (h : t.all (fun e => P e.2) = true) (k : Nat) : P (tget d t k) = true := by
  induction t with
  | nil => exact hd
  | cons e t ih =>
    obtain ⟨j, y⟩ := e
    simp only [List.all_cons, Bool.and_eq_true] at h
    by_cases h2 : j = k <;> simp [tget, h2]
    · exact h.1
    · exact ih h.2

theorem all_tput [DecidableEq α] {d : α} {t : Tbl α} {P : α → Bool} {k : Nat} {x : α} (hx : P x = true) (h : t.all (fun e => P e.2) = true) :
    (tput d t k x).all (fun e => P e.2) = true := by
  unfold tput
  split
  · simp only [tdel, List.all_eq_true, List.mem_filter] at h ⊢
    exact fun e he => h e he.1
  · induction t with
    | nil => simp [tins, hx]
    | cons e t ih =>
      obtain ⟨j, y⟩ := e
      simp only [List.all_cons, Bool.and_eq_true] at h
      unfold tins
      split
      · simp [hx, h.1, h.2]
      · split
        · simp [hx, h.2]
        · simp [h.1, ih h.2]

theorem all_tmod [DecidableEq α] {d : α} {t : Tbl α} {P : α → Bool} {k : Nat} {f : α → α} (hd : P d = true) (hf : ∀ x, P x = true → P (f x) = true)
    (h : t.all (fun e => P e.2) = true) : (tmod d t k f).all (fun e => P e.2) = true := all_tput (hf _ (all_tget hd h k)) h

/-! The canonical form. -/

/-- Every key of a table is above a bound. -/
def tableAbove (b : Nat) (t : Tbl α) : Prop := ∀ e ∈ t, b < e.1

theorem tableWf_cons [DecidableEq α] (d : Nat → α) (k : Nat) (x : α) (t : Tbl α) :
    tableWf d ((k, x) :: t) = true ↔ x ≠ d k ∧ tableAbove k t ∧ tableWf d t = true := by
  induction t generalizing k x with
  | nil => simp [tableWf, tableAbove]
  | cons e t ih =>
    obtain ⟨j, y⟩ := e
    simp only [tableWf, Bool.and_eq_true, decide_eq_true_eq]
    constructor
    · rintro ⟨⟨h1, h2⟩, h3⟩
      refine ⟨h1, ?_, h3⟩
      intro e he
      rcases List.mem_cons.mp he with rfl | he
      · exact h2
      · exact Nat.lt_trans h2 (((ih j y).mp h3).2.1 e he)
    · rintro ⟨h1, h2, h3⟩
      exact ⟨⟨h1, h2 _ List.mem_cons_self⟩, h3⟩

theorem tableWf_tdel [DecidableEq α] {d : Nat → α} {t : Tbl α} (k : Nat) (h : tableWf d t = true) : tableWf d (tdel t k) = true := by
  induction t with
  | nil => rfl
  | cons e t ih =>
    obtain ⟨j, y⟩ := e
    rw [tableWf_cons] at h
    have h4 := ih h.2.2
    unfold tdel at h4 ⊢
    rw [List.filter_cons]
    split
    · rw [tableWf_cons]
      refine ⟨h.1, ?_, h4⟩
      intro e he
      exact h.2.1 e (List.mem_filter.mp he).1
    · exact h4

theorem tableAbove_tins {b k : Nat} {t : Tbl α} (x : α) (hk : b < k) (h : tableAbove b t) : tableAbove b (tins t k x) := by
  induction t with
  | nil =>
    intro e he
    simp only [tins, List.mem_singleton] at he
    subst he; exact hk
  | cons e t ih =>
    obtain ⟨j, y⟩ := e
    have h1 : tableAbove b t := fun e he => h e (List.mem_cons_of_mem _ he)
    have h2 : b < j := h (j, y) List.mem_cons_self
    unfold tins
    split
    · intro e he
      rcases List.mem_cons.mp he with rfl | he
      · exact hk
      · exact h e he
    · split
      · intro e he
        rcases List.mem_cons.mp he with rfl | he
        · exact hk
        · exact h1 e he
      · intro e he
        rcases List.mem_cons.mp he with rfl | he
        · exact h2
        · exact ih h1 e he

theorem tableWf_tins [DecidableEq α] {d : Nat → α} {t : Tbl α} {k : Nat} {x : α} (hx : x ≠ d k) (h : tableWf d t = true) : tableWf d (tins t k x) = true := by
  induction t with
  | nil => simpa [tins, tableWf] using hx
  | cons e t ih =>
    obtain ⟨j, y⟩ := e
    have h0 := (tableWf_cons d j y t).mp h
    unfold tins
    split
    · rename_i hlt
      rw [tableWf_cons]
      refine ⟨hx, ?_, h⟩
      intro e he
      rcases List.mem_cons.mp he with rfl | he
      · exact hlt
      · exact Nat.lt_trans hlt (h0.2.1 e he)
    · split
      · rename_i heq
        subst heq
        rw [tableWf_cons]
        exact ⟨hx, h0.2.1, h0.2.2⟩
      · rw [tableWf_cons]
        exact ⟨h0.1, tableAbove_tins x (by omega) h0.2.1, ih h0.2.2⟩

/-- A write keeps the canonical form. -/
theorem tableWf_tput [DecidableEq α] {d : Nat → α} {t : Tbl α} (k : Nat) (x : α) (h : tableWf d t = true) : tableWf d (tput (d k) t k x) = true := by
  unfold tput
  split
  · exact tableWf_tdel k h
  · exact tableWf_tins (by assumption) h

/-- A change of a value keeps the canonical form. -/
theorem tableWf_tmod [DecidableEq α] {d : Nat → α} {t : Tbl α} (k : Nat) (f : α → α) (h : tableWf d t = true) : tableWf d (tmod (d k) t k f) = true :=
  tableWf_tput k _ h

/-- Dropping keys keeps the canonical form. -/
theorem tableWf_tdrop [DecidableEq α] {d : Nat → α} (p : Nat → Bool) {t : Tbl α} (h : tableWf d t = true) : tableWf d (tdrop p t) = true := by
  induction t with
  | nil => rfl
  | cons e t ih =>
    obtain ⟨j, y⟩ := e
    rw [tableWf_cons] at h
    have h4 := ih h.2.2
    unfold tdrop at h4 ⊢
    rw [List.filter_cons]
    split
    · rw [tableWf_cons]
      exact ⟨h.1, fun e he => h.2.1 e (List.mem_filter.mp he).1, h4⟩
    · exact h4

end Sys2Proof.Machine
end

