-- ==== Sys2Proof/Laws/State.lean ====
section
/-! SUPPORT. What each update of one part of the state leaves as it was, field by field, and what reading an object, a tile, a port or a lane gives after it. -/

namespace Sys2Proof.Machine


/-! `setObj`. -/

@[simp] theorem State.setObj_pending (s : State) (k v : Nat) : (s.setObj k v).pending = s.pending := rfl
@[simp] theorem State.setObj_now (s : State) (k v : Nat) : (s.setObj k v).now = s.now := rfl
@[simp] theorem State.setObj_lStart (s : State) (k v : Nat) : (s.setObj k v).lStart = s.lStart := rfl
@[simp] theorem State.setObj_free (s : State) (k v : Nat) : (s.setObj k v).free = s.free := rfl
@[simp] theorem State.setObj_variant (s : State) (k v : Nat) : (s.setObj k v).variant = s.variant := rfl
@[simp] theorem State.setObj_inForce (s : State) (k v : Nat) : (s.setObj k v).inForce = s.inForce := rfl
@[simp] theorem State.setObj_pairBad (s : State) (k v : Nat) : (s.setObj k v).pairBad = s.pairBad := rfl
@[simp] theorem State.setObj_out (s : State) (k v : Nat) : (s.setObj k v).out = s.out := rfl
@[simp] theorem State.setObj_pwrOk (s : State) (k v : Nat) : (s.setObj k v).pwrOk = s.pwrOk := rfl
@[simp] theorem State.setObj_porstN (s : State) (k v : Nat) : (s.setObj k v).porstN = s.porstN := rfl
@[simp] theorem State.setObj_serviceLow (s : State) (k v : Nat) : (s.setObj k v).serviceLow = s.serviceLow := rfl
@[simp] theorem State.setObj_asleep (s : State) (k v : Nat) : (s.setObj k v).asleep = s.asleep := rfl
@[simp] theorem State.setObj_fbStb (s : State) (k v : Nat) : (s.setObj k v).fbStb = s.fbStb := rfl
@[simp] theorem State.setObj_ppsOut (s : State) (k v : Nat) : (s.setObj k v).ppsOut = s.ppsOut := rfl
@[simp] theorem State.setObj_ppsLast (s : State) (k v : Nat) : (s.setObj k v).ppsLast = s.ppsLast := rfl
@[simp] theorem State.setObj_sleepEntry (s : State) (k v : Nat) : (s.setObj k v).sleepEntry = s.sleepEntry := rfl
@[simp] theorem State.setObj_wakeOwed (s : State) (k v : Nat) : (s.setObj k v).wakeOwed = s.wakeOwed := rfl
@[simp] theorem State.setObj_porstAt (s : State) (k v : Nat) : (s.setObj k v).porstAt = s.porstAt := rfl
@[simp] theorem State.setObj_sleepAt (s : State) (k v : Nat) : (s.setObj k v).sleepAt = s.sleepAt := rfl
@[simp] theorem State.setObj_lifeOwed (s : State) (k v : Nat) : (s.setObj k v).lifeOwed = s.lifeOwed := rfl
@[simp] theorem State.setObj_tiles (s : State) (k v : Nat) : (s.setObj k v).tiles = s.tiles := rfl
@[simp] theorem State.setObj_ports (s : State) (k v : Nat) : (s.setObj k v).ports = s.ports := rfl
@[simp] theorem State.setObj_lanes (s : State) (k v : Nat) : (s.setObj k v).lanes = s.lanes := rfl
@[simp] theorem State.setObj_domA (s : State) (k v : Nat) : (s.setObj k v).domA = s.domA := rfl
@[simp] theorem State.setObj_domB (s : State) (k v : Nat) : (s.setObj k v).domB = s.domB := rfl
@[simp] theorem State.setObj_replicas (s : State) (k v : Nat) : (s.setObj k v).replicas = s.replicas := rfl
@[simp] theorem State.setObj_reepoch (s : State) (k v : Nat) : (s.setObj k v).reepoch = s.reepoch := rfl
@[simp] theorem State.setObj_pLast (s : State) (k v : Nat) : (s.setObj k v).pLast = s.pLast := rfl
@[simp] theorem State.setObj_pLastAt (s : State) (k v : Nat) : (s.setObj k v).pLastAt = s.pLastAt := rfl
@[simp] theorem State.setObj_ppsEdge (s : State) (k v : Nat) : (s.setObj k v).ppsEdge = s.ppsEdge := rfl
@[simp] theorem State.setObj_refBad (s : State) (k v : Nat) : (s.setObj k v).refBad = s.refBad := rfl
@[simp] theorem State.setObj_refAt (s : State) (k v : Nat) : (s.setObj k v).refAt = s.refAt := rfl
@[simp] theorem State.setObj_refGood (s : State) (k v : Nat) : (s.setObj k v).refGood = s.refGood := rfl
@[simp] theorem State.setObj_upstreamAt (s : State) (k v : Nat) : (s.setObj k v).upstreamAt = s.upstreamAt := rfl
@[simp] theorem State.setObj_commaTx (s : State) (k v : Nat) : (s.setObj k v).commaTx = s.commaTx := rfl
@[simp] theorem State.setObj_commaRx (s : State) (k v : Nat) : (s.setObj k v).commaRx = s.commaRx := rfl
@[simp] theorem State.setObj_helloAt (s : State) (k v : Nat) : (s.setObj k v).helloAt = s.helloAt := rfl
@[simp] theorem State.setObj_helloSeen (s : State) (k v : Nat) : (s.setObj k v).helloSeen = s.helloSeen := rfl
@[simp] theorem State.setObj_peers (s : State) (k v : Nat) : (s.setObj k v).peers = s.peers := rfl
@[simp] theorem State.setObj_helloSeq (s : State) (k v : Nat) : (s.setObj k v).helloSeq = s.helloSeq := rfl
@[simp] theorem State.setObj_helloSent (s : State) (k v : Nat) : (s.setObj k v).helloSent = s.helloSent := rfl
@[simp] theorem State.setObj_formingAt (s : State) (k v : Nat) : (s.setObj k v).formingAt = s.formingAt := rfl
@[simp] theorem State.setObj_electedAt (s : State) (k v : Nat) : (s.setObj k v).electedAt = s.electedAt := rfl
@[simp] theorem State.setObj_handover (s : State) (k v : Nat) : (s.setObj k v).handover = s.handover := rfl
@[simp] theorem State.setObj_joinOwed (s : State) (k v : Nat) : (s.setObj k v).joinOwed = s.joinOwed := rfl
@[simp] theorem State.setObj_upstream (s : State) (k v : Nat) : (s.setObj k v).upstream = s.upstream := rfl
@[simp] theorem State.setObj_relayed (s : State) (k v : Nat) : (s.setObj k v).relayed = s.relayed := rfl
@[simp] theorem State.setObj_relayNext (s : State) (k v : Nat) : (s.setObj k v).relayNext = s.relayNext := rfl
@[simp] theorem State.setObj_relayIds (s : State) (k v : Nat) : (s.setObj k v).relayIds = s.relayIds := rfl
@[simp] theorem State.setObj_abroad (s : State) (k v : Nat) : (s.setObj k v).abroad = s.abroad := rfl
@[simp] theorem State.setObj_relayIn (s : State) (k v : Nat) : (s.setObj k v).relayIn = s.relayIn := rfl
@[simp] theorem State.setObj_heldOps (s : State) (k v : Nat) : (s.setObj k v).heldOps = s.heldOps := rfl
@[simp] theorem State.setObj_tsqs (s : State) (k v : Nat) : (s.setObj k v).tsqs = s.tsqs := rfl
@[simp] theorem State.setObj_paths (s : State) (k v : Nat) : (s.setObj k v).paths = s.paths := rfl
@[simp] theorem State.setObj_keys (s : State) (k v : Nat) : (s.setObj k v).keys = s.keys := rfl
@[simp] theorem State.setObj_challenges (s : State) (k v : Nat) : (s.setObj k v).challenges = s.challenges := rfl
@[simp] theorem State.setObj_sessions (s : State) (k v : Nat) : (s.setObj k v).sessions = s.sessions := rfl
@[simp] theorem State.setObj_groups (s : State) (k v : Nat) : (s.setObj k v).groups = s.groups := rfl
@[simp] theorem State.setObj_responses (s : State) (k v : Nat) : (s.setObj k v).responses = s.responses := rfl
@[simp] theorem State.setObj_afterResponse (s : State) (k v : Nat) : (s.setObj k v).afterResponse = s.afterResponse := rfl
@[simp] theorem State.setObj_zwReqs (s : State) (k v : Nat) : (s.setObj k v).zwReqs = s.zwReqs := rfl
@[simp] theorem State.setObj_ibReqs (s : State) (k v : Nat) : (s.setObj k v).ibReqs = s.ibReqs := rfl
@[simp] theorem State.setObj_selects (s : State) (k v : Nat) : (s.setObj k v).selects = s.selects := rfl
@[simp] theorem State.setObj_hbLast (s : State) (k v : Nat) : (s.setObj k v).hbLast = s.hbLast := rfl
@[simp] theorem State.setObj_hbAt (s : State) (k v : Nat) : (s.setObj k v).hbAt = s.hbAt := rfl
@[simp] theorem State.setObj_lc (s : State) (k v : Nat) : (s.setObj k v).lc = s.lc := rfl
@[simp] theorem State.setObj_lcFatal (s : State) (k v : Nat) : (s.setObj k v).lcFatal = s.lcFatal := rfl
@[simp] theorem State.setObj_fwStore (s : State) (k v : Nat) : (s.setObj k v).fwStore = s.fwStore := rfl
@[simp] theorem State.setObj_fwRunning (s : State) (k v : Nat) : (s.setObj k v).fwRunning = s.fwRunning := rfl
@[simp] theorem State.setObj_fwUpdate (s : State) (k v : Nat) : (s.setObj k v).fwUpdate = s.fwUpdate := rfl
@[simp] theorem State.setObj_fwVerifying (s : State) (k v : Nat) : (s.setObj k v).fwVerifying = s.fwVerifying := rfl
@[simp] theorem State.setObj_proof (s : State) (k v : Nat) : (s.setObj k v).proof = s.proof := rfl
@[simp] theorem State.setObj_psSlots (s : State) (k v : Nat) : (s.setObj k v).psSlots = s.psSlots := rfl
@[simp] theorem State.setObj_psNow (s : State) (k v : Nat) : (s.setObj k v).psNow = s.psNow := rfl
@[simp] theorem State.setObj_psWait (s : State) (k v : Nat) : (s.setObj k v).psWait = s.psWait := rfl
@[simp] theorem State.setObj_psHeld (s : State) (k v : Nat) : (s.setObj k v).psHeld = s.psHeld := rfl
@[simp] theorem State.setObj_psHostAt (s : State) (k v : Nat) : (s.setObj k v).psHostAt = s.psHostAt := rfl
@[simp] theorem State.setObj_psLastAt (s : State) (k v : Nat) : (s.setObj k v).psLastAt = s.psLastAt := rfl
@[simp] theorem State.setObj_psSampleAt (s : State) (k v : Nat) : (s.setObj k v).psSampleAt = s.psSampleAt := rfl
@[simp] theorem State.setObj_psCopy (s : State) (k v : Nat) : (s.setObj k v).psCopy = s.psCopy := rfl
@[simp] theorem State.setObj_psCopyAt (s : State) (k v : Nat) : (s.setObj k v).psCopyAt = s.psCopyAt := rfl
@[simp] theorem State.setObj_wraps (s : State) (k v : Nat) : (s.setObj k v).wraps = s.wraps := rfl
@[simp] theorem State.setObj_mapGen (s : State) (k v : Nat) : (s.setObj k v).mapGen = s.mapGen := rfl
@[simp] theorem State.setObj_windows (s : State) (k v : Nat) : (s.setObj k v).windows = s.windows := rfl
@[simp] theorem State.setObj_queues (s : State) (k v : Nat) : (s.setObj k v).queues = s.queues := rfl
@[simp] theorem State.setObj_burins (s : State) (k v : Nat) : (s.setObj k v).burins = s.burins := rfl
@[simp] theorem State.setObj_frames (s : State) (k v : Nat) : (s.setObj k v).frames = s.frames := rfl
@[simp] theorem State.setObj_arrivals (s : State) (k v : Nat) : (s.setObj k v).arrivals = s.arrivals := rfl
@[simp] theorem State.setObj_words (s : State) (k v : Nat) : (s.setObj k v).words = s.words := rfl
@[simp] theorem State.setObj_copies (s : State) (k v : Nat) : (s.setObj k v).copies = s.copies := rfl
@[simp] theorem State.setObj_holds (s : State) (k v : Nat) : (s.setObj k v).holds = s.holds := rfl
@[simp] theorem State.setObj_bankAt (s : State) (k v : Nat) : (s.setObj k v).bankAt = s.bankAt := rfl
@[simp] theorem State.setObj_bankUsed (s : State) (k v : Nat) : (s.setObj k v).bankUsed = s.bankUsed := rfl
@[simp] theorem State.setObj_fates (s : State) (k v : Nat) : (s.setObj k v).fates = s.fates := rfl
@[simp] theorem State.setObj_rings (s : State) (k v : Nat) : (s.setObj k v).rings = s.rings := rfl
@[simp] theorem State.setObj_cqs (s : State) (k v : Nat) : (s.setObj k v).cqs = s.cqs := rfl
@[simp] theorem State.setObj_engineAt (s : State) (k v : Nat) : (s.setObj k v).engineAt = s.engineAt := rfl
@[simp] theorem State.setObj_qstats (s : State) (k v : Nat) : (s.setObj k v).qstats = s.qstats := rfl
@[simp] theorem State.setObj_afiQueues (s : State) (k v : Nat) : (s.setObj k v).afiQueues = s.afiQueues := rfl
@[simp] theorem State.setObj_ringQueues (s : State) (k v : Nat) : (s.setObj k v).ringQueues = s.ringQueues := rfl
@[simp] theorem State.setObj_policers (s : State) (k v : Nat) : (s.setObj k v).policers = s.policers := rfl
@[simp] theorem State.setObj_em (s : State) (k v : Nat) : (s.setObj k v).em = s.em := rfl
@[simp] theorem State.setObj_tc (s : State) (k v : Nat) : (s.setObj k v).tc = s.tc := rfl
@[simp] theorem State.setObj_tcHits (s : State) (k v : Nat) : (s.setObj k v).tcHits = s.tcHits := rfl
@[simp] theorem State.setObj_tcBad (s : State) (k v : Nat) : (s.setObj k v).tcBad = s.tcBad := rfl
@[simp] theorem State.setObj_etchObjs (s : State) (k v : Nat) : (s.setObj k v).etchObjs = s.etchObjs := rfl
@[simp] theorem State.setObj_etch (s : State) (k v : Nat) : (s.setObj k v).etch = s.etch := rfl
@[simp] theorem State.setObj_inflight (s : State) (k v : Nat) : (s.setObj k v).inflight = s.inflight := rfl
@[simp] theorem State.setObj_drainAt (s : State) (k v : Nat) : (s.setObj k v).drainAt = s.drainAt := rfl

/-! `modTile`. -/

@[simp] theorem State.modTile_pending (s : State) (t : Nat) (f : Tile → Tile) : (s.modTile t f).pending = s.pending := rfl
@[simp] theorem State.modTile_now (s : State) (t : Nat) (f : Tile → Tile) : (s.modTile t f).now = s.now := rfl
@[simp] theorem State.modTile_lStart (s : State) (t : Nat) (f : Tile → Tile) : (s.modTile t f).lStart = s.lStart := rfl
@[simp] theorem State.modTile_free (s : State) (t : Nat) (f : Tile → Tile) : (s.modTile t f).free = s.free := rfl
@[simp] theorem State.modTile_variant (s : State) (t : Nat) (f : Tile → Tile) : (s.modTile t f).variant = s.variant := rfl
@[simp] theorem State.modTile_objs (s : State) (t : Nat) (f : Tile → Tile) : (s.modTile t f).objs = s.objs := rfl
@[simp] theorem State.modTile_inForce (s : State) (t : Nat) (f : Tile → Tile) : (s.modTile t f).inForce = s.inForce := rfl
@[simp] theorem State.modTile_pairBad (s : State) (t : Nat) (f : Tile → Tile) : (s.modTile t f).pairBad = s.pairBad := rfl
@[simp] theorem State.modTile_out (s : State) (t : Nat) (f : Tile → Tile) : (s.modTile t f).out = s.out := rfl
@[simp] theorem State.modTile_pwrOk (s : State) (t : Nat) (f : Tile → Tile) : (s.modTile t f).pwrOk = s.pwrOk := rfl
@[simp] theorem State.modTile_porstN (s : State) (t : Nat) (f : Tile → Tile) : (s.modTile t f).porstN = s.porstN := rfl
@[simp] theorem State.modTile_serviceLow (s : State) (t : Nat) (f : Tile → Tile) : (s.modTile t f).serviceLow = s.serviceLow := rfl
@[simp] theorem State.modTile_asleep (s : State) (t : Nat) (f : Tile → Tile) : (s.modTile t f).asleep = s.asleep := rfl
@[simp] theorem State.modTile_fbStb (s : State) (t : Nat) (f : Tile → Tile) : (s.modTile t f).fbStb = s.fbStb := rfl
@[simp] theorem State.modTile_ppsOut (s : State) (t : Nat) (f : Tile → Tile) : (s.modTile t f).ppsOut = s.ppsOut := rfl
@[simp] theorem State.modTile_ppsLast (s : State) (t : Nat) (f : Tile → Tile) : (s.modTile t f).ppsLast = s.ppsLast := rfl
@[simp] theorem State.modTile_sleepEntry (s : State) (t : Nat) (f : Tile → Tile) : (s.modTile t f).sleepEntry = s.sleepEntry := rfl
@[simp] theorem State.modTile_wakeOwed (s : State) (t : Nat) (f : Tile → Tile) : (s.modTile t f).wakeOwed = s.wakeOwed := rfl
@[simp] theorem State.modTile_porstAt (s : State) (t : Nat) (f : Tile → Tile) : (s.modTile t f).porstAt = s.porstAt := rfl
@[simp] theorem State.modTile_sleepAt (s : State) (t : Nat) (f : Tile → Tile) : (s.modTile t f).sleepAt = s.sleepAt := rfl
@[simp] theorem State.modTile_lifeOwed (s : State) (t : Nat) (f : Tile → Tile) : (s.modTile t f).lifeOwed = s.lifeOwed := rfl
@[simp] theorem State.modTile_ports (s : State) (t : Nat) (f : Tile → Tile) : (s.modTile t f).ports = s.ports := rfl
@[simp] theorem State.modTile_lanes (s : State) (t : Nat) (f : Tile → Tile) : (s.modTile t f).lanes = s.lanes := rfl
@[simp] theorem State.modTile_domA (s : State) (t : Nat) (f : Tile → Tile) : (s.modTile t f).domA = s.domA := rfl
@[simp] theorem State.modTile_domB (s : State) (t : Nat) (f : Tile → Tile) : (s.modTile t f).domB = s.domB := rfl
@[simp] theorem State.modTile_replicas (s : State) (t : Nat) (f : Tile → Tile) : (s.modTile t f).replicas = s.replicas := rfl
@[simp] theorem State.modTile_reepoch (s : State) (t : Nat) (f : Tile → Tile) : (s.modTile t f).reepoch = s.reepoch := rfl
@[simp] theorem State.modTile_pLast (s : State) (t : Nat) (f : Tile → Tile) : (s.modTile t f).pLast = s.pLast := rfl
@[simp] theorem State.modTile_pLastAt (s : State) (t : Nat) (f : Tile → Tile) : (s.modTile t f).pLastAt = s.pLastAt := rfl
@[simp] theorem State.modTile_ppsEdge (s : State) (t : Nat) (f : Tile → Tile) : (s.modTile t f).ppsEdge = s.ppsEdge := rfl
@[simp] theorem State.modTile_refBad (s : State) (t : Nat) (f : Tile → Tile) : (s.modTile t f).refBad = s.refBad := rfl
@[simp] theorem State.modTile_refAt (s : State) (t : Nat) (f : Tile → Tile) : (s.modTile t f).refAt = s.refAt := rfl
@[simp] theorem State.modTile_refGood (s : State) (t : Nat) (f : Tile → Tile) : (s.modTile t f).refGood = s.refGood := rfl
@[simp] theorem State.modTile_upstreamAt (s : State) (t : Nat) (f : Tile → Tile) : (s.modTile t f).upstreamAt = s.upstreamAt := rfl
@[simp] theorem State.modTile_commaTx (s : State) (t : Nat) (f : Tile → Tile) : (s.modTile t f).commaTx = s.commaTx := rfl
@[simp] theorem State.modTile_commaRx (s : State) (t : Nat) (f : Tile → Tile) : (s.modTile t f).commaRx = s.commaRx := rfl
@[simp] theorem State.modTile_helloAt (s : State) (t : Nat) (f : Tile → Tile) : (s.modTile t f).helloAt = s.helloAt := rfl
@[simp] theorem State.modTile_helloSeen (s : State) (t : Nat) (f : Tile → Tile) : (s.modTile t f).helloSeen = s.helloSeen := rfl
@[simp] theorem State.modTile_peers (s : State) (t : Nat) (f : Tile → Tile) : (s.modTile t f).peers = s.peers := rfl
@[simp] theorem State.modTile_helloSeq (s : State) (t : Nat) (f : Tile → Tile) : (s.modTile t f).helloSeq = s.helloSeq := rfl
@[simp] theorem State.modTile_helloSent (s : State) (t : Nat) (f : Tile → Tile) : (s.modTile t f).helloSent = s.helloSent := rfl
@[simp] theorem State.modTile_formingAt (s : State) (t : Nat) (f : Tile → Tile) : (s.modTile t f).formingAt = s.formingAt := rfl
@[simp] theorem State.modTile_electedAt (s : State) (t : Nat) (f : Tile → Tile) : (s.modTile t f).electedAt = s.electedAt := rfl
@[simp] theorem State.modTile_handover (s : State) (t : Nat) (f : Tile → Tile) : (s.modTile t f).handover = s.handover := rfl
@[simp] theorem State.modTile_joinOwed (s : State) (t : Nat) (f : Tile → Tile) : (s.modTile t f).joinOwed = s.joinOwed := rfl
@[simp] theorem State.modTile_upstream (s : State) (t : Nat) (f : Tile → Tile) : (s.modTile t f).upstream = s.upstream := rfl
@[simp] theorem State.modTile_relayed (s : State) (t : Nat) (f : Tile → Tile) : (s.modTile t f).relayed = s.relayed := rfl
@[simp] theorem State.modTile_relayNext (s : State) (t : Nat) (f : Tile → Tile) : (s.modTile t f).relayNext = s.relayNext := rfl
@[simp] theorem State.modTile_relayIds (s : State) (t : Nat) (f : Tile → Tile) : (s.modTile t f).relayIds = s.relayIds := rfl
@[simp] theorem State.modTile_abroad (s : State) (t : Nat) (f : Tile → Tile) : (s.modTile t f).abroad = s.abroad := rfl
@[simp] theorem State.modTile_relayIn (s : State) (t : Nat) (f : Tile → Tile) : (s.modTile t f).relayIn = s.relayIn := rfl
@[simp] theorem State.modTile_heldOps (s : State) (t : Nat) (f : Tile → Tile) : (s.modTile t f).heldOps = s.heldOps := rfl
@[simp] theorem State.modTile_tsqs (s : State) (t : Nat) (f : Tile → Tile) : (s.modTile t f).tsqs = s.tsqs := rfl
@[simp] theorem State.modTile_paths (s : State) (t : Nat) (f : Tile → Tile) : (s.modTile t f).paths = s.paths := rfl
@[simp] theorem State.modTile_keys (s : State) (t : Nat) (f : Tile → Tile) : (s.modTile t f).keys = s.keys := rfl
@[simp] theorem State.modTile_challenges (s : State) (t : Nat) (f : Tile → Tile) : (s.modTile t f).challenges = s.challenges := rfl
@[simp] theorem State.modTile_sessions (s : State) (t : Nat) (f : Tile → Tile) : (s.modTile t f).sessions = s.sessions := rfl
@[simp] theorem State.modTile_groups (s : State) (t : Nat) (f : Tile → Tile) : (s.modTile t f).groups = s.groups := rfl
@[simp] theorem State.modTile_responses (s : State) (t : Nat) (f : Tile → Tile) : (s.modTile t f).responses = s.responses := rfl
@[simp] theorem State.modTile_afterResponse (s : State) (t : Nat) (f : Tile → Tile) : (s.modTile t f).afterResponse = s.afterResponse := rfl
@[simp] theorem State.modTile_zwReqs (s : State) (t : Nat) (f : Tile → Tile) : (s.modTile t f).zwReqs = s.zwReqs := rfl
@[simp] theorem State.modTile_ibReqs (s : State) (t : Nat) (f : Tile → Tile) : (s.modTile t f).ibReqs = s.ibReqs := rfl
@[simp] theorem State.modTile_selects (s : State) (t : Nat) (f : Tile → Tile) : (s.modTile t f).selects = s.selects := rfl
@[simp] theorem State.modTile_hbLast (s : State) (t : Nat) (f : Tile → Tile) : (s.modTile t f).hbLast = s.hbLast := rfl
@[simp] theorem State.modTile_hbAt (s : State) (t : Nat) (f : Tile → Tile) : (s.modTile t f).hbAt = s.hbAt := rfl
@[simp] theorem State.modTile_lc (s : State) (t : Nat) (f : Tile → Tile) : (s.modTile t f).lc = s.lc := rfl
@[simp] theorem State.modTile_lcFatal (s : State) (t : Nat) (f : Tile → Tile) : (s.modTile t f).lcFatal = s.lcFatal := rfl
@[simp] theorem State.modTile_fwStore (s : State) (t : Nat) (f : Tile → Tile) : (s.modTile t f).fwStore = s.fwStore := rfl
@[simp] theorem State.modTile_fwRunning (s : State) (t : Nat) (f : Tile → Tile) : (s.modTile t f).fwRunning = s.fwRunning := rfl
@[simp] theorem State.modTile_fwUpdate (s : State) (t : Nat) (f : Tile → Tile) : (s.modTile t f).fwUpdate = s.fwUpdate := rfl
@[simp] theorem State.modTile_fwVerifying (s : State) (t : Nat) (f : Tile → Tile) : (s.modTile t f).fwVerifying = s.fwVerifying := rfl
@[simp] theorem State.modTile_proof (s : State) (t : Nat) (f : Tile → Tile) : (s.modTile t f).proof = s.proof := rfl
@[simp] theorem State.modTile_psSlots (s : State) (t : Nat) (f : Tile → Tile) : (s.modTile t f).psSlots = s.psSlots := rfl
@[simp] theorem State.modTile_psNow (s : State) (t : Nat) (f : Tile → Tile) : (s.modTile t f).psNow = s.psNow := rfl
@[simp] theorem State.modTile_psWait (s : State) (t : Nat) (f : Tile → Tile) : (s.modTile t f).psWait = s.psWait := rfl
@[simp] theorem State.modTile_psHeld (s : State) (t : Nat) (f : Tile → Tile) : (s.modTile t f).psHeld = s.psHeld := rfl
@[simp] theorem State.modTile_psHostAt (s : State) (t : Nat) (f : Tile → Tile) : (s.modTile t f).psHostAt = s.psHostAt := rfl
@[simp] theorem State.modTile_psLastAt (s : State) (t : Nat) (f : Tile → Tile) : (s.modTile t f).psLastAt = s.psLastAt := rfl
@[simp] theorem State.modTile_psSampleAt (s : State) (t : Nat) (f : Tile → Tile) : (s.modTile t f).psSampleAt = s.psSampleAt := rfl
@[simp] theorem State.modTile_psCopy (s : State) (t : Nat) (f : Tile → Tile) : (s.modTile t f).psCopy = s.psCopy := rfl
@[simp] theorem State.modTile_psCopyAt (s : State) (t : Nat) (f : Tile → Tile) : (s.modTile t f).psCopyAt = s.psCopyAt := rfl
@[simp] theorem State.modTile_wraps (s : State) (t : Nat) (f : Tile → Tile) : (s.modTile t f).wraps = s.wraps := rfl
@[simp] theorem State.modTile_mapGen (s : State) (t : Nat) (f : Tile → Tile) : (s.modTile t f).mapGen = s.mapGen := rfl
@[simp] theorem State.modTile_windows (s : State) (t : Nat) (f : Tile → Tile) : (s.modTile t f).windows = s.windows := rfl
@[simp] theorem State.modTile_queues (s : State) (t : Nat) (f : Tile → Tile) : (s.modTile t f).queues = s.queues := rfl
@[simp] theorem State.modTile_burins (s : State) (t : Nat) (f : Tile → Tile) : (s.modTile t f).burins = s.burins := rfl
@[simp] theorem State.modTile_frames (s : State) (t : Nat) (f : Tile → Tile) : (s.modTile t f).frames = s.frames := rfl
@[simp] theorem State.modTile_arrivals (s : State) (t : Nat) (f : Tile → Tile) : (s.modTile t f).arrivals = s.arrivals := rfl
@[simp] theorem State.modTile_words (s : State) (t : Nat) (f : Tile → Tile) : (s.modTile t f).words = s.words := rfl
@[simp] theorem State.modTile_copies (s : State) (t : Nat) (f : Tile → Tile) : (s.modTile t f).copies = s.copies := rfl
@[simp] theorem State.modTile_holds (s : State) (t : Nat) (f : Tile → Tile) : (s.modTile t f).holds = s.holds := rfl
@[simp] theorem State.modTile_bankAt (s : State) (t : Nat) (f : Tile → Tile) : (s.modTile t f).bankAt = s.bankAt := rfl
@[simp] theorem State.modTile_bankUsed (s : State) (t : Nat) (f : Tile → Tile) : (s.modTile t f).bankUsed = s.bankUsed := rfl
@[simp] theorem State.modTile_fates (s : State) (t : Nat) (f : Tile → Tile) : (s.modTile t f).fates = s.fates := rfl
@[simp] theorem State.modTile_rings (s : State) (t : Nat) (f : Tile → Tile) : (s.modTile t f).rings = s.rings := rfl
@[simp] theorem State.modTile_cqs (s : State) (t : Nat) (f : Tile → Tile) : (s.modTile t f).cqs = s.cqs := rfl
@[simp] theorem State.modTile_engineAt (s : State) (t : Nat) (f : Tile → Tile) : (s.modTile t f).engineAt = s.engineAt := rfl
@[simp] theorem State.modTile_qstats (s : State) (t : Nat) (f : Tile → Tile) : (s.modTile t f).qstats = s.qstats := rfl
@[simp] theorem State.modTile_afiQueues (s : State) (t : Nat) (f : Tile → Tile) : (s.modTile t f).afiQueues = s.afiQueues := rfl
@[simp] theorem State.modTile_ringQueues (s : State) (t : Nat) (f : Tile → Tile) : (s.modTile t f).ringQueues = s.ringQueues := rfl
@[simp] theorem State.modTile_policers (s : State) (t : Nat) (f : Tile → Tile) : (s.modTile t f).policers = s.policers := rfl
@[simp] theorem State.modTile_em (s : State) (t : Nat) (f : Tile → Tile) : (s.modTile t f).em = s.em := rfl
@[simp] theorem State.modTile_tc (s : State) (t : Nat) (f : Tile → Tile) : (s.modTile t f).tc = s.tc := rfl
@[simp] theorem State.modTile_tcHits (s : State) (t : Nat) (f : Tile → Tile) : (s.modTile t f).tcHits = s.tcHits := rfl
@[simp] theorem State.modTile_tcBad (s : State) (t : Nat) (f : Tile → Tile) : (s.modTile t f).tcBad = s.tcBad := rfl
@[simp] theorem State.modTile_etchObjs (s : State) (t : Nat) (f : Tile → Tile) : (s.modTile t f).etchObjs = s.etchObjs := rfl
@[simp] theorem State.modTile_etch (s : State) (t : Nat) (f : Tile → Tile) : (s.modTile t f).etch = s.etch := rfl
@[simp] theorem State.modTile_inflight (s : State) (t : Nat) (f : Tile → Tile) : (s.modTile t f).inflight = s.inflight := rfl
@[simp] theorem State.modTile_drainAt (s : State) (t : Nat) (f : Tile → Tile) : (s.modTile t f).drainAt = s.drainAt := rfl

/-! `modPort`. -/

@[simp] theorem State.modPort_pending (s : State) (p : Nat) (f : Port → Port) : (s.modPort p f).pending = s.pending := rfl
@[simp] theorem State.modPort_now (s : State) (p : Nat) (f : Port → Port) : (s.modPort p f).now = s.now := rfl
@[simp] theorem State.modPort_lStart (s : State) (p : Nat) (f : Port → Port) : (s.modPort p f).lStart = s.lStart := rfl
@[simp] theorem State.modPort_free (s : State) (p : Nat) (f : Port → Port) : (s.modPort p f).free = s.free := rfl
@[simp] theorem State.modPort_variant (s : State) (p : Nat) (f : Port → Port) : (s.modPort p f).variant = s.variant := rfl
@[simp] theorem State.modPort_objs (s : State) (p : Nat) (f : Port → Port) : (s.modPort p f).objs = s.objs := rfl
@[simp] theorem State.modPort_inForce (s : State) (p : Nat) (f : Port → Port) : (s.modPort p f).inForce = s.inForce := rfl
@[simp] theorem State.modPort_pairBad (s : State) (p : Nat) (f : Port → Port) : (s.modPort p f).pairBad = s.pairBad := rfl
@[simp] theorem State.modPort_out (s : State) (p : Nat) (f : Port → Port) : (s.modPort p f).out = s.out := rfl
@[simp] theorem State.modPort_pwrOk (s : State) (p : Nat) (f : Port → Port) : (s.modPort p f).pwrOk = s.pwrOk := rfl
@[simp] theorem State.modPort_porstN (s : State) (p : Nat) (f : Port → Port) : (s.modPort p f).porstN = s.porstN := rfl
@[simp] theorem State.modPort_serviceLow (s : State) (p : Nat) (f : Port → Port) : (s.modPort p f).serviceLow = s.serviceLow := rfl
@[simp] theorem State.modPort_asleep (s : State) (p : Nat) (f : Port → Port) : (s.modPort p f).asleep = s.asleep := rfl
@[simp] theorem State.modPort_fbStb (s : State) (p : Nat) (f : Port → Port) : (s.modPort p f).fbStb = s.fbStb := rfl
@[simp] theorem State.modPort_ppsOut (s : State) (p : Nat) (f : Port → Port) : (s.modPort p f).ppsOut = s.ppsOut := rfl
@[simp] theorem State.modPort_ppsLast (s : State) (p : Nat) (f : Port → Port) : (s.modPort p f).ppsLast = s.ppsLast := rfl
@[simp] theorem State.modPort_sleepEntry (s : State) (p : Nat) (f : Port → Port) : (s.modPort p f).sleepEntry = s.sleepEntry := rfl
@[simp] theorem State.modPort_wakeOwed (s : State) (p : Nat) (f : Port → Port) : (s.modPort p f).wakeOwed = s.wakeOwed := rfl
@[simp] theorem State.modPort_porstAt (s : State) (p : Nat) (f : Port → Port) : (s.modPort p f).porstAt = s.porstAt := rfl
@[simp] theorem State.modPort_sleepAt (s : State) (p : Nat) (f : Port → Port) : (s.modPort p f).sleepAt = s.sleepAt := rfl
@[simp] theorem State.modPort_lifeOwed (s : State) (p : Nat) (f : Port → Port) : (s.modPort p f).lifeOwed = s.lifeOwed := rfl
@[simp] theorem State.modPort_tiles (s : State) (p : Nat) (f : Port → Port) : (s.modPort p f).tiles = s.tiles := rfl
@[simp] theorem State.modPort_lanes (s : State) (p : Nat) (f : Port → Port) : (s.modPort p f).lanes = s.lanes := rfl
@[simp] theorem State.modPort_domA (s : State) (p : Nat) (f : Port → Port) : (s.modPort p f).domA = s.domA := rfl
@[simp] theorem State.modPort_domB (s : State) (p : Nat) (f : Port → Port) : (s.modPort p f).domB = s.domB := rfl
@[simp] theorem State.modPort_replicas (s : State) (p : Nat) (f : Port → Port) : (s.modPort p f).replicas = s.replicas := rfl
@[simp] theorem State.modPort_reepoch (s : State) (p : Nat) (f : Port → Port) : (s.modPort p f).reepoch = s.reepoch := rfl
@[simp] theorem State.modPort_pLast (s : State) (p : Nat) (f : Port → Port) : (s.modPort p f).pLast = s.pLast := rfl
@[simp] theorem State.modPort_pLastAt (s : State) (p : Nat) (f : Port → Port) : (s.modPort p f).pLastAt = s.pLastAt := rfl
@[simp] theorem State.modPort_ppsEdge (s : State) (p : Nat) (f : Port → Port) : (s.modPort p f).ppsEdge = s.ppsEdge := rfl
@[simp] theorem State.modPort_refBad (s : State) (p : Nat) (f : Port → Port) : (s.modPort p f).refBad = s.refBad := rfl
@[simp] theorem State.modPort_refAt (s : State) (p : Nat) (f : Port → Port) : (s.modPort p f).refAt = s.refAt := rfl
@[simp] theorem State.modPort_refGood (s : State) (p : Nat) (f : Port → Port) : (s.modPort p f).refGood = s.refGood := rfl
@[simp] theorem State.modPort_upstreamAt (s : State) (p : Nat) (f : Port → Port) : (s.modPort p f).upstreamAt = s.upstreamAt := rfl
@[simp] theorem State.modPort_commaTx (s : State) (p : Nat) (f : Port → Port) : (s.modPort p f).commaTx = s.commaTx := rfl
@[simp] theorem State.modPort_commaRx (s : State) (p : Nat) (f : Port → Port) : (s.modPort p f).commaRx = s.commaRx := rfl
@[simp] theorem State.modPort_helloAt (s : State) (p : Nat) (f : Port → Port) : (s.modPort p f).helloAt = s.helloAt := rfl
@[simp] theorem State.modPort_helloSeen (s : State) (p : Nat) (f : Port → Port) : (s.modPort p f).helloSeen = s.helloSeen := rfl
@[simp] theorem State.modPort_peers (s : State) (p : Nat) (f : Port → Port) : (s.modPort p f).peers = s.peers := rfl
@[simp] theorem State.modPort_helloSeq (s : State) (p : Nat) (f : Port → Port) : (s.modPort p f).helloSeq = s.helloSeq := rfl
@[simp] theorem State.modPort_helloSent (s : State) (p : Nat) (f : Port → Port) : (s.modPort p f).helloSent = s.helloSent := rfl
@[simp] theorem State.modPort_formingAt (s : State) (p : Nat) (f : Port → Port) : (s.modPort p f).formingAt = s.formingAt := rfl
@[simp] theorem State.modPort_electedAt (s : State) (p : Nat) (f : Port → Port) : (s.modPort p f).electedAt = s.electedAt := rfl
@[simp] theorem State.modPort_handover (s : State) (p : Nat) (f : Port → Port) : (s.modPort p f).handover = s.handover := rfl
@[simp] theorem State.modPort_joinOwed (s : State) (p : Nat) (f : Port → Port) : (s.modPort p f).joinOwed = s.joinOwed := rfl
@[simp] theorem State.modPort_upstream (s : State) (p : Nat) (f : Port → Port) : (s.modPort p f).upstream = s.upstream := rfl
@[simp] theorem State.modPort_relayed (s : State) (p : Nat) (f : Port → Port) : (s.modPort p f).relayed = s.relayed := rfl
@[simp] theorem State.modPort_relayNext (s : State) (p : Nat) (f : Port → Port) : (s.modPort p f).relayNext = s.relayNext := rfl
@[simp] theorem State.modPort_relayIds (s : State) (p : Nat) (f : Port → Port) : (s.modPort p f).relayIds = s.relayIds := rfl
@[simp] theorem State.modPort_abroad (s : State) (p : Nat) (f : Port → Port) : (s.modPort p f).abroad = s.abroad := rfl
@[simp] theorem State.modPort_relayIn (s : State) (p : Nat) (f : Port → Port) : (s.modPort p f).relayIn = s.relayIn := rfl
@[simp] theorem State.modPort_heldOps (s : State) (p : Nat) (f : Port → Port) : (s.modPort p f).heldOps = s.heldOps := rfl
@[simp] theorem State.modPort_tsqs (s : State) (p : Nat) (f : Port → Port) : (s.modPort p f).tsqs = s.tsqs := rfl
@[simp] theorem State.modPort_paths (s : State) (p : Nat) (f : Port → Port) : (s.modPort p f).paths = s.paths := rfl
@[simp] theorem State.modPort_keys (s : State) (p : Nat) (f : Port → Port) : (s.modPort p f).keys = s.keys := rfl
@[simp] theorem State.modPort_challenges (s : State) (p : Nat) (f : Port → Port) : (s.modPort p f).challenges = s.challenges := rfl
@[simp] theorem State.modPort_sessions (s : State) (p : Nat) (f : Port → Port) : (s.modPort p f).sessions = s.sessions := rfl
@[simp] theorem State.modPort_groups (s : State) (p : Nat) (f : Port → Port) : (s.modPort p f).groups = s.groups := rfl
@[simp] theorem State.modPort_responses (s : State) (p : Nat) (f : Port → Port) : (s.modPort p f).responses = s.responses := rfl
@[simp] theorem State.modPort_afterResponse (s : State) (p : Nat) (f : Port → Port) : (s.modPort p f).afterResponse = s.afterResponse := rfl
@[simp] theorem State.modPort_zwReqs (s : State) (p : Nat) (f : Port → Port) : (s.modPort p f).zwReqs = s.zwReqs := rfl
@[simp] theorem State.modPort_ibReqs (s : State) (p : Nat) (f : Port → Port) : (s.modPort p f).ibReqs = s.ibReqs := rfl
@[simp] theorem State.modPort_selects (s : State) (p : Nat) (f : Port → Port) : (s.modPort p f).selects = s.selects := rfl
@[simp] theorem State.modPort_hbLast (s : State) (p : Nat) (f : Port → Port) : (s.modPort p f).hbLast = s.hbLast := rfl
@[simp] theorem State.modPort_hbAt (s : State) (p : Nat) (f : Port → Port) : (s.modPort p f).hbAt = s.hbAt := rfl
@[simp] theorem State.modPort_lc (s : State) (p : Nat) (f : Port → Port) : (s.modPort p f).lc = s.lc := rfl
@[simp] theorem State.modPort_lcFatal (s : State) (p : Nat) (f : Port → Port) : (s.modPort p f).lcFatal = s.lcFatal := rfl
@[simp] theorem State.modPort_fwStore (s : State) (p : Nat) (f : Port → Port) : (s.modPort p f).fwStore = s.fwStore := rfl
@[simp] theorem State.modPort_fwRunning (s : State) (p : Nat) (f : Port → Port) : (s.modPort p f).fwRunning = s.fwRunning := rfl
@[simp] theorem State.modPort_fwUpdate (s : State) (p : Nat) (f : Port → Port) : (s.modPort p f).fwUpdate = s.fwUpdate := rfl
@[simp] theorem State.modPort_fwVerifying (s : State) (p : Nat) (f : Port → Port) : (s.modPort p f).fwVerifying = s.fwVerifying := rfl
@[simp] theorem State.modPort_proof (s : State) (p : Nat) (f : Port → Port) : (s.modPort p f).proof = s.proof := rfl
@[simp] theorem State.modPort_psSlots (s : State) (p : Nat) (f : Port → Port) : (s.modPort p f).psSlots = s.psSlots := rfl
@[simp] theorem State.modPort_psNow (s : State) (p : Nat) (f : Port → Port) : (s.modPort p f).psNow = s.psNow := rfl
@[simp] theorem State.modPort_psWait (s : State) (p : Nat) (f : Port → Port) : (s.modPort p f).psWait = s.psWait := rfl
@[simp] theorem State.modPort_psHeld (s : State) (p : Nat) (f : Port → Port) : (s.modPort p f).psHeld = s.psHeld := rfl
@[simp] theorem State.modPort_psHostAt (s : State) (p : Nat) (f : Port → Port) : (s.modPort p f).psHostAt = s.psHostAt := rfl
@[simp] theorem State.modPort_psLastAt (s : State) (p : Nat) (f : Port → Port) : (s.modPort p f).psLastAt = s.psLastAt := rfl
@[simp] theorem State.modPort_psSampleAt (s : State) (p : Nat) (f : Port → Port) : (s.modPort p f).psSampleAt = s.psSampleAt := rfl
@[simp] theorem State.modPort_psCopy (s : State) (p : Nat) (f : Port → Port) : (s.modPort p f).psCopy = s.psCopy := rfl
@[simp] theorem State.modPort_psCopyAt (s : State) (p : Nat) (f : Port → Port) : (s.modPort p f).psCopyAt = s.psCopyAt := rfl
@[simp] theorem State.modPort_wraps (s : State) (p : Nat) (f : Port → Port) : (s.modPort p f).wraps = s.wraps := rfl
@[simp] theorem State.modPort_mapGen (s : State) (p : Nat) (f : Port → Port) : (s.modPort p f).mapGen = s.mapGen := rfl
@[simp] theorem State.modPort_windows (s : State) (p : Nat) (f : Port → Port) : (s.modPort p f).windows = s.windows := rfl
@[simp] theorem State.modPort_queues (s : State) (p : Nat) (f : Port → Port) : (s.modPort p f).queues = s.queues := rfl
@[simp] theorem State.modPort_burins (s : State) (p : Nat) (f : Port → Port) : (s.modPort p f).burins = s.burins := rfl
@[simp] theorem State.modPort_frames (s : State) (p : Nat) (f : Port → Port) : (s.modPort p f).frames = s.frames := rfl
@[simp] theorem State.modPort_arrivals (s : State) (p : Nat) (f : Port → Port) : (s.modPort p f).arrivals = s.arrivals := rfl
@[simp] theorem State.modPort_words (s : State) (p : Nat) (f : Port → Port) : (s.modPort p f).words = s.words := rfl
@[simp] theorem State.modPort_copies (s : State) (p : Nat) (f : Port → Port) : (s.modPort p f).copies = s.copies := rfl
@[simp] theorem State.modPort_holds (s : State) (p : Nat) (f : Port → Port) : (s.modPort p f).holds = s.holds := rfl
@[simp] theorem State.modPort_bankAt (s : State) (p : Nat) (f : Port → Port) : (s.modPort p f).bankAt = s.bankAt := rfl
@[simp] theorem State.modPort_bankUsed (s : State) (p : Nat) (f : Port → Port) : (s.modPort p f).bankUsed = s.bankUsed := rfl
@[simp] theorem State.modPort_fates (s : State) (p : Nat) (f : Port → Port) : (s.modPort p f).fates = s.fates := rfl
@[simp] theorem State.modPort_rings (s : State) (p : Nat) (f : Port → Port) : (s.modPort p f).rings = s.rings := rfl
@[simp] theorem State.modPort_cqs (s : State) (p : Nat) (f : Port → Port) : (s.modPort p f).cqs = s.cqs := rfl
@[simp] theorem State.modPort_engineAt (s : State) (p : Nat) (f : Port → Port) : (s.modPort p f).engineAt = s.engineAt := rfl
@[simp] theorem State.modPort_qstats (s : State) (p : Nat) (f : Port → Port) : (s.modPort p f).qstats = s.qstats := rfl
@[simp] theorem State.modPort_afiQueues (s : State) (p : Nat) (f : Port → Port) : (s.modPort p f).afiQueues = s.afiQueues := rfl
@[simp] theorem State.modPort_ringQueues (s : State) (p : Nat) (f : Port → Port) : (s.modPort p f).ringQueues = s.ringQueues := rfl
@[simp] theorem State.modPort_policers (s : State) (p : Nat) (f : Port → Port) : (s.modPort p f).policers = s.policers := rfl
@[simp] theorem State.modPort_em (s : State) (p : Nat) (f : Port → Port) : (s.modPort p f).em = s.em := rfl
@[simp] theorem State.modPort_tc (s : State) (p : Nat) (f : Port → Port) : (s.modPort p f).tc = s.tc := rfl
@[simp] theorem State.modPort_tcHits (s : State) (p : Nat) (f : Port → Port) : (s.modPort p f).tcHits = s.tcHits := rfl
@[simp] theorem State.modPort_tcBad (s : State) (p : Nat) (f : Port → Port) : (s.modPort p f).tcBad = s.tcBad := rfl
@[simp] theorem State.modPort_etchObjs (s : State) (p : Nat) (f : Port → Port) : (s.modPort p f).etchObjs = s.etchObjs := rfl
@[simp] theorem State.modPort_etch (s : State) (p : Nat) (f : Port → Port) : (s.modPort p f).etch = s.etch := rfl
@[simp] theorem State.modPort_inflight (s : State) (p : Nat) (f : Port → Port) : (s.modPort p f).inflight = s.inflight := rfl
@[simp] theorem State.modPort_drainAt (s : State) (p : Nat) (f : Port → Port) : (s.modPort p f).drainAt = s.drainAt := rfl

/-! `modLane`. -/

@[simp] theorem State.modLane_pending (s : State) (l : Nat) (f : Lane → Lane) : (s.modLane l f).pending = s.pending := rfl
@[simp] theorem State.modLane_now (s : State) (l : Nat) (f : Lane → Lane) : (s.modLane l f).now = s.now := rfl
@[simp] theorem State.modLane_lStart (s : State) (l : Nat) (f : Lane → Lane) : (s.modLane l f).lStart = s.lStart := rfl
@[simp] theorem State.modLane_free (s : State) (l : Nat) (f : Lane → Lane) : (s.modLane l f).free = s.free := rfl
@[simp] theorem State.modLane_variant (s : State) (l : Nat) (f : Lane → Lane) : (s.modLane l f).variant = s.variant := rfl
@[simp] theorem State.modLane_objs (s : State) (l : Nat) (f : Lane → Lane) : (s.modLane l f).objs = s.objs := rfl
@[simp] theorem State.modLane_inForce (s : State) (l : Nat) (f : Lane → Lane) : (s.modLane l f).inForce = s.inForce := rfl
@[simp] theorem State.modLane_pairBad (s : State) (l : Nat) (f : Lane → Lane) : (s.modLane l f).pairBad = s.pairBad := rfl
@[simp] theorem State.modLane_out (s : State) (l : Nat) (f : Lane → Lane) : (s.modLane l f).out = s.out := rfl
@[simp] theorem State.modLane_pwrOk (s : State) (l : Nat) (f : Lane → Lane) : (s.modLane l f).pwrOk = s.pwrOk := rfl
@[simp] theorem State.modLane_porstN (s : State) (l : Nat) (f : Lane → Lane) : (s.modLane l f).porstN = s.porstN := rfl
@[simp] theorem State.modLane_serviceLow (s : State) (l : Nat) (f : Lane → Lane) : (s.modLane l f).serviceLow = s.serviceLow := rfl
@[simp] theorem State.modLane_asleep (s : State) (l : Nat) (f : Lane → Lane) : (s.modLane l f).asleep = s.asleep := rfl
@[simp] theorem State.modLane_fbStb (s : State) (l : Nat) (f : Lane → Lane) : (s.modLane l f).fbStb = s.fbStb := rfl
@[simp] theorem State.modLane_ppsOut (s : State) (l : Nat) (f : Lane → Lane) : (s.modLane l f).ppsOut = s.ppsOut := rfl
@[simp] theorem State.modLane_ppsLast (s : State) (l : Nat) (f : Lane → Lane) : (s.modLane l f).ppsLast = s.ppsLast := rfl
@[simp] theorem State.modLane_sleepEntry (s : State) (l : Nat) (f : Lane → Lane) : (s.modLane l f).sleepEntry = s.sleepEntry := rfl
@[simp] theorem State.modLane_wakeOwed (s : State) (l : Nat) (f : Lane → Lane) : (s.modLane l f).wakeOwed = s.wakeOwed := rfl
@[simp] theorem State.modLane_porstAt (s : State) (l : Nat) (f : Lane → Lane) : (s.modLane l f).porstAt = s.porstAt := rfl
@[simp] theorem State.modLane_sleepAt (s : State) (l : Nat) (f : Lane → Lane) : (s.modLane l f).sleepAt = s.sleepAt := rfl
@[simp] theorem State.modLane_lifeOwed (s : State) (l : Nat) (f : Lane → Lane) : (s.modLane l f).lifeOwed = s.lifeOwed := rfl
@[simp] theorem State.modLane_tiles (s : State) (l : Nat) (f : Lane → Lane) : (s.modLane l f).tiles = s.tiles := rfl
@[simp] theorem State.modLane_ports (s : State) (l : Nat) (f : Lane → Lane) : (s.modLane l f).ports = s.ports := rfl
@[simp] theorem State.modLane_domA (s : State) (l : Nat) (f : Lane → Lane) : (s.modLane l f).domA = s.domA := rfl
@[simp] theorem State.modLane_domB (s : State) (l : Nat) (f : Lane → Lane) : (s.modLane l f).domB = s.domB := rfl
@[simp] theorem State.modLane_replicas (s : State) (l : Nat) (f : Lane → Lane) : (s.modLane l f).replicas = s.replicas := rfl
@[simp] theorem State.modLane_reepoch (s : State) (l : Nat) (f : Lane → Lane) : (s.modLane l f).reepoch = s.reepoch := rfl
@[simp] theorem State.modLane_pLast (s : State) (l : Nat) (f : Lane → Lane) : (s.modLane l f).pLast = s.pLast := rfl
@[simp] theorem State.modLane_pLastAt (s : State) (l : Nat) (f : Lane → Lane) : (s.modLane l f).pLastAt = s.pLastAt := rfl
@[simp] theorem State.modLane_ppsEdge (s : State) (l : Nat) (f : Lane → Lane) : (s.modLane l f).ppsEdge = s.ppsEdge := rfl
@[simp] theorem State.modLane_refBad (s : State) (l : Nat) (f : Lane → Lane) : (s.modLane l f).refBad = s.refBad := rfl
@[simp] theorem State.modLane_refAt (s : State) (l : Nat) (f : Lane → Lane) : (s.modLane l f).refAt = s.refAt := rfl
@[simp] theorem State.modLane_refGood (s : State) (l : Nat) (f : Lane → Lane) : (s.modLane l f).refGood = s.refGood := rfl
@[simp] theorem State.modLane_upstreamAt (s : State) (l : Nat) (f : Lane → Lane) : (s.modLane l f).upstreamAt = s.upstreamAt := rfl
@[simp] theorem State.modLane_commaTx (s : State) (l : Nat) (f : Lane → Lane) : (s.modLane l f).commaTx = s.commaTx := rfl
@[simp] theorem State.modLane_commaRx (s : State) (l : Nat) (f : Lane → Lane) : (s.modLane l f).commaRx = s.commaRx := rfl
@[simp] theorem State.modLane_helloAt (s : State) (l : Nat) (f : Lane → Lane) : (s.modLane l f).helloAt = s.helloAt := rfl
@[simp] theorem State.modLane_helloSeen (s : State) (l : Nat) (f : Lane → Lane) : (s.modLane l f).helloSeen = s.helloSeen := rfl
@[simp] theorem State.modLane_peers (s : State) (l : Nat) (f : Lane → Lane) : (s.modLane l f).peers = s.peers := rfl
@[simp] theorem State.modLane_helloSeq (s : State) (l : Nat) (f : Lane → Lane) : (s.modLane l f).helloSeq = s.helloSeq := rfl
@[simp] theorem State.modLane_helloSent (s : State) (l : Nat) (f : Lane → Lane) : (s.modLane l f).helloSent = s.helloSent := rfl
@[simp] theorem State.modLane_formingAt (s : State) (l : Nat) (f : Lane → Lane) : (s.modLane l f).formingAt = s.formingAt := rfl
@[simp] theorem State.modLane_electedAt (s : State) (l : Nat) (f : Lane → Lane) : (s.modLane l f).electedAt = s.electedAt := rfl
@[simp] theorem State.modLane_handover (s : State) (l : Nat) (f : Lane → Lane) : (s.modLane l f).handover = s.handover := rfl
@[simp] theorem State.modLane_joinOwed (s : State) (l : Nat) (f : Lane → Lane) : (s.modLane l f).joinOwed = s.joinOwed := rfl
@[simp] theorem State.modLane_upstream (s : State) (l : Nat) (f : Lane → Lane) : (s.modLane l f).upstream = s.upstream := rfl
@[simp] theorem State.modLane_relayed (s : State) (l : Nat) (f : Lane → Lane) : (s.modLane l f).relayed = s.relayed := rfl
@[simp] theorem State.modLane_relayNext (s : State) (l : Nat) (f : Lane → Lane) : (s.modLane l f).relayNext = s.relayNext := rfl
@[simp] theorem State.modLane_relayIds (s : State) (l : Nat) (f : Lane → Lane) : (s.modLane l f).relayIds = s.relayIds := rfl
@[simp] theorem State.modLane_abroad (s : State) (l : Nat) (f : Lane → Lane) : (s.modLane l f).abroad = s.abroad := rfl
@[simp] theorem State.modLane_relayIn (s : State) (l : Nat) (f : Lane → Lane) : (s.modLane l f).relayIn = s.relayIn := rfl
@[simp] theorem State.modLane_heldOps (s : State) (l : Nat) (f : Lane → Lane) : (s.modLane l f).heldOps = s.heldOps := rfl
@[simp] theorem State.modLane_tsqs (s : State) (l : Nat) (f : Lane → Lane) : (s.modLane l f).tsqs = s.tsqs := rfl
@[simp] theorem State.modLane_paths (s : State) (l : Nat) (f : Lane → Lane) : (s.modLane l f).paths = s.paths := rfl
@[simp] theorem State.modLane_keys (s : State) (l : Nat) (f : Lane → Lane) : (s.modLane l f).keys = s.keys := rfl
@[simp] theorem State.modLane_challenges (s : State) (l : Nat) (f : Lane → Lane) : (s.modLane l f).challenges = s.challenges := rfl
@[simp] theorem State.modLane_sessions (s : State) (l : Nat) (f : Lane → Lane) : (s.modLane l f).sessions = s.sessions := rfl
@[simp] theorem State.modLane_groups (s : State) (l : Nat) (f : Lane → Lane) : (s.modLane l f).groups = s.groups := rfl
@[simp] theorem State.modLane_responses (s : State) (l : Nat) (f : Lane → Lane) : (s.modLane l f).responses = s.responses := rfl
@[simp] theorem State.modLane_afterResponse (s : State) (l : Nat) (f : Lane → Lane) : (s.modLane l f).afterResponse = s.afterResponse := rfl
@[simp] theorem State.modLane_zwReqs (s : State) (l : Nat) (f : Lane → Lane) : (s.modLane l f).zwReqs = s.zwReqs := rfl
@[simp] theorem State.modLane_ibReqs (s : State) (l : Nat) (f : Lane → Lane) : (s.modLane l f).ibReqs = s.ibReqs := rfl
@[simp] theorem State.modLane_selects (s : State) (l : Nat) (f : Lane → Lane) : (s.modLane l f).selects = s.selects := rfl
@[simp] theorem State.modLane_hbLast (s : State) (l : Nat) (f : Lane → Lane) : (s.modLane l f).hbLast = s.hbLast := rfl
@[simp] theorem State.modLane_hbAt (s : State) (l : Nat) (f : Lane → Lane) : (s.modLane l f).hbAt = s.hbAt := rfl
@[simp] theorem State.modLane_lc (s : State) (l : Nat) (f : Lane → Lane) : (s.modLane l f).lc = s.lc := rfl
@[simp] theorem State.modLane_lcFatal (s : State) (l : Nat) (f : Lane → Lane) : (s.modLane l f).lcFatal = s.lcFatal := rfl
@[simp] theorem State.modLane_fwStore (s : State) (l : Nat) (f : Lane → Lane) : (s.modLane l f).fwStore = s.fwStore := rfl
@[simp] theorem State.modLane_fwRunning (s : State) (l : Nat) (f : Lane → Lane) : (s.modLane l f).fwRunning = s.fwRunning := rfl
@[simp] theorem State.modLane_fwUpdate (s : State) (l : Nat) (f : Lane → Lane) : (s.modLane l f).fwUpdate = s.fwUpdate := rfl
@[simp] theorem State.modLane_fwVerifying (s : State) (l : Nat) (f : Lane → Lane) : (s.modLane l f).fwVerifying = s.fwVerifying := rfl
@[simp] theorem State.modLane_proof (s : State) (l : Nat) (f : Lane → Lane) : (s.modLane l f).proof = s.proof := rfl
@[simp] theorem State.modLane_psSlots (s : State) (l : Nat) (f : Lane → Lane) : (s.modLane l f).psSlots = s.psSlots := rfl
@[simp] theorem State.modLane_psNow (s : State) (l : Nat) (f : Lane → Lane) : (s.modLane l f).psNow = s.psNow := rfl
@[simp] theorem State.modLane_psWait (s : State) (l : Nat) (f : Lane → Lane) : (s.modLane l f).psWait = s.psWait := rfl
@[simp] theorem State.modLane_psHeld (s : State) (l : Nat) (f : Lane → Lane) : (s.modLane l f).psHeld = s.psHeld := rfl
@[simp] theorem State.modLane_psHostAt (s : State) (l : Nat) (f : Lane → Lane) : (s.modLane l f).psHostAt = s.psHostAt := rfl
@[simp] theorem State.modLane_psLastAt (s : State) (l : Nat) (f : Lane → Lane) : (s.modLane l f).psLastAt = s.psLastAt := rfl
@[simp] theorem State.modLane_psSampleAt (s : State) (l : Nat) (f : Lane → Lane) : (s.modLane l f).psSampleAt = s.psSampleAt := rfl
@[simp] theorem State.modLane_psCopy (s : State) (l : Nat) (f : Lane → Lane) : (s.modLane l f).psCopy = s.psCopy := rfl
@[simp] theorem State.modLane_psCopyAt (s : State) (l : Nat) (f : Lane → Lane) : (s.modLane l f).psCopyAt = s.psCopyAt := rfl
@[simp] theorem State.modLane_wraps (s : State) (l : Nat) (f : Lane → Lane) : (s.modLane l f).wraps = s.wraps := rfl
@[simp] theorem State.modLane_mapGen (s : State) (l : Nat) (f : Lane → Lane) : (s.modLane l f).mapGen = s.mapGen := rfl
@[simp] theorem State.modLane_windows (s : State) (l : Nat) (f : Lane → Lane) : (s.modLane l f).windows = s.windows := rfl
@[simp] theorem State.modLane_queues (s : State) (l : Nat) (f : Lane → Lane) : (s.modLane l f).queues = s.queues := rfl
@[simp] theorem State.modLane_burins (s : State) (l : Nat) (f : Lane → Lane) : (s.modLane l f).burins = s.burins := rfl
@[simp] theorem State.modLane_frames (s : State) (l : Nat) (f : Lane → Lane) : (s.modLane l f).frames = s.frames := rfl
@[simp] theorem State.modLane_arrivals (s : State) (l : Nat) (f : Lane → Lane) : (s.modLane l f).arrivals = s.arrivals := rfl
@[simp] theorem State.modLane_words (s : State) (l : Nat) (f : Lane → Lane) : (s.modLane l f).words = s.words := rfl
@[simp] theorem State.modLane_copies (s : State) (l : Nat) (f : Lane → Lane) : (s.modLane l f).copies = s.copies := rfl
@[simp] theorem State.modLane_holds (s : State) (l : Nat) (f : Lane → Lane) : (s.modLane l f).holds = s.holds := rfl
@[simp] theorem State.modLane_bankAt (s : State) (l : Nat) (f : Lane → Lane) : (s.modLane l f).bankAt = s.bankAt := rfl
@[simp] theorem State.modLane_bankUsed (s : State) (l : Nat) (f : Lane → Lane) : (s.modLane l f).bankUsed = s.bankUsed := rfl
@[simp] theorem State.modLane_fates (s : State) (l : Nat) (f : Lane → Lane) : (s.modLane l f).fates = s.fates := rfl
@[simp] theorem State.modLane_rings (s : State) (l : Nat) (f : Lane → Lane) : (s.modLane l f).rings = s.rings := rfl
@[simp] theorem State.modLane_cqs (s : State) (l : Nat) (f : Lane → Lane) : (s.modLane l f).cqs = s.cqs := rfl
@[simp] theorem State.modLane_engineAt (s : State) (l : Nat) (f : Lane → Lane) : (s.modLane l f).engineAt = s.engineAt := rfl
@[simp] theorem State.modLane_qstats (s : State) (l : Nat) (f : Lane → Lane) : (s.modLane l f).qstats = s.qstats := rfl
@[simp] theorem State.modLane_afiQueues (s : State) (l : Nat) (f : Lane → Lane) : (s.modLane l f).afiQueues = s.afiQueues := rfl
@[simp] theorem State.modLane_ringQueues (s : State) (l : Nat) (f : Lane → Lane) : (s.modLane l f).ringQueues = s.ringQueues := rfl
@[simp] theorem State.modLane_policers (s : State) (l : Nat) (f : Lane → Lane) : (s.modLane l f).policers = s.policers := rfl
@[simp] theorem State.modLane_em (s : State) (l : Nat) (f : Lane → Lane) : (s.modLane l f).em = s.em := rfl
@[simp] theorem State.modLane_tc (s : State) (l : Nat) (f : Lane → Lane) : (s.modLane l f).tc = s.tc := rfl
@[simp] theorem State.modLane_tcHits (s : State) (l : Nat) (f : Lane → Lane) : (s.modLane l f).tcHits = s.tcHits := rfl
@[simp] theorem State.modLane_tcBad (s : State) (l : Nat) (f : Lane → Lane) : (s.modLane l f).tcBad = s.tcBad := rfl
@[simp] theorem State.modLane_etchObjs (s : State) (l : Nat) (f : Lane → Lane) : (s.modLane l f).etchObjs = s.etchObjs := rfl
@[simp] theorem State.modLane_etch (s : State) (l : Nat) (f : Lane → Lane) : (s.modLane l f).etch = s.etch := rfl
@[simp] theorem State.modLane_inflight (s : State) (l : Nat) (f : Lane → Lane) : (s.modLane l f).inflight = s.inflight := rfl
@[simp] theorem State.modLane_drainAt (s : State) (l : Nat) (f : Lane → Lane) : (s.modLane l f).drainAt = s.drainAt := rfl

/-! `modReplica`. -/

@[simp] theorem State.modReplica_pending (s : State) (rep d : Nat) (f : Replica → Replica) : (s.modReplica rep d f).pending = s.pending := rfl
@[simp] theorem State.modReplica_now (s : State) (rep d : Nat) (f : Replica → Replica) : (s.modReplica rep d f).now = s.now := rfl
@[simp] theorem State.modReplica_lStart (s : State) (rep d : Nat) (f : Replica → Replica) : (s.modReplica rep d f).lStart = s.lStart := rfl
@[simp] theorem State.modReplica_free (s : State) (rep d : Nat) (f : Replica → Replica) : (s.modReplica rep d f).free = s.free := rfl
@[simp] theorem State.modReplica_variant (s : State) (rep d : Nat) (f : Replica → Replica) : (s.modReplica rep d f).variant = s.variant := rfl
@[simp] theorem State.modReplica_objs (s : State) (rep d : Nat) (f : Replica → Replica) : (s.modReplica rep d f).objs = s.objs := rfl
@[simp] theorem State.modReplica_inForce (s : State) (rep d : Nat) (f : Replica → Replica) : (s.modReplica rep d f).inForce = s.inForce := rfl
@[simp] theorem State.modReplica_out (s : State) (rep d : Nat) (f : Replica → Replica) : (s.modReplica rep d f).out = s.out := rfl
@[simp] theorem State.modReplica_tiles (s : State) (rep d : Nat) (f : Replica → Replica) : (s.modReplica rep d f).tiles = s.tiles := rfl
@[simp] theorem State.modReplica_ports (s : State) (rep d : Nat) (f : Replica → Replica) : (s.modReplica rep d f).ports = s.ports := rfl
@[simp] theorem State.modReplica_lanes (s : State) (rep d : Nat) (f : Replica → Replica) : (s.modReplica rep d f).lanes = s.lanes := rfl
@[simp] theorem State.modReplica_proof (s : State) (rep d : Nat) (f : Replica → Replica) : (s.modReplica rep d f).proof = s.proof := rfl
@[simp] theorem State.modReplica_wraps (s : State) (rep d : Nat) (f : Replica → Replica) : (s.modReplica rep d f).wraps = s.wraps := rfl
@[simp] theorem State.modReplica_queues (s : State) (rep d : Nat) (f : Replica → Replica) : (s.modReplica rep d f).queues = s.queues := rfl
@[simp] theorem State.modReplica_burins (s : State) (rep d : Nat) (f : Replica → Replica) : (s.modReplica rep d f).burins = s.burins := rfl
@[simp] theorem State.modReplica_frames (s : State) (rep d : Nat) (f : Replica → Replica) : (s.modReplica rep d f).frames = s.frames := rfl
@[simp] theorem State.modReplica_copies (s : State) (rep d : Nat) (f : Replica → Replica) : (s.modReplica rep d f).copies = s.copies := rfl
@[simp] theorem State.modReplica_fates (s : State) (rep d : Nat) (f : Replica → Replica) : (s.modReplica rep d f).fates = s.fates := rfl
@[simp] theorem State.modReplica_rings (s : State) (rep d : Nat) (f : Replica → Replica) : (s.modReplica rep d f).rings = s.rings := rfl
@[simp] theorem State.modReplica_cqs (s : State) (rep d : Nat) (f : Replica → Replica) : (s.modReplica rep d f).cqs = s.cqs := rfl

/-! `emit`. -/

@[simp] theorem State.emit_pending (s : State) (o : Out) : (s.emit o).pending = s.pending := rfl
@[simp] theorem State.emit_now (s : State) (o : Out) : (s.emit o).now = s.now := rfl
@[simp] theorem State.emit_lStart (s : State) (o : Out) : (s.emit o).lStart = s.lStart := rfl
@[simp] theorem State.emit_free (s : State) (o : Out) : (s.emit o).free = s.free := rfl
@[simp] theorem State.emit_variant (s : State) (o : Out) : (s.emit o).variant = s.variant := rfl
@[simp] theorem State.emit_objs (s : State) (o : Out) : (s.emit o).objs = s.objs := rfl
@[simp] theorem State.emit_inForce (s : State) (o : Out) : (s.emit o).inForce = s.inForce := rfl
@[simp] theorem State.emit_tiles (s : State) (o : Out) : (s.emit o).tiles = s.tiles := rfl
@[simp] theorem State.emit_ports (s : State) (o : Out) : (s.emit o).ports = s.ports := rfl
@[simp] theorem State.emit_lanes (s : State) (o : Out) : (s.emit o).lanes = s.lanes := rfl
@[simp] theorem State.emit_proof (s : State) (o : Out) : (s.emit o).proof = s.proof := rfl
@[simp] theorem State.emit_wraps (s : State) (o : Out) : (s.emit o).wraps = s.wraps := rfl
@[simp] theorem State.emit_queues (s : State) (o : Out) : (s.emit o).queues = s.queues := rfl
@[simp] theorem State.emit_burins (s : State) (o : Out) : (s.emit o).burins = s.burins := rfl
@[simp] theorem State.emit_frames (s : State) (o : Out) : (s.emit o).frames = s.frames := rfl
@[simp] theorem State.emit_copies (s : State) (o : Out) : (s.emit o).copies = s.copies := rfl
@[simp] theorem State.emit_fates (s : State) (o : Out) : (s.emit o).fates = s.fates := rfl
@[simp] theorem State.emit_rings (s : State) (o : Out) : (s.emit o).rings = s.rings := rfl
@[simp] theorem State.emit_cqs (s : State) (o : Out) : (s.emit o).cqs = s.cqs := rfl

/-! `modQueue`. -/

@[simp] theorem State.modQueue_pending (s : State) (p q : Nat) (f : Queue → Queue) : (s.modQueue p q f).pending = s.pending := rfl
@[simp] theorem State.modQueue_now (s : State) (p q : Nat) (f : Queue → Queue) : (s.modQueue p q f).now = s.now := rfl
@[simp] theorem State.modQueue_lStart (s : State) (p q : Nat) (f : Queue → Queue) : (s.modQueue p q f).lStart = s.lStart := rfl
@[simp] theorem State.modQueue_free (s : State) (p q : Nat) (f : Queue → Queue) : (s.modQueue p q f).free = s.free := rfl
@[simp] theorem State.modQueue_variant (s : State) (p q : Nat) (f : Queue → Queue) : (s.modQueue p q f).variant = s.variant := rfl
@[simp] theorem State.modQueue_objs (s : State) (p q : Nat) (f : Queue → Queue) : (s.modQueue p q f).objs = s.objs := rfl
@[simp] theorem State.modQueue_inForce (s : State) (p q : Nat) (f : Queue → Queue) : (s.modQueue p q f).inForce = s.inForce := rfl
@[simp] theorem State.modQueue_out (s : State) (p q : Nat) (f : Queue → Queue) : (s.modQueue p q f).out = s.out := rfl
@[simp] theorem State.modQueue_tiles (s : State) (p q : Nat) (f : Queue → Queue) : (s.modQueue p q f).tiles = s.tiles := rfl
@[simp] theorem State.modQueue_ports (s : State) (p q : Nat) (f : Queue → Queue) : (s.modQueue p q f).ports = s.ports := rfl
@[simp] theorem State.modQueue_lanes (s : State) (p q : Nat) (f : Queue → Queue) : (s.modQueue p q f).lanes = s.lanes := rfl
@[simp] theorem State.modQueue_proof (s : State) (p q : Nat) (f : Queue → Queue) : (s.modQueue p q f).proof = s.proof := rfl
@[simp] theorem State.modQueue_wraps (s : State) (p q : Nat) (f : Queue → Queue) : (s.modQueue p q f).wraps = s.wraps := rfl
@[simp] theorem State.modQueue_burins (s : State) (p q : Nat) (f : Queue → Queue) : (s.modQueue p q f).burins = s.burins := rfl
@[simp] theorem State.modQueue_frames (s : State) (p q : Nat) (f : Queue → Queue) : (s.modQueue p q f).frames = s.frames := rfl
@[simp] theorem State.modQueue_copies (s : State) (p q : Nat) (f : Queue → Queue) : (s.modQueue p q f).copies = s.copies := rfl
@[simp] theorem State.modQueue_fates (s : State) (p q : Nat) (f : Queue → Queue) : (s.modQueue p q f).fates = s.fates := rfl
@[simp] theorem State.modQueue_rings (s : State) (p q : Nat) (f : Queue → Queue) : (s.modQueue p q f).rings = s.rings := rfl
@[simp] theorem State.modQueue_cqs (s : State) (p q : Nat) (f : Queue → Queue) : (s.modQueue p q f).cqs = s.cqs := rfl

/-! `modBurin`. -/

@[simp] theorem State.modBurin_pending (s : State) (p : Nat) (f : Burin → Burin) : (s.modBurin p f).pending = s.pending := rfl
@[simp] theorem State.modBurin_now (s : State) (p : Nat) (f : Burin → Burin) : (s.modBurin p f).now = s.now := rfl
@[simp] theorem State.modBurin_lStart (s : State) (p : Nat) (f : Burin → Burin) : (s.modBurin p f).lStart = s.lStart := rfl
@[simp] theorem State.modBurin_free (s : State) (p : Nat) (f : Burin → Burin) : (s.modBurin p f).free = s.free := rfl
@[simp] theorem State.modBurin_variant (s : State) (p : Nat) (f : Burin → Burin) : (s.modBurin p f).variant = s.variant := rfl
@[simp] theorem State.modBurin_objs (s : State) (p : Nat) (f : Burin → Burin) : (s.modBurin p f).objs = s.objs := rfl
@[simp] theorem State.modBurin_inForce (s : State) (p : Nat) (f : Burin → Burin) : (s.modBurin p f).inForce = s.inForce := rfl
@[simp] theorem State.modBurin_out (s : State) (p : Nat) (f : Burin → Burin) : (s.modBurin p f).out = s.out := rfl
@[simp] theorem State.modBurin_tiles (s : State) (p : Nat) (f : Burin → Burin) : (s.modBurin p f).tiles = s.tiles := rfl
@[simp] theorem State.modBurin_ports (s : State) (p : Nat) (f : Burin → Burin) : (s.modBurin p f).ports = s.ports := rfl
@[simp] theorem State.modBurin_lanes (s : State) (p : Nat) (f : Burin → Burin) : (s.modBurin p f).lanes = s.lanes := rfl
@[simp] theorem State.modBurin_proof (s : State) (p : Nat) (f : Burin → Burin) : (s.modBurin p f).proof = s.proof := rfl
@[simp] theorem State.modBurin_wraps (s : State) (p : Nat) (f : Burin → Burin) : (s.modBurin p f).wraps = s.wraps := rfl
@[simp] theorem State.modBurin_queues (s : State) (p : Nat) (f : Burin → Burin) : (s.modBurin p f).queues = s.queues := rfl
@[simp] theorem State.modBurin_frames (s : State) (p : Nat) (f : Burin → Burin) : (s.modBurin p f).frames = s.frames := rfl
@[simp] theorem State.modBurin_copies (s : State) (p : Nat) (f : Burin → Burin) : (s.modBurin p f).copies = s.copies := rfl
@[simp] theorem State.modBurin_fates (s : State) (p : Nat) (f : Burin → Burin) : (s.modBurin p f).fates = s.fates := rfl
@[simp] theorem State.modBurin_rings (s : State) (p : Nat) (f : Burin → Burin) : (s.modBurin p f).rings = s.rings := rfl
@[simp] theorem State.modBurin_cqs (s : State) (p : Nat) (f : Burin → Burin) : (s.modBurin p f).cqs = s.cqs := rfl

/-! `modRing`. -/

@[simp] theorem State.modRing_pending (s : State) (t : Nat) (rx : Bool) (n : Nat) (f : Ring → Ring) : (s.modRing t rx n f).pending = s.pending := rfl
@[simp] theorem State.modRing_now (s : State) (t : Nat) (rx : Bool) (n : Nat) (f : Ring → Ring) : (s.modRing t rx n f).now = s.now := rfl
@[simp] theorem State.modRing_lStart (s : State) (t : Nat) (rx : Bool) (n : Nat) (f : Ring → Ring) : (s.modRing t rx n f).lStart = s.lStart := rfl
@[simp] theorem State.modRing_free (s : State) (t : Nat) (rx : Bool) (n : Nat) (f : Ring → Ring) : (s.modRing t rx n f).free = s.free := rfl
@[simp] theorem State.modRing_variant (s : State) (t : Nat) (rx : Bool) (n : Nat) (f : Ring → Ring) : (s.modRing t rx n f).variant = s.variant := rfl
@[simp] theorem State.modRing_objs (s : State) (t : Nat) (rx : Bool) (n : Nat) (f : Ring → Ring) : (s.modRing t rx n f).objs = s.objs := rfl
@[simp] theorem State.modRing_inForce (s : State) (t : Nat) (rx : Bool) (n : Nat) (f : Ring → Ring) : (s.modRing t rx n f).inForce = s.inForce := rfl
@[simp] theorem State.modRing_out (s : State) (t : Nat) (rx : Bool) (n : Nat) (f : Ring → Ring) : (s.modRing t rx n f).out = s.out := rfl
@[simp] theorem State.modRing_tiles (s : State) (t : Nat) (rx : Bool) (n : Nat) (f : Ring → Ring) : (s.modRing t rx n f).tiles = s.tiles := rfl
@[simp] theorem State.modRing_ports (s : State) (t : Nat) (rx : Bool) (n : Nat) (f : Ring → Ring) : (s.modRing t rx n f).ports = s.ports := rfl
@[simp] theorem State.modRing_lanes (s : State) (t : Nat) (rx : Bool) (n : Nat) (f : Ring → Ring) : (s.modRing t rx n f).lanes = s.lanes := rfl
@[simp] theorem State.modRing_proof (s : State) (t : Nat) (rx : Bool) (n : Nat) (f : Ring → Ring) : (s.modRing t rx n f).proof = s.proof := rfl
@[simp] theorem State.modRing_wraps (s : State) (t : Nat) (rx : Bool) (n : Nat) (f : Ring → Ring) : (s.modRing t rx n f).wraps = s.wraps := rfl
@[simp] theorem State.modRing_queues (s : State) (t : Nat) (rx : Bool) (n : Nat) (f : Ring → Ring) : (s.modRing t rx n f).queues = s.queues := rfl
@[simp] theorem State.modRing_burins (s : State) (t : Nat) (rx : Bool) (n : Nat) (f : Ring → Ring) : (s.modRing t rx n f).burins = s.burins := rfl
@[simp] theorem State.modRing_frames (s : State) (t : Nat) (rx : Bool) (n : Nat) (f : Ring → Ring) : (s.modRing t rx n f).frames = s.frames := rfl
@[simp] theorem State.modRing_copies (s : State) (t : Nat) (rx : Bool) (n : Nat) (f : Ring → Ring) : (s.modRing t rx n f).copies = s.copies := rfl
@[simp] theorem State.modRing_fates (s : State) (t : Nat) (rx : Bool) (n : Nat) (f : Ring → Ring) : (s.modRing t rx n f).fates = s.fates := rfl
@[simp] theorem State.modRing_cqs (s : State) (t : Nat) (rx : Bool) (n : Nat) (f : Ring → Ring) : (s.modRing t rx n f).cqs = s.cqs := rfl

/-! `modCq`. -/

@[simp] theorem State.modCq_pending (s : State) (t q : Nat) (f : Cq → Cq) : (s.modCq t q f).pending = s.pending := rfl
@[simp] theorem State.modCq_now (s : State) (t q : Nat) (f : Cq → Cq) : (s.modCq t q f).now = s.now := rfl
@[simp] theorem State.modCq_lStart (s : State) (t q : Nat) (f : Cq → Cq) : (s.modCq t q f).lStart = s.lStart := rfl
@[simp] theorem State.modCq_free (s : State) (t q : Nat) (f : Cq → Cq) : (s.modCq t q f).free = s.free := rfl
@[simp] theorem State.modCq_variant (s : State) (t q : Nat) (f : Cq → Cq) : (s.modCq t q f).variant = s.variant := rfl
@[simp] theorem State.modCq_objs (s : State) (t q : Nat) (f : Cq → Cq) : (s.modCq t q f).objs = s.objs := rfl
@[simp] theorem State.modCq_inForce (s : State) (t q : Nat) (f : Cq → Cq) : (s.modCq t q f).inForce = s.inForce := rfl
@[simp] theorem State.modCq_out (s : State) (t q : Nat) (f : Cq → Cq) : (s.modCq t q f).out = s.out := rfl
@[simp] theorem State.modCq_tiles (s : State) (t q : Nat) (f : Cq → Cq) : (s.modCq t q f).tiles = s.tiles := rfl
@[simp] theorem State.modCq_ports (s : State) (t q : Nat) (f : Cq → Cq) : (s.modCq t q f).ports = s.ports := rfl
@[simp] theorem State.modCq_lanes (s : State) (t q : Nat) (f : Cq → Cq) : (s.modCq t q f).lanes = s.lanes := rfl
@[simp] theorem State.modCq_proof (s : State) (t q : Nat) (f : Cq → Cq) : (s.modCq t q f).proof = s.proof := rfl
@[simp] theorem State.modCq_wraps (s : State) (t q : Nat) (f : Cq → Cq) : (s.modCq t q f).wraps = s.wraps := rfl
@[simp] theorem State.modCq_queues (s : State) (t q : Nat) (f : Cq → Cq) : (s.modCq t q f).queues = s.queues := rfl
@[simp] theorem State.modCq_burins (s : State) (t q : Nat) (f : Cq → Cq) : (s.modCq t q f).burins = s.burins := rfl
@[simp] theorem State.modCq_frames (s : State) (t q : Nat) (f : Cq → Cq) : (s.modCq t q f).frames = s.frames := rfl
@[simp] theorem State.modCq_copies (s : State) (t q : Nat) (f : Cq → Cq) : (s.modCq t q f).copies = s.copies := rfl
@[simp] theorem State.modCq_fates (s : State) (t q : Nat) (f : Cq → Cq) : (s.modCq t q f).fates = s.fates := rfl
@[simp] theorem State.modCq_rings (s : State) (t q : Nat) (f : Cq → Cq) : (s.modCq t q f).rings = s.rings := rfl

/-! `modFrame`. -/

@[simp] theorem State.modFrame_pending (s : State) (fid : Nat) (g : Frame → Frame) : (s.modFrame fid g).pending = s.pending := rfl
@[simp] theorem State.modFrame_now (s : State) (fid : Nat) (g : Frame → Frame) : (s.modFrame fid g).now = s.now := rfl
@[simp] theorem State.modFrame_lStart (s : State) (fid : Nat) (g : Frame → Frame) : (s.modFrame fid g).lStart = s.lStart := rfl
@[simp] theorem State.modFrame_free (s : State) (fid : Nat) (g : Frame → Frame) : (s.modFrame fid g).free = s.free := rfl
@[simp] theorem State.modFrame_variant (s : State) (fid : Nat) (g : Frame → Frame) : (s.modFrame fid g).variant = s.variant := rfl
@[simp] theorem State.modFrame_objs (s : State) (fid : Nat) (g : Frame → Frame) : (s.modFrame fid g).objs = s.objs := rfl
@[simp] theorem State.modFrame_inForce (s : State) (fid : Nat) (g : Frame → Frame) : (s.modFrame fid g).inForce = s.inForce := rfl
@[simp] theorem State.modFrame_out (s : State) (fid : Nat) (g : Frame → Frame) : (s.modFrame fid g).out = s.out := rfl
@[simp] theorem State.modFrame_tiles (s : State) (fid : Nat) (g : Frame → Frame) : (s.modFrame fid g).tiles = s.tiles := rfl
@[simp] theorem State.modFrame_ports (s : State) (fid : Nat) (g : Frame → Frame) : (s.modFrame fid g).ports = s.ports := rfl
@[simp] theorem State.modFrame_lanes (s : State) (fid : Nat) (g : Frame → Frame) : (s.modFrame fid g).lanes = s.lanes := rfl
@[simp] theorem State.modFrame_proof (s : State) (fid : Nat) (g : Frame → Frame) : (s.modFrame fid g).proof = s.proof := rfl
@[simp] theorem State.modFrame_wraps (s : State) (fid : Nat) (g : Frame → Frame) : (s.modFrame fid g).wraps = s.wraps := rfl
@[simp] theorem State.modFrame_queues (s : State) (fid : Nat) (g : Frame → Frame) : (s.modFrame fid g).queues = s.queues := rfl
@[simp] theorem State.modFrame_burins (s : State) (fid : Nat) (g : Frame → Frame) : (s.modFrame fid g).burins = s.burins := rfl
@[simp] theorem State.modFrame_copies (s : State) (fid : Nat) (g : Frame → Frame) : (s.modFrame fid g).copies = s.copies := rfl
@[simp] theorem State.modFrame_fates (s : State) (fid : Nat) (g : Frame → Frame) : (s.modFrame fid g).fates = s.fates := rfl
@[simp] theorem State.modFrame_rings (s : State) (fid : Nat) (g : Frame → Frame) : (s.modFrame fid g).rings = s.rings := rfl
@[simp] theorem State.modFrame_cqs (s : State) (fid : Nat) (g : Frame → Frame) : (s.modFrame fid g).cqs = s.cqs := rfl

/-! `modCopy`. -/

@[simp] theorem State.modCopy_pending (s : State) (fid h : Nat) (g : Copy → Copy) : (s.modCopy fid h g).pending = s.pending := rfl
@[simp] theorem State.modCopy_now (s : State) (fid h : Nat) (g : Copy → Copy) : (s.modCopy fid h g).now = s.now := rfl
@[simp] theorem State.modCopy_lStart (s : State) (fid h : Nat) (g : Copy → Copy) : (s.modCopy fid h g).lStart = s.lStart := rfl
@[simp] theorem State.modCopy_free (s : State) (fid h : Nat) (g : Copy → Copy) : (s.modCopy fid h g).free = s.free := rfl
@[simp] theorem State.modCopy_variant (s : State) (fid h : Nat) (g : Copy → Copy) : (s.modCopy fid h g).variant = s.variant := rfl
@[simp] theorem State.modCopy_objs (s : State) (fid h : Nat) (g : Copy → Copy) : (s.modCopy fid h g).objs = s.objs := rfl
@[simp] theorem State.modCopy_inForce (s : State) (fid h : Nat) (g : Copy → Copy) : (s.modCopy fid h g).inForce = s.inForce := rfl
@[simp] theorem State.modCopy_out (s : State) (fid h : Nat) (g : Copy → Copy) : (s.modCopy fid h g).out = s.out := rfl
@[simp] theorem State.modCopy_tiles (s : State) (fid h : Nat) (g : Copy → Copy) : (s.modCopy fid h g).tiles = s.tiles := rfl
@[simp] theorem State.modCopy_ports (s : State) (fid h : Nat) (g : Copy → Copy) : (s.modCopy fid h g).ports = s.ports := rfl
@[simp] theorem State.modCopy_lanes (s : State) (fid h : Nat) (g : Copy → Copy) : (s.modCopy fid h g).lanes = s.lanes := rfl
@[simp] theorem State.modCopy_proof (s : State) (fid h : Nat) (g : Copy → Copy) : (s.modCopy fid h g).proof = s.proof := rfl
@[simp] theorem State.modCopy_wraps (s : State) (fid h : Nat) (g : Copy → Copy) : (s.modCopy fid h g).wraps = s.wraps := rfl
@[simp] theorem State.modCopy_queues (s : State) (fid h : Nat) (g : Copy → Copy) : (s.modCopy fid h g).queues = s.queues := rfl
@[simp] theorem State.modCopy_burins (s : State) (fid h : Nat) (g : Copy → Copy) : (s.modCopy fid h g).burins = s.burins := rfl
@[simp] theorem State.modCopy_frames (s : State) (fid h : Nat) (g : Copy → Copy) : (s.modCopy fid h g).frames = s.frames := rfl
@[simp] theorem State.modCopy_fates (s : State) (fid h : Nat) (g : Copy → Copy) : (s.modCopy fid h g).fates = s.fates := rfl
@[simp] theorem State.modCopy_rings (s : State) (fid h : Nat) (g : Copy → Copy) : (s.modCopy fid h g).rings = s.rings := rfl
@[simp] theorem State.modCopy_cqs (s : State) (fid h : Nat) (g : Copy → Copy) : (s.modCopy fid h g).cqs = s.cqs := rfl

/-! `writeLater`. -/

@[simp] theorem State.writeLater_pending (s : State) (k v : Nat) : (s.writeLater k v).pending = s.pending := rfl
@[simp] theorem State.writeLater_now (s : State) (k v : Nat) : (s.writeLater k v).now = s.now := rfl
@[simp] theorem State.writeLater_lStart (s : State) (k v : Nat) : (s.writeLater k v).lStart = s.lStart := rfl
@[simp] theorem State.writeLater_free (s : State) (k v : Nat) : (s.writeLater k v).free = s.free := rfl
@[simp] theorem State.writeLater_variant (s : State) (k v : Nat) : (s.writeLater k v).variant = s.variant := rfl
@[simp] theorem State.writeLater_out (s : State) (k v : Nat) : (s.writeLater k v).out = s.out := rfl
@[simp] theorem State.writeLater_tiles (s : State) (k v : Nat) : (s.writeLater k v).tiles = s.tiles := rfl
@[simp] theorem State.writeLater_ports (s : State) (k v : Nat) : (s.writeLater k v).ports = s.ports := rfl
@[simp] theorem State.writeLater_lanes (s : State) (k v : Nat) : (s.writeLater k v).lanes = s.lanes := rfl
@[simp] theorem State.writeLater_proof (s : State) (k v : Nat) : (s.writeLater k v).proof = s.proof := rfl
@[simp] theorem State.writeLater_wraps (s : State) (k v : Nat) : (s.writeLater k v).wraps = s.wraps := rfl
@[simp] theorem State.writeLater_queues (s : State) (k v : Nat) : (s.writeLater k v).queues = s.queues := rfl
@[simp] theorem State.writeLater_burins (s : State) (k v : Nat) : (s.writeLater k v).burins = s.burins := rfl
@[simp] theorem State.writeLater_frames (s : State) (k v : Nat) : (s.writeLater k v).frames = s.frames := rfl
@[simp] theorem State.writeLater_copies (s : State) (k v : Nat) : (s.writeLater k v).copies = s.copies := rfl
@[simp] theorem State.writeLater_fates (s : State) (k v : Nat) : (s.writeLater k v).fates = s.fates := rfl
@[simp] theorem State.writeLater_rings (s : State) (k v : Nat) : (s.writeLater k v).rings = s.rings := rfl
@[simp] theorem State.writeLater_cqs (s : State) (k v : Nat) : (s.writeLater k v).cqs = s.cqs := rfl

/-! `adopt`. -/

@[simp] theorem State.adopt_pending (s : State) (k : Nat) : (s.adopt k).pending = s.pending := rfl
@[simp] theorem State.adopt_now (s : State) (k : Nat) : (s.adopt k).now = s.now := rfl
@[simp] theorem State.adopt_lStart (s : State) (k : Nat) : (s.adopt k).lStart = s.lStart := rfl
@[simp] theorem State.adopt_free (s : State) (k : Nat) : (s.adopt k).free = s.free := rfl
@[simp] theorem State.adopt_variant (s : State) (k : Nat) : (s.adopt k).variant = s.variant := rfl
@[simp] theorem State.adopt_objs (s : State) (k : Nat) : (s.adopt k).objs = s.objs := rfl
@[simp] theorem State.adopt_out (s : State) (k : Nat) : (s.adopt k).out = s.out := rfl
@[simp] theorem State.adopt_tiles (s : State) (k : Nat) : (s.adopt k).tiles = s.tiles := rfl
@[simp] theorem State.adopt_ports (s : State) (k : Nat) : (s.adopt k).ports = s.ports := rfl
@[simp] theorem State.adopt_lanes (s : State) (k : Nat) : (s.adopt k).lanes = s.lanes := rfl
@[simp] theorem State.adopt_proof (s : State) (k : Nat) : (s.adopt k).proof = s.proof := rfl
@[simp] theorem State.adopt_wraps (s : State) (k : Nat) : (s.adopt k).wraps = s.wraps := rfl
@[simp] theorem State.adopt_queues (s : State) (k : Nat) : (s.adopt k).queues = s.queues := rfl
@[simp] theorem State.adopt_burins (s : State) (k : Nat) : (s.adopt k).burins = s.burins := rfl
@[simp] theorem State.adopt_frames (s : State) (k : Nat) : (s.adopt k).frames = s.frames := rfl
@[simp] theorem State.adopt_copies (s : State) (k : Nat) : (s.adopt k).copies = s.copies := rfl
@[simp] theorem State.adopt_fates (s : State) (k : Nat) : (s.adopt k).fates = s.fates := rfl
@[simp] theorem State.adopt_rings (s : State) (k : Nat) : (s.adopt k).rings = s.rings := rfl
@[simp] theorem State.adopt_cqs (s : State) (k : Nat) : (s.adopt k).cqs = s.cqs := rfl

/-! `life`. -/

@[simp] theorem State.life_pending (s : State) (i n : Nat) : (s.life i n).pending = s.pending := rfl
@[simp] theorem State.life_now (s : State) (i n : Nat) : (s.life i n).now = s.now := rfl
@[simp] theorem State.life_lStart (s : State) (i n : Nat) : (s.life i n).lStart = s.lStart := rfl
@[simp] theorem State.life_free (s : State) (i n : Nat) : (s.life i n).free = s.free := rfl
@[simp] theorem State.life_variant (s : State) (i n : Nat) : (s.life i n).variant = s.variant := rfl
@[simp] theorem State.life_objs (s : State) (i n : Nat) : (s.life i n).objs = s.objs := rfl
@[simp] theorem State.life_inForce (s : State) (i n : Nat) : (s.life i n).inForce = s.inForce := rfl
@[simp] theorem State.life_out (s : State) (i n : Nat) : (s.life i n).out = s.out := rfl
@[simp] theorem State.life_tiles (s : State) (i n : Nat) : (s.life i n).tiles = s.tiles := rfl
@[simp] theorem State.life_ports (s : State) (i n : Nat) : (s.life i n).ports = s.ports := rfl
@[simp] theorem State.life_lanes (s : State) (i n : Nat) : (s.life i n).lanes = s.lanes := rfl
@[simp] theorem State.life_wraps (s : State) (i n : Nat) : (s.life i n).wraps = s.wraps := rfl
@[simp] theorem State.life_queues (s : State) (i n : Nat) : (s.life i n).queues = s.queues := rfl
@[simp] theorem State.life_burins (s : State) (i n : Nat) : (s.life i n).burins = s.burins := rfl
@[simp] theorem State.life_frames (s : State) (i n : Nat) : (s.life i n).frames = s.frames := rfl
@[simp] theorem State.life_copies (s : State) (i n : Nat) : (s.life i n).copies = s.copies := rfl
@[simp] theorem State.life_fates (s : State) (i n : Nat) : (s.life i n).fates = s.fates := rfl
@[simp] theorem State.life_rings (s : State) (i n : Nat) : (s.life i n).rings = s.rings := rfl
@[simp] theorem State.life_cqs (s : State) (i n : Nat) : (s.life i n).cqs = s.cqs := rfl

/-! `modWin`. -/

@[simp] theorem State.modWin_pending (s : State) (t : Nat) (f : Window → Window) : (s.modWin t f).pending = s.pending := rfl
@[simp] theorem State.modWin_now (s : State) (t : Nat) (f : Window → Window) : (s.modWin t f).now = s.now := rfl
@[simp] theorem State.modWin_lStart (s : State) (t : Nat) (f : Window → Window) : (s.modWin t f).lStart = s.lStart := rfl
@[simp] theorem State.modWin_free (s : State) (t : Nat) (f : Window → Window) : (s.modWin t f).free = s.free := rfl
@[simp] theorem State.modWin_variant (s : State) (t : Nat) (f : Window → Window) : (s.modWin t f).variant = s.variant := rfl
@[simp] theorem State.modWin_objs (s : State) (t : Nat) (f : Window → Window) : (s.modWin t f).objs = s.objs := rfl
@[simp] theorem State.modWin_inForce (s : State) (t : Nat) (f : Window → Window) : (s.modWin t f).inForce = s.inForce := rfl
@[simp] theorem State.modWin_out (s : State) (t : Nat) (f : Window → Window) : (s.modWin t f).out = s.out := rfl
@[simp] theorem State.modWin_ports (s : State) (t : Nat) (f : Window → Window) : (s.modWin t f).ports = s.ports := rfl
@[simp] theorem State.modWin_lanes (s : State) (t : Nat) (f : Window → Window) : (s.modWin t f).lanes = s.lanes := rfl
@[simp] theorem State.modWin_proof (s : State) (t : Nat) (f : Window → Window) : (s.modWin t f).proof = s.proof := rfl
@[simp] theorem State.modWin_wraps (s : State) (t : Nat) (f : Window → Window) : (s.modWin t f).wraps = s.wraps := rfl
@[simp] theorem State.modWin_queues (s : State) (t : Nat) (f : Window → Window) : (s.modWin t f).queues = s.queues := rfl
@[simp] theorem State.modWin_burins (s : State) (t : Nat) (f : Window → Window) : (s.modWin t f).burins = s.burins := rfl
@[simp] theorem State.modWin_frames (s : State) (t : Nat) (f : Window → Window) : (s.modWin t f).frames = s.frames := rfl
@[simp] theorem State.modWin_copies (s : State) (t : Nat) (f : Window → Window) : (s.modWin t f).copies = s.copies := rfl
@[simp] theorem State.modWin_fates (s : State) (t : Nat) (f : Window → Window) : (s.modWin t f).fates = s.fates := rfl
@[simp] theorem State.modWin_rings (s : State) (t : Nat) (f : Window → Window) : (s.modWin t f).rings = s.rings := rfl
@[simp] theorem State.modWin_cqs (s : State) (t : Nat) (f : Window → Window) : (s.modWin t f).cqs = s.cqs := rfl

/-! `modAfi`. -/

@[simp] theorem State.modAfi_pending (s : State) (t ch : Nat) (f : Afi → Afi) : (s.modAfi t ch f).pending = s.pending := rfl
@[simp] theorem State.modAfi_now (s : State) (t ch : Nat) (f : Afi → Afi) : (s.modAfi t ch f).now = s.now := rfl
@[simp] theorem State.modAfi_lStart (s : State) (t ch : Nat) (f : Afi → Afi) : (s.modAfi t ch f).lStart = s.lStart := rfl
@[simp] theorem State.modAfi_free (s : State) (t ch : Nat) (f : Afi → Afi) : (s.modAfi t ch f).free = s.free := rfl
@[simp] theorem State.modAfi_variant (s : State) (t ch : Nat) (f : Afi → Afi) : (s.modAfi t ch f).variant = s.variant := rfl
@[simp] theorem State.modAfi_objs (s : State) (t ch : Nat) (f : Afi → Afi) : (s.modAfi t ch f).objs = s.objs := rfl
@[simp] theorem State.modAfi_inForce (s : State) (t ch : Nat) (f : Afi → Afi) : (s.modAfi t ch f).inForce = s.inForce := rfl
@[simp] theorem State.modAfi_out (s : State) (t ch : Nat) (f : Afi → Afi) : (s.modAfi t ch f).out = s.out := rfl
@[simp] theorem State.modAfi_ports (s : State) (t ch : Nat) (f : Afi → Afi) : (s.modAfi t ch f).ports = s.ports := rfl
@[simp] theorem State.modAfi_lanes (s : State) (t ch : Nat) (f : Afi → Afi) : (s.modAfi t ch f).lanes = s.lanes := rfl
@[simp] theorem State.modAfi_proof (s : State) (t ch : Nat) (f : Afi → Afi) : (s.modAfi t ch f).proof = s.proof := rfl
@[simp] theorem State.modAfi_wraps (s : State) (t ch : Nat) (f : Afi → Afi) : (s.modAfi t ch f).wraps = s.wraps := rfl
@[simp] theorem State.modAfi_queues (s : State) (t ch : Nat) (f : Afi → Afi) : (s.modAfi t ch f).queues = s.queues := rfl
@[simp] theorem State.modAfi_burins (s : State) (t ch : Nat) (f : Afi → Afi) : (s.modAfi t ch f).burins = s.burins := rfl
@[simp] theorem State.modAfi_frames (s : State) (t ch : Nat) (f : Afi → Afi) : (s.modAfi t ch f).frames = s.frames := rfl
@[simp] theorem State.modAfi_copies (s : State) (t ch : Nat) (f : Afi → Afi) : (s.modAfi t ch f).copies = s.copies := rfl
@[simp] theorem State.modAfi_fates (s : State) (t ch : Nat) (f : Afi → Afi) : (s.modAfi t ch f).fates = s.fates := rfl
@[simp] theorem State.modAfi_rings (s : State) (t ch : Nat) (f : Afi → Afi) : (s.modAfi t ch f).rings = s.rings := rfl
@[simp] theorem State.modAfi_cqs (s : State) (t ch : Nat) (f : Afi → Afi) : (s.modAfi t ch f).cqs = s.cqs := rfl

/-! What an update of one part leaves of the readings of the others. -/

@[simp] theorem State.setObj_read_tile (s : State) (k v : Nat) (j : Nat) : (s.setObj k v).tile j = s.tile j := rfl
@[simp] theorem State.setObj_read_port (s : State) (k v : Nat) (j : Nat) : (s.setObj k v).port j = s.port j := rfl
@[simp] theorem State.setObj_read_lane (s : State) (k v : Nat) (j : Nat) : (s.setObj k v).lane j = s.lane j := rfl
@[simp] theorem State.setObj_read_queue (s : State) (k v : Nat) (j i : Nat) : (s.setObj k v).queue j i = s.queue j i := rfl
@[simp] theorem State.setObj_read_burin (s : State) (k v : Nat) (j : Nat) : (s.setObj k v).burin j = s.burin j := rfl
@[simp] theorem State.setObj_read_ring (s : State) (k v : Nat) (j : Nat) (b : Bool) (i : Nat) : (s.setObj k v).ring j b i = s.ring j b i := rfl
@[simp] theorem State.setObj_read_cq (s : State) (k v : Nat) (j i : Nat) : (s.setObj k v).cq j i = s.cq j i := rfl
@[simp] theorem State.setObj_read_frame (s : State) (k v : Nat) (j : Nat) : (s.setObj k v).frame j = s.frame j := rfl
@[simp] theorem State.setObj_read_copy (s : State) (k v : Nat) (j i : Nat) : (s.setObj k v).copy j i = s.copy j i := rfl
@[simp] theorem State.setObj_read_replica (s : State) (k v : Nat) (j i : Nat) : (s.setObj k v).replica j i = s.replica j i := rfl
@[simp] theorem State.modTile_read_obj (s : State) (t : Nat) (f : Tile → Tile) (j : Nat) : (s.modTile t f).obj j = s.obj j := rfl
@[simp] theorem State.modTile_read_force (s : State) (t : Nat) (f : Tile → Tile) (j : Nat) : (s.modTile t f).force j = s.force j := rfl
@[simp] theorem State.modTile_read_port (s : State) (t : Nat) (f : Tile → Tile) (j : Nat) : (s.modTile t f).port j = s.port j := rfl
@[simp] theorem State.modTile_read_lane (s : State) (t : Nat) (f : Tile → Tile) (j : Nat) : (s.modTile t f).lane j = s.lane j := rfl
@[simp] theorem State.modTile_read_queue (s : State) (t : Nat) (f : Tile → Tile) (j i : Nat) : (s.modTile t f).queue j i = s.queue j i := rfl
@[simp] theorem State.modTile_read_burin (s : State) (t : Nat) (f : Tile → Tile) (j : Nat) : (s.modTile t f).burin j = s.burin j := rfl
@[simp] theorem State.modTile_read_ring (s : State) (t : Nat) (f : Tile → Tile) (j : Nat) (b : Bool) (i : Nat) : (s.modTile t f).ring j b i = s.ring j b i := rfl
@[simp] theorem State.modTile_read_cq (s : State) (t : Nat) (f : Tile → Tile) (j i : Nat) : (s.modTile t f).cq j i = s.cq j i := rfl
@[simp] theorem State.modTile_read_frame (s : State) (t : Nat) (f : Tile → Tile) (j : Nat) : (s.modTile t f).frame j = s.frame j := rfl
@[simp] theorem State.modTile_read_copy (s : State) (t : Nat) (f : Tile → Tile) (j i : Nat) : (s.modTile t f).copy j i = s.copy j i := rfl
@[simp] theorem State.modTile_read_replica (s : State) (t : Nat) (f : Tile → Tile) (j i : Nat) : (s.modTile t f).replica j i = s.replica j i := rfl
@[simp] theorem State.modPort_read_obj (s : State) (p : Nat) (f : Port → Port) (j : Nat) : (s.modPort p f).obj j = s.obj j := rfl
@[simp] theorem State.modPort_read_force (s : State) (p : Nat) (f : Port → Port) (j : Nat) : (s.modPort p f).force j = s.force j := rfl
@[simp] theorem State.modPort_read_tile (s : State) (p : Nat) (f : Port → Port) (j : Nat) : (s.modPort p f).tile j = s.tile j := rfl
@[simp] theorem State.modPort_read_lane (s : State) (p : Nat) (f : Port → Port) (j : Nat) : (s.modPort p f).lane j = s.lane j := rfl
@[simp] theorem State.modPort_read_queue (s : State) (p : Nat) (f : Port → Port) (j i : Nat) : (s.modPort p f).queue j i = s.queue j i := rfl
@[simp] theorem State.modPort_read_burin (s : State) (p : Nat) (f : Port → Port) (j : Nat) : (s.modPort p f).burin j = s.burin j := rfl
@[simp] theorem State.modPort_read_ring (s : State) (p : Nat) (f : Port → Port) (j : Nat) (b : Bool) (i : Nat) : (s.modPort p f).ring j b i = s.ring j b i := rfl
@[simp] theorem State.modPort_read_cq (s : State) (p : Nat) (f : Port → Port) (j i : Nat) : (s.modPort p f).cq j i = s.cq j i := rfl
@[simp] theorem State.modPort_read_frame (s : State) (p : Nat) (f : Port → Port) (j : Nat) : (s.modPort p f).frame j = s.frame j := rfl
@[simp] theorem State.modPort_read_copy (s : State) (p : Nat) (f : Port → Port) (j i : Nat) : (s.modPort p f).copy j i = s.copy j i := rfl
@[simp] theorem State.modPort_read_replica (s : State) (p : Nat) (f : Port → Port) (j i : Nat) : (s.modPort p f).replica j i = s.replica j i := rfl
@[simp] theorem State.modLane_read_obj (s : State) (l : Nat) (f : Lane → Lane) (j : Nat) : (s.modLane l f).obj j = s.obj j := rfl
@[simp] theorem State.modLane_read_force (s : State) (l : Nat) (f : Lane → Lane) (j : Nat) : (s.modLane l f).force j = s.force j := rfl
@[simp] theorem State.modLane_read_tile (s : State) (l : Nat) (f : Lane → Lane) (j : Nat) : (s.modLane l f).tile j = s.tile j := rfl
@[simp] theorem State.modLane_read_port (s : State) (l : Nat) (f : Lane → Lane) (j : Nat) : (s.modLane l f).port j = s.port j := rfl
@[simp] theorem State.modReplica_read_obj (s : State) (rep d : Nat) (f : Replica → Replica) (j : Nat) : (s.modReplica rep d f).obj j = s.obj j := rfl
@[simp] theorem State.modReplica_read_force (s : State) (rep d : Nat) (f : Replica → Replica) (j : Nat) : (s.modReplica rep d f).force j = s.force j := rfl
@[simp] theorem State.modReplica_read_tile (s : State) (rep d : Nat) (f : Replica → Replica) (j : Nat) : (s.modReplica rep d f).tile j = s.tile j := rfl
@[simp] theorem State.modReplica_read_port (s : State) (rep d : Nat) (f : Replica → Replica) (j : Nat) : (s.modReplica rep d f).port j = s.port j := rfl
@[simp] theorem State.modReplica_read_lane (s : State) (rep d : Nat) (f : Replica → Replica) (j : Nat) : (s.modReplica rep d f).lane j = s.lane j := rfl
@[simp] theorem State.emit_read_obj (s : State) (o : Out) (j : Nat) : (s.emit o).obj j = s.obj j := rfl
@[simp] theorem State.emit_read_force (s : State) (o : Out) (j : Nat) : (s.emit o).force j = s.force j := rfl
@[simp] theorem State.emit_read_tile (s : State) (o : Out) (j : Nat) : (s.emit o).tile j = s.tile j := rfl
@[simp] theorem State.emit_read_port (s : State) (o : Out) (j : Nat) : (s.emit o).port j = s.port j := rfl
@[simp] theorem State.emit_read_lane (s : State) (o : Out) (j : Nat) : (s.emit o).lane j = s.lane j := rfl
@[simp] theorem State.emit_read_queue (s : State) (o : Out) (j i : Nat) : (s.emit o).queue j i = s.queue j i := rfl
@[simp] theorem State.emit_read_burin (s : State) (o : Out) (j : Nat) : (s.emit o).burin j = s.burin j := rfl
@[simp] theorem State.emit_read_ring (s : State) (o : Out) (j : Nat) (b : Bool) (i : Nat) : (s.emit o).ring j b i = s.ring j b i := rfl
@[simp] theorem State.emit_read_cq (s : State) (o : Out) (j i : Nat) : (s.emit o).cq j i = s.cq j i := rfl
@[simp] theorem State.emit_read_frame (s : State) (o : Out) (j : Nat) : (s.emit o).frame j = s.frame j := rfl
@[simp] theorem State.emit_read_copy (s : State) (o : Out) (j i : Nat) : (s.emit o).copy j i = s.copy j i := rfl
@[simp] theorem State.emit_read_replica (s : State) (o : Out) (j i : Nat) : (s.emit o).replica j i = s.replica j i := rfl
@[simp] theorem State.modQueue_read_obj (s : State) (p q : Nat) (f : Queue → Queue) (j : Nat) : (s.modQueue p q f).obj j = s.obj j := rfl
@[simp] theorem State.modQueue_read_force (s : State) (p q : Nat) (f : Queue → Queue) (j : Nat) : (s.modQueue p q f).force j = s.force j := rfl
@[simp] theorem State.modQueue_read_tile (s : State) (p q : Nat) (f : Queue → Queue) (j : Nat) : (s.modQueue p q f).tile j = s.tile j := rfl
@[simp] theorem State.modQueue_read_port (s : State) (p q : Nat) (f : Queue → Queue) (j : Nat) : (s.modQueue p q f).port j = s.port j := rfl
@[simp] theorem State.modQueue_read_lane (s : State) (p q : Nat) (f : Queue → Queue) (j : Nat) : (s.modQueue p q f).lane j = s.lane j := rfl
@[simp] theorem State.modBurin_read_obj (s : State) (p : Nat) (f : Burin → Burin) (j : Nat) : (s.modBurin p f).obj j = s.obj j := rfl
@[simp] theorem State.modBurin_read_force (s : State) (p : Nat) (f : Burin → Burin) (j : Nat) : (s.modBurin p f).force j = s.force j := rfl
@[simp] theorem State.modBurin_read_tile (s : State) (p : Nat) (f : Burin → Burin) (j : Nat) : (s.modBurin p f).tile j = s.tile j := rfl
@[simp] theorem State.modBurin_read_port (s : State) (p : Nat) (f : Burin → Burin) (j : Nat) : (s.modBurin p f).port j = s.port j := rfl
@[simp] theorem State.modBurin_read_lane (s : State) (p : Nat) (f : Burin → Burin) (j : Nat) : (s.modBurin p f).lane j = s.lane j := rfl
@[simp] theorem State.modRing_read_obj (s : State) (t : Nat) (rx : Bool) (n : Nat) (f : Ring → Ring) (j : Nat) : (s.modRing t rx n f).obj j = s.obj j := rfl
@[simp] theorem State.modRing_read_force (s : State) (t : Nat) (rx : Bool) (n : Nat) (f : Ring → Ring) (j : Nat) : (s.modRing t rx n f).force j = s.force j := rfl
@[simp] theorem State.modRing_read_tile (s : State) (t : Nat) (rx : Bool) (n : Nat) (f : Ring → Ring) (j : Nat) : (s.modRing t rx n f).tile j = s.tile j := rfl
@[simp] theorem State.modRing_read_port (s : State) (t : Nat) (rx : Bool) (n : Nat) (f : Ring → Ring) (j : Nat) : (s.modRing t rx n f).port j = s.port j := rfl
@[simp] theorem State.modRing_read_lane (s : State) (t : Nat) (rx : Bool) (n : Nat) (f : Ring → Ring) (j : Nat) : (s.modRing t rx n f).lane j = s.lane j := rfl
@[simp] theorem State.modCq_read_obj (s : State) (t q : Nat) (f : Cq → Cq) (j : Nat) : (s.modCq t q f).obj j = s.obj j := rfl
@[simp] theorem State.modCq_read_force (s : State) (t q : Nat) (f : Cq → Cq) (j : Nat) : (s.modCq t q f).force j = s.force j := rfl
@[simp] theorem State.modCq_read_tile (s : State) (t q : Nat) (f : Cq → Cq) (j : Nat) : (s.modCq t q f).tile j = s.tile j := rfl
@[simp] theorem State.modCq_read_port (s : State) (t q : Nat) (f : Cq → Cq) (j : Nat) : (s.modCq t q f).port j = s.port j := rfl
@[simp] theorem State.modCq_read_lane (s : State) (t q : Nat) (f : Cq → Cq) (j : Nat) : (s.modCq t q f).lane j = s.lane j := rfl
@[simp] theorem State.modFrame_read_obj (s : State) (fid : Nat) (g : Frame → Frame) (j : Nat) : (s.modFrame fid g).obj j = s.obj j := rfl
@[simp] theorem State.modFrame_read_force (s : State) (fid : Nat) (g : Frame → Frame) (j : Nat) : (s.modFrame fid g).force j = s.force j := rfl
@[simp] theorem State.modFrame_read_tile (s : State) (fid : Nat) (g : Frame → Frame) (j : Nat) : (s.modFrame fid g).tile j = s.tile j := rfl
@[simp] theorem State.modFrame_read_port (s : State) (fid : Nat) (g : Frame → Frame) (j : Nat) : (s.modFrame fid g).port j = s.port j := rfl
@[simp] theorem State.modFrame_read_lane (s : State) (fid : Nat) (g : Frame → Frame) (j : Nat) : (s.modFrame fid g).lane j = s.lane j := rfl
@[simp] theorem State.modCopy_read_obj (s : State) (fid h : Nat) (g : Copy → Copy) (j : Nat) : (s.modCopy fid h g).obj j = s.obj j := rfl
@[simp] theorem State.modCopy_read_force (s : State) (fid h : Nat) (g : Copy → Copy) (j : Nat) : (s.modCopy fid h g).force j = s.force j := rfl
@[simp] theorem State.modCopy_read_tile (s : State) (fid h : Nat) (g : Copy → Copy) (j : Nat) : (s.modCopy fid h g).tile j = s.tile j := rfl
@[simp] theorem State.modCopy_read_port (s : State) (fid h : Nat) (g : Copy → Copy) (j : Nat) : (s.modCopy fid h g).port j = s.port j := rfl
@[simp] theorem State.modCopy_read_lane (s : State) (fid h : Nat) (g : Copy → Copy) (j : Nat) : (s.modCopy fid h g).lane j = s.lane j := rfl
@[simp] theorem State.writeLater_read_tile (s : State) (k v : Nat) (j : Nat) : (s.writeLater k v).tile j = s.tile j := rfl
@[simp] theorem State.writeLater_read_port (s : State) (k v : Nat) (j : Nat) : (s.writeLater k v).port j = s.port j := rfl
@[simp] theorem State.writeLater_read_lane (s : State) (k v : Nat) (j : Nat) : (s.writeLater k v).lane j = s.lane j := rfl
@[simp] theorem State.adopt_read_obj (s : State) (k : Nat) (j : Nat) : (s.adopt k).obj j = s.obj j := rfl
@[simp] theorem State.adopt_read_tile (s : State) (k : Nat) (j : Nat) : (s.adopt k).tile j = s.tile j := rfl
@[simp] theorem State.adopt_read_port (s : State) (k : Nat) (j : Nat) : (s.adopt k).port j = s.port j := rfl
@[simp] theorem State.adopt_read_lane (s : State) (k : Nat) (j : Nat) : (s.adopt k).lane j = s.lane j := rfl
@[simp] theorem State.life_read_obj (s : State) (i n : Nat) (j : Nat) : (s.life i n).obj j = s.obj j := rfl
@[simp] theorem State.life_read_force (s : State) (i n : Nat) (j : Nat) : (s.life i n).force j = s.force j := rfl
@[simp] theorem State.life_read_tile (s : State) (i n : Nat) (j : Nat) : (s.life i n).tile j = s.tile j := rfl
@[simp] theorem State.life_read_port (s : State) (i n : Nat) (j : Nat) : (s.life i n).port j = s.port j := rfl
@[simp] theorem State.life_read_lane (s : State) (i n : Nat) (j : Nat) : (s.life i n).lane j = s.lane j := rfl
@[simp] theorem State.modWin_read_obj (s : State) (t : Nat) (f : Window → Window) (j : Nat) : (s.modWin t f).obj j = s.obj j := rfl
@[simp] theorem State.modWin_read_force (s : State) (t : Nat) (f : Window → Window) (j : Nat) : (s.modWin t f).force j = s.force j := rfl
@[simp] theorem State.modWin_read_port (s : State) (t : Nat) (f : Window → Window) (j : Nat) : (s.modWin t f).port j = s.port j := rfl
@[simp] theorem State.modWin_read_lane (s : State) (t : Nat) (f : Window → Window) (j : Nat) : (s.modWin t f).lane j = s.lane j := rfl
@[simp] theorem State.modAfi_read_obj (s : State) (t ch : Nat) (f : Afi → Afi) (j : Nat) : (s.modAfi t ch f).obj j = s.obj j := rfl
@[simp] theorem State.modAfi_read_force (s : State) (t ch : Nat) (f : Afi → Afi) (j : Nat) : (s.modAfi t ch f).force j = s.force j := rfl
@[simp] theorem State.modAfi_read_port (s : State) (t ch : Nat) (f : Afi → Afi) (j : Nat) : (s.modAfi t ch f).port j = s.port j := rfl
@[simp] theorem State.modAfi_read_lane (s : State) (t ch : Nat) (f : Afi → Afi) (j : Nat) : (s.modAfi t ch f).lane j = s.lane j := rfl

/-! Readings after an update of the same part. -/

theorem State.obj_setObj (s : State) (k v j : Nat) : (s.setObj k v).obj j = if j = k then v else s.obj j := by
  unfold State.obj State.setObj
  by_cases h : j = k
  · subst h; simp
  · simp only [h, if_false]; exact tget_tput_ne _ _ _ _ h

@[simp] theorem State.obj_setObj_self (s : State) (k v : Nat) : (s.setObj k v).obj k = v := by simp [State.obj_setObj]

theorem State.obj_setObj_ne (s : State) (v : Nat) {k j : Nat} (h : j ≠ k) : (s.setObj k v).obj j = s.obj j := by simp [State.obj_setObj, h]

theorem State.obj_writeLater (s : State) (k v j : Nat) : (s.writeLater k v).obj j = if j = k then v else s.obj j :=
  State.obj_setObj { s with inForce := tput none s.inForce k (some (s.force k)) } k v j

theorem State.tile_modTile (s : State) (t j : Nat) (f : Tile → Tile) : (s.modTile t f).tile j = if j = t then f (s.tile t) else s.tile j :=
  tget_tmod _ _ _ _ _

@[simp] theorem State.tile_modTile_self (s : State) (t : Nat) (f : Tile → Tile) : (s.modTile t f).tile t = f (s.tile t) := by simp [State.tile_modTile]

@[simp] theorem State.tile_modWin_self (s : State) (t : Nat) (f : Window → Window) : (s.modWin t f).tile t = { s.tile t with win := f (s.tile t).win } := by
  simp [State.modWin]

theorem State.port_modPort (s : State) (p j : Nat) (f : Port → Port) : (s.modPort p f).port j = if j = p then f (s.port p) else s.port j :=
  tget_tmod _ _ _ _ _

@[simp] theorem State.port_modPort_self (s : State) (p : Nat) (f : Port → Port) : (s.modPort p f).port p = f (s.port p) := by simp [State.port_modPort]

theorem State.lane_modLane (s : State) (l j : Nat) (f : Lane → Lane) : (s.modLane l f).lane j = if j = l then f (s.lane l) else s.lane j :=
  tget_tmod _ _ _ _ _

@[simp] theorem State.lane_modLane_self (s : State) (l : Nat) (f : Lane → Lane) : (s.modLane l f).lane l = f (s.lane l) := by simp [State.lane_modLane]

theorem State.replica_modReplica (s : State) (rep d j i : Nat) (f : Replica → Replica) :
    (s.modReplica rep d f).replica j i = if 4 * j + i = 4 * rep + d then f (s.replica rep d) else s.replica j i := tget_tmod _ _ _ _ _

theorem State.queue_modQueue (s : State) (p q j i : Nat) (f : Queue → Queue) :
    (s.modQueue p q f).queue j i = if 16 * j + i = 16 * p + q then f (s.queue p q) else s.queue j i := tget_tmod _ _ _ _ _

theorem State.burin_modBurin (s : State) (p j : Nat) (f : Burin → Burin) : (s.modBurin p f).burin j = if j = p then f (s.burin p) else s.burin j :=
  tget_tmod _ _ _ _ _

theorem State.ring_modRing (s : State) (t : Nat) (rx : Bool) (n j : Nat) (b : Bool) (i : Nat) (f : Ring → Ring) :
    (s.modRing t rx n f).ring j b i = if ringKey j b i = ringKey t rx n then f (s.ring t rx n) else s.ring j b i := tget_tmod _ _ _ _ _

theorem State.cq_modCq (s : State) (t q j i : Nat) (f : Cq → Cq) :
    (s.modCq t q f).cq j i = if 1024 * j + i % 1024 = 1024 * t + q % 1024 then f (s.cq t q) else s.cq j i := tget_tmod _ _ _ _ _

theorem State.frame_modFrame (s : State) (fid j : Nat) (g : Frame → Frame) :
    (s.modFrame fid g).frame j = if j = fid then (s.frame fid).map g else s.frame j := tget_tmod _ _ _ _ _

theorem State.copy_modCopy (s : State) (fid h j i : Nat) (g : Copy → Copy) :
    (s.modCopy fid h g).copy j i = if copyKey j i = copyKey fid h then (s.copy fid h).map g else s.copy j i := tget_tmod _ _ _ _ _

/-! Marks for isolation. -/

theorem State.unmarked_modTile (s : State) (t : Nat) (f : Tile → Tile) (hf : ∀ x, (f x).isolateDue = x.isolateDue) (h : s.unmarked = true) :
    (s.modTile t f).unmarked = true := by
  refine all_tmod (d := ({} : Tile)) (P := fun x => !x.isolateDue) rfl ?_ h
  intro x hx; rw [hf]; exact hx

theorem State.unmarked_of_tiles {s u : State} (h : u.tiles = s.tiles) : u.unmarked = s.unmarked := by unfold State.unmarked; rw [h]

theorem State.unmarked_tile {s : State} (h : s.unmarked = true) (t : Nat) : (s.tile t).isolateDue = false := by
  have := all_tget (d := ({} : Tile)) (P := fun x => !x.isolateDue) rfl h t
  simpa [State.tile] using this

end Sys2Proof.Machine
end

