-- ==== Sys2Proof/Laws/Act.lean ====
section
/-! SUPPORT. What the frame of a command does, said once: when nothing is left over the frame adds nothing to the effect; and whatever the effect, the queue, the
variant and the instant are as the frame says, and nothing is left over after it. -/

namespace Sys2Proof.Machine

/-! The end of a command. -/

theorem State.isolateMarked_of_not (s : State) (t : Nat) (h : (s.tile t).isolateDue = false) : s.isolateMarked t = s := by
  simp [State.isolateMarked, h]

theorem State.each_id (s : State) (l : List Nat) (f : Nat → State → State) (h : ∀ i ∈ l, f i s = s) : s.each l f = s := by
  unfold State.each
  induction l with
  | nil => rfl
  | cons i l ih =>
    rw [List.foldl_cons, h i List.mem_cons_self]
    exact ih (fun j hj => h j (List.mem_cons_of_mem _ hj))

theorem State.writeFates_nil (s : State) (h : s.fates = []) : s.writeFates = s := by
  unfold State.writeFates
  rw [h, List.foldl_nil, ← h]

theorem State.unmark_of (s : State) (h : s.unmarked = true) : s.unmark = s := by simp [State.unmark, h]

/-- Where nothing is left over, the end of a command changes nothing. -/
theorem State.settle_of_quiet (s : State) (h : s.quiet) : s.settle = s := by
  unfold State.settle
  rw [State.each_id s _ _ (fun t _ => State.isolateMarked_of_not s t (State.unmarked_tile h.1 t)), State.writeFates_nil s h.2, State.unmark_of s h.1]

theorem State.writeRecord_fates (s : State) (t n status : Nat) (d : Bytes) : (s.writeRecord t n status d).fates = s.fates := by
  unfold State.writeRecord
  simp only [State.cqMessage]
  repeat' split
  all_goals rfl

theorem foldl_keeps {α β γ : Type} (p : α → γ) (f : α → β → α) (h : ∀ a b, p (f a b) = p a) (l : List β) (a : α) : p (l.foldl f a) = p a := by
  induction l generalizing a with
  | nil => rfl
  | cons b l ih => rw [List.foldl_cons, ih, h]

theorem State.writeFates_fates (s : State) : s.writeFates.fates = [] := by
  unfold State.writeFates
  rw [foldl_keeps (fun a : State => a.fates) _ (fun a b => State.writeRecord_fates _ _ _ _ _)]

theorem State.unmark_unmarked (s : State) : s.unmark.unmarked = true := by
  unfold State.unmark
  split
  · assumption
  · simp only [State.unmarked, tmap, List.all_eq_true, List.mem_filter, List.mem_map]
    rintro e ⟨⟨x, -, rfl⟩, -⟩
    rfl

theorem State.unmark_fates (s : State) : s.unmark.fates = s.fates := by
  unfold State.unmark
  split <;> rfl

/-- After the end of a command nothing is left over. -/
theorem State.settle_quiet (s : State) : s.settle.quiet := by
  refine ⟨State.unmark_unmarked _, ?_⟩
  unfold State.settle
  rw [State.unmark_fates, State.writeFates_fates]

/-! The frame. -/

@[simp] theorem State.framed_pending (s : State) (f : State → State) : (s.framed f).pending = s.pending := rfl
@[simp] theorem State.framed_now (s : State) (f : State → State) : (s.framed f).now = s.now := rfl
@[simp] theorem State.framed_lStart (s : State) (f : State → State) : (s.framed f).lStart = s.lStart := rfl
@[simp] theorem State.framed_variant (s : State) (f : State → State) : (s.framed f).variant = s.variant := rfl
@[simp] theorem State.framedReset_pending (s : State) (f : State → State) : (s.framedReset f).pending = s.pending := rfl
@[simp] theorem State.framedReset_now (s : State) (f : State → State) : (s.framedReset f).now = s.now := rfl
@[simp] theorem State.framedReset_variant (s : State) (f : State → State) : (s.framedReset f).variant = s.variant := rfl
@[simp] theorem State.framedReset_lStart (s : State) (f : State → State) : (s.framedReset f).lStart = min (f s).lStart s.now := rfl
@[simp] theorem State.at_pending (s : State) (now : Nat) : (s.at now).pending = s.pending := rfl
@[simp] theorem State.at_now (s : State) (now : Nat) : (s.at now).now = max s.now now := rfl
@[simp] theorem State.at_lStart (s : State) (now : Nat) : (s.at now).lStart = s.lStart := rfl
@[simp] theorem State.at_variant (s : State) (now : Nat) : (s.at now).variant = s.variant := rfl
@[simp] theorem State.at_fates (s : State) (now : Nat) : (s.at now).fates = s.fates := rfl
@[simp] theorem State.at_unmarked (s : State) (now : Nat) : (s.at now).unmarked = s.unmarked := rfl
@[simp] theorem State.at_tile (s : State) (now t : Nat) : (s.at now).tile t = s.tile t := rfl
@[simp] theorem State.at_port (s : State) (now p : Nat) : (s.at now).port p = s.port p := rfl
@[simp] theorem State.at_lane (s : State) (now l : Nat) : (s.at now).lane l = s.lane l := rfl
@[simp] theorem State.at_obj (s : State) (now k : Nat) : (s.at now).obj k = s.obj k := rfl
@[simp] theorem State.at_force (s : State) (now k : Nat) : (s.at now).force k = s.force k := rfl
theorem State.at_quiet {s : State} (now : Nat) (h : s.quiet) : (s.at now).quiet := h

theorem State.framed_quiet (s : State) (f : State → State) : (s.framed f).quiet := State.settle_quiet (f s)
theorem State.framedReset_quiet (s : State) (f : State → State) : (s.framedReset f).quiet := State.settle_quiet (f s)

/-- An effect that leaves nothing over and keeps what the frame keeps is all that the frame does. -/
theorem State.framed_eq {s : State} {f : State → State} (hq : (f s).quiet) (hp : (f s).pending = s.pending) (hn : (f s).now = s.now)
    (hl : (f s).lStart = s.lStart) (hv : (f s).variant = s.variant) : s.framed f = f s := by
  unfold State.framed
  rw [State.settle_of_quiet _ hq, ← hp, ← hn, ← hl, ← hv]

/-- A command's effect on any part that the end of a command does not touch, for an effect that leaves nothing over. -/
theorem State.framed_part {γ : Type} (p : State → γ) {s : State} {f : State → State} (hq : (f s).quiet)
    (hp : ∀ (u : State) (a : List Instr) (b c : Nat) (d : Variant), p { u with pending := a, now := b, lStart := c, variant := d } = p u) :
    p (s.framed f) = p (f s) := by
  unfold State.framed
  rw [hp, State.settle_of_quiet _ hq]

theorem act_next (now : Nat) (f : State → State) (s : State) : act now f s = .next ((s.at now).framed f) := rfl

/-- A command whose effect leaves nothing over. -/
theorem act_eq {now : Nat} {f : State → State} {s u : State} (h : f (s.at now) = u) (hq : u.quiet) (hp : u.pending = s.pending) (hn : u.now = max s.now now)
    (hl : u.lStart = s.lStart) (hv : u.variant = s.variant) : act now f s = .next u := by
  subst h
  rw [act_next, State.framed_eq hq hp hn hl hv]

theorem actIf_true {ok : Bool} (h : ok = true) (now : Nat) (f : State → State) (s : State) : actIf ok now f s = act now f s := by simp [actIf, h]

theorem actIf_false {ok : Bool} (h : ok = false) (now : Nat) (f : State → State) (s : State) : actIf ok now f s = act now id s := by simp [actIf, h]

theorem onTile_fits {t : Nat} {s : State} (h : t < s.variant.tiles) (now : Nat) (f : State → State) : onTile t now f s = act now f s := by
  simp [onTile, actIf, h]

theorem onPort_fits {p : Nat} {s : State} (h : p < s.variant.ports) (now : Nat) (f : State → State) : onPort p now f s = act now f s := by
  simp [onPort, actIf, h]

theorem onLink_fits {t k : Nat} {s : State} (h : t < s.variant.tiles) (hk : k < s.variant.colLinks) (now : Nat) (f : State → State) :
    onLink t k now f s = act now f s := by
  simp [onLink, actIf, h, hk]

end Sys2Proof.Machine
end

