-- ==== Sys2Proof/Laws/Keeps.lean ====
section
/-! SUPPORT. What the operations of an effect keep: the queue, the instant, the start of domain L, the variant and the fates are as they were, and no tile becomes marked for
isolation. An effect built from such operations is all that its command does (`State.act_keeps`). -/

namespace Sys2Proof.Machine

/-- `u` comes from `s` by operations that leave alone what a command's frame keeps, and leave nothing over. -/
structure Keeps (s u : State) : Prop where
  pending : u.pending = s.pending
  now : u.now = s.now
  lStart : u.lStart = s.lStart
  variant : u.variant = s.variant
  fates : u.fates = s.fates
  unmarked : s.unmarked = true → u.unmarked = true

namespace Keeps

variable {s u v : State}

theorem refl (s : State) : Keeps s s := ⟨rfl, rfl, rfl, rfl, rfl, id⟩

theorem trans (h : Keeps s u) (k : Keeps u v) : Keeps s v :=
  ⟨k.1.trans h.1, k.2.trans h.2, k.3.trans h.3, k.4.trans h.4, k.5.trans h.5, fun x => k.6 (h.6 x)⟩

/-- An update of parts that the frame does not name. -/
theorem of_eq (h1 : u.pending = s.pending) (h2 : u.now = s.now) (h3 : u.lStart = s.lStart) (h4 : u.variant = s.variant) (h5 : u.fates = s.fates)
    (h6 : u.tiles = s.tiles) : Keeps s u := ⟨h1, h2, h3, h4, h5, fun h => (State.unmarked_of_tiles h6).trans h⟩

theorem quiet (h : Keeps s u) (hq : s.quiet) : u.quiet := ⟨h.unmarked hq.1, h.fates.trans hq.2⟩

theorem ite {p : Prop} [Decidable p] (h : Keeps s u) (k : Keeps s v) : Keeps s (if p then u else v) := by split <;> assumption

theorem setObj (h : Keeps s u) (k v : Nat) : Keeps s (u.setObj k v) := h.trans (of_eq rfl rfl rfl rfl rfl rfl)
theorem writeLater (h : Keeps s u) (k v : Nat) : Keeps s (u.writeLater k v) := h.trans (of_eq rfl rfl rfl rfl rfl rfl)
theorem adopt (h : Keeps s u) (k : Nat) : Keeps s (u.adopt k) := h.trans (of_eq rfl rfl rfl rfl rfl rfl)
theorem adoptIndex (h : Keeps s u) (k : Nat) : Keeps s (u.adoptIndex k) := h.trans (of_eq rfl rfl rfl rfl rfl rfl)
theorem setObjS (h : Keeps s u) (w k : Nat) (v : Int) : Keeps s (u.setObjS w k v) := h.trans (of_eq rfl rfl rfl rfl rfl rfl)
theorem setObjBit (h : Keeps s u) (k i : Nat) (b : Bool) : Keeps s (u.setObjBit k i b) := h.trans (of_eq rfl rfl rfl rfl rfl rfl)
theorem setPd (h : Keeps s u) (t d : Nat) (b : Bool) : Keeps s (u.setPd t d b) := h.trans (of_eq rfl rfl rfl rfl rfl rfl)
theorem add (h : Keeps s u) (k n : Nat) : Keeps s (u.add k n) := h.trans (of_eq rfl rfl rfl rfl rfl rfl)
theorem bump (h : Keeps s u) (k : Nat) : Keeps s (u.bump k) := h.trans (of_eq rfl rfl rfl rfl rfl rfl)
theorem bump32 (h : Keeps s u) (k : Nat) : Keeps s (u.bump32 k) := h.trans (of_eq rfl rfl rfl rfl rfl rfl)
theorem life (h : Keeps s u) (i n : Nat) : Keeps s (u.life i n) := h.trans (of_eq rfl rfl rfl rfl rfl rfl)
theorem tileLife (h : Keeps s u) (t i : Nat) : Keeps s (u.tileLife t i) := h.trans (of_eq rfl rfl rfl rfl rfl rfl)
theorem bin (h : Keeps s u) (i : Nat) : Keeps s (u.bin i) := h.trans (of_eq rfl rfl rfl rfl rfl rfl)
theorem emit (h : Keeps s u) (o : Out) : Keeps s (u.emit o) := h.trans (of_eq rfl rfl rfl rfl rfl rfl)
theorem modPort (h : Keeps s u) (p : Nat) (f : Port → Port) : Keeps s (u.modPort p f) := h.trans (of_eq rfl rfl rfl rfl rfl rfl)
theorem modLane (h : Keeps s u) (l : Nat) (f : Lane → Lane) : Keeps s (u.modLane l f) := h.trans (of_eq rfl rfl rfl rfl rfl rfl)
theorem modReplica (h : Keeps s u) (r d : Nat) (f : Replica → Replica) : Keeps s (u.modReplica r d f) := h.trans (of_eq rfl rfl rfl rfl rfl rfl)
theorem modQueue (h : Keeps s u) (p q : Nat) (f : Queue → Queue) : Keeps s (u.modQueue p q f) := h.trans (of_eq rfl rfl rfl rfl rfl rfl)
theorem modBurin (h : Keeps s u) (p : Nat) (f : Burin → Burin) : Keeps s (u.modBurin p f) := h.trans (of_eq rfl rfl rfl rfl rfl rfl)
theorem modRing (h : Keeps s u) (t : Nat) (rx : Bool) (n : Nat) (f : Ring → Ring) : Keeps s (u.modRing t rx n f) := h.trans (of_eq rfl rfl rfl rfl rfl rfl)
theorem modCq (h : Keeps s u) (t q : Nat) (f : Cq → Cq) : Keeps s (u.modCq t q f) := h.trans (of_eq rfl rfl rfl rfl rfl rfl)
theorem modFrame (h : Keeps s u) (fid : Nat) (g : Frame → Frame) : Keeps s (u.modFrame fid g) := h.trans (of_eq rfl rfl rfl rfl rfl rfl)
theorem setFrame (h : Keeps s u) (fid : Nat) (g : Option Frame) : Keeps s (u.setFrame fid g) := h.trans (of_eq rfl rfl rfl rfl rfl rfl)
theorem modCopy (h : Keeps s u) (fid i : Nat) (g : Copy → Copy) : Keeps s (u.modCopy fid i g) := h.trans (of_eq rfl rfl rfl rfl rfl rfl)
theorem setCopy (h : Keeps s u) (fid i : Nat) (g : Option Copy) : Keeps s (u.setCopy fid i g) := h.trans (of_eq rfl rfl rfl rfl rfl rfl)
theorem modQstat (h : Keeps s u) (k : Nat) (f : QStat → QStat) : Keeps s (u.modQstat k f) := h.trans (of_eq rfl rfl rfl rfl rfl rfl)
theorem modPolicer (h : Keeps s u) (t n : Nat) (f : Policer → Policer) : Keeps s (u.modPolicer t n f) := h.trans (of_eq rfl rfl rfl rfl rfl rfl)
theorem modPath (h : Keeps s u) (p : Nat) (f : PathDet → PathDet) : Keeps s (u.modPath p f) := h.trans (of_eq rfl rfl rfl rfl rfl rfl)
theorem modWins (h : Keeps s u) (p : Nat) (f : CntWins → CntWins) : Keeps s (u.modWins p f) := h.trans (of_eq rfl rfl rfl rfl rfl rfl)
theorem restorePair (h : Keeps s u) (n : PairName) : Keeps s (u.restorePair n) := h.trans (of_eq rfl rfl rfl rfl rfl rfl)
theorem respond (h : Keeps s u) (r : Requester) (op code : Nat) (d : Bytes) : Keeps s (u.respond r op code d) := h.trans (of_eq rfl rfl rfl rfl rfl rfl)

theorem modTile (h : Keeps s u) (t : Nat) (f : Tile → Tile) (hf : ∀ x, (f x).isolateDue = x.isolateDue) : Keeps s (u.modTile t f) :=
  h.trans ⟨rfl, rfl, rfl, rfl, rfl, fun x => State.unmarked_modTile u t f hf x⟩
theorem modWin (h : Keeps s u) (t : Nat) (f : Window → Window) : Keeps s (u.modWin t f) := h.modTile t _ (fun _ => rfl)
theorem modAfi (h : Keeps s u) (t ch : Nat) (f : Afi → Afi) : Keeps s (u.modAfi t ch f) := by
  refine h.modTile t _ (fun x => ?_)
  unfold Tile.modAfi
  split <;> rfl
theorem modDom (h : Keeps s u) (d : Nat) (f : Domain → Domain) : Keeps s (u.modDom d f) := by
  refine h.trans ?_
  unfold State.modDom
  split <;> exact of_eq rfl rfl rfl rfl rfl rfl

theorem each (h : Keeps s u) (l : List Nat) (f : Nat → State → State) (hf : ∀ i a, Keeps s a → Keeps s (f i a)) : Keeps s (u.each l f) := by
  unfold State.each
  induction l generalizing u with
  | nil => exact h
  | cons i l ih => exact ih (hf i u h)

theorem foldl {β : Type} (h : Keeps s u) (l : List β) (f : State → β → State) (hf : ∀ a b, Keeps s a → Keeps s (f a b)) : Keeps s (l.foldl f u) := by
  induction l generalizing u with
  | nil => exact h
  | cons i l ih => exact ih (hf u i h)

theorem count (h : Keeps s u) (k n : Nat) : Keeps s (u.count k n) := by
  unfold State.count
  exact Keeps.ite (h.setObj _ _) (h.trans (of_eq rfl rfl rfl rfl rfl rfl))
theorem pcnt (h : Keeps s u) (p i n : Nat) : Keeps s (u.pcnt p i n) := h.count _ _
theorem evc (h : Keeps s u) (t so id n : Nat) : Keeps s (u.evc t so id n) := by
  refine h.each _ _ (fun i a ha => ?_)
  dsimp only
  exact Keeps.ite (ha.count _ _) ha
theorem lifeAny (h : Keeps s u) (i n : Nat) : Keeps s (u.lifeAny i n) := by
  unfold State.lifeAny
  exact Keeps.ite (h.life _ _) (h.trans (of_eq rfl rfl rfl rfl rfl rfl))
theorem addRoot (h : Keeps s u) (t : Nat) (r : Root) : Keeps s (u.addRoot t r) := h.modTile t _ (fun _ => rfl)
theorem raiseSev (h : Keeps s u) (t kind cls src sev : Nat) (root : Bool) (cause : Nat) : Keeps s (u.raiseSev t kind cls src sev root cause) := by
  unfold State.raiseSev
  refine Keeps.ite (Keeps.addRoot ?_ _ _) ?_ <;> exact h.modTile t _ (fun _ => rfl)
theorem raise (h : Keeps s u) (t kind cls src : Nat) : Keeps s (u.raise t kind cls src) := h.raiseSev t kind cls src _ _ 0
theorem endRoots (h : Keeps s u) (t : Nat) (w : Root → Bool) : Keeps s (u.endRoots t w) := h.modTile t _ (fun _ => rfl)
theorem winAnswer (h : Keeps s u) (t c v : Nat) : Keeps s (u.winAnswer t c v) := by
  unfold State.winAnswer
  exact Keeps.ite h (h.emit _)
theorem toStep (h : Keeps s u) (t n : Nat) : Keeps s (u.toStep t n) := (h.setObj _ _).modTile t _ (fun _ => rfl)
theorem toStart (h : Keeps s u) (t n : Nat) : Keeps s (u.toStart t n) := (h.setObj _ _).modTile t _ (fun _ => rfl)
theorem setCol (h : Keeps s u) (t k st : Nat) : Keeps s (u.setCol t k st) := h.each _ _ (fun _ _ ha => (ha.setObj _ _).modTile _ _ (fun _ => rfl))
theorem linksStart (h : Keeps s u) (t : Nat) : Keeps s (u.linksStart t) := h.each _ _ (fun _ _ ha => by
  unfold State.linkStart
  exact Keeps.ite (ha.setCol _ _ _) ha)
theorem startReplica (h : Keeps s u) (r : Nat) : Keeps s (u.startReplica r) := h.each _ _ (fun _ _ ha => ha.modReplica _ _ _)
theorem stopReplica (h : Keeps s u) (r : Nat) : Keeps s (u.stopReplica r) := h.each _ _ (fun _ _ ha => ha.modReplica _ _ _)
theorem startMasters (h : Keeps s u) : Keeps s u.startMasters := h.each _ _ (fun _ _ ha => ha.modDom _ _)
theorem tryRail (h : Keeps s u) (t : Nat) : Keeps s (u.tryRail t) := by
  unfold State.tryRail
  refine Keeps.ite ?_ (Keeps.setObj ?_ _ _) <;> exact (h.toStep _ _).modTile t _ (fun _ => rfl)
theorem allOn (h : Keeps s u) (t : Nat) : Keeps s (u.allOn t) := (h.foldl _ _ (fun _ _ ha => ha.setPd _ _ _)).modTile t _ (fun _ => rfl)

end Keeps

/-- A command's effect that keeps what the frame keeps is all that the command does. -/
theorem act_keeps {now : Nat} {f : State → State} {s u : State} (h : f (s.at now) = u) (hk : Keeps (s.at now) u) (hq : s.quiet) : act now f s = .next u :=
  act_eq h (hk.quiet (State.at_quiet now hq)) hk.pending hk.now hk.lStart hk.variant

end Sys2Proof.Machine
end

