-- ==== Sys2Proof/Laws/Symbols.lean ====
section
/-! SUPPORT. What a lane sends can be taken back: the Gray code, the polarity and the scrambler undo themselves, and a control block that is closed is good. -/

namespace Sys2Proof.Machine

/-- The level of a pair gives the pair back (R148). -/
@[simp] theorem grayBits_grayLevel (a b : Bool) : grayBits (grayLevel a b) = (a, b) := by cases a <;> cases b <;> rfl

theorem grayLevel_le (a b : Bool) : grayLevel a b ≤ 3 := by cases a <;> cases b <;> decide

/-- Inverted polarity undoes itself on PAM4 levels (R155). -/
theorem polar_polar (inverted : Bool) (l : List Nat) (h : ∀ n ∈ l, n ≤ 3) : polar true inverted (polar true inverted l) = l := by
  cases inverted with
  | false => rfl
  | true =>
    simp only [polar, if_pos, List.map_map]
    exact (List.map_congr_left (fun n hn => by have := h n hn; simp only [Function.comp, id]; omega)).trans (List.map_id l)

/-- The descrambler gives the stream back when it starts from the scrambled bits the scrambler started from (R199). -/
@[simp] theorem descramble_scramble (hist l : List Bool) : descramble hist (scramble hist l) = l := by
  induction l generalizing hist with
  | nil => rfl
  | cons b l ih => simp only [scramble, descramble, ih, scrambleBit, Bool.bne_assoc, bne_self_eq_false, Bool.bne_false]

@[simp] theorem scramble_length (hist l : List Bool) : (scramble hist l).length = l.length := by
  induction l generalizing hist with
  | nil => rfl
  | cons b l ih => simp only [scramble, List.length_cons, ih]

/-- Every block stands on a lane of the set it is striped over (R206). -/
theorem stripe_lane {lanes blocks : List Nat} (h : lanes ≠ []) {x : Nat × Nat} (hx : x ∈ stripe lanes blocks) : x.1 ∈ lanes := by
  obtain ⟨i, hi, rfl⟩ := List.mem_mapIdx.mp hx
  have hlen : 0 < lanes.length := List.length_pos_iff.mpr h
  have hm : i % max 1 lanes.length < lanes.length := by rw [Nat.max_eq_right hlen]; exact Nat.mod_lt _ hlen
  simp [List.getD_eq_getElem?_getD, hm]

@[simp] theorem stripe_length (lanes blocks : List Nat) : (stripe lanes blocks).length = blocks.length := by simp [stripe]

/-- A unit is 32 blocks (R206). -/
@[simp] theorem unitBlocks_length (seq : Nat) (data : Bytes) (ucrc : Nat) : (unitBlocks seq data ucrc).length = 32 := by simp [unitBlocks]

end Sys2Proof.Machine
end

