-- ==== Sys2Proof/Tests/Slice0.lean ====
section
/-! SUPPORT. Tests: each check of well-formedness refuses a term; what no command spells as a word; and for every statement of the obligations that has hypotheses, states
and operands that meet them, clause by clause, on the package of two tiles. -/

namespace Sys2Proof.Tests

open Sys2Proof Sys2Proof.Machine

/-! The witnesses are checked one after another. -/

set_option Elab.async false

/-- A state with objects given values. -/
def put (s : State) (l : List (Nat × Nat)) : State := { s with objs := l ++ s.objs }

/-- A package of two tiles whose inputs are high. -/
def low : State := { State.reset with variant := .clm36, porstN := true }

/-- Both tiles are in service, with every domain on; the window of T0 is in the key state. -/
def up : State := (put low [(O.TILE_STATE 0, 1), (O.TILE_STATE 1, 1), (O.PD_ON 0, 2 ^ 54 - 1), (O.PD_ON 1, 2 ^ 54 - 1)]).modTile 0 (fun x => { x with
  key := { x.key with priv := true }, vregReq := true, vregRdy := true, oscReq := true })

/-- The mailbox of T0. -/
def m0 : Requester := .mailbox 0

/-- A tile changed. -/
def tl (s : State) (t : Nat) (f : Tile → Tile) : State := s.modTile t f

/-- The WAKE frame of node 0x7F, as runs of bits of one microsecond. -/
def wakeRuns : List Nat := [3, 1, 1, 5, 1, 2, 5, 2, 2, 1, 1, 1, 1, 1, 1, 1, 1, 1, 1, 1, 1, 1, 1, 3, 1, 1, 3, 1, 1, 2, 1, 1, 2].map (· * usU)

/-- The object AFI_STALL_LIMIT of T0. -/
def stallRow : Row := ⟨"AFI_STALL_LIMIT", 0, 0, 13, 13, 2, 4, .rw, .imm, 100, true, .range 1 100000⟩

/-- A port of a mode, at a state of its bring-up, with its lanes in a state, with signal and lock. -/
def lk (s : State) (p mode st lane : Nat) : State :=
  ((List.range (modeOf mode).width).map (p + ·)).foldl (fun a l => put a [(O.PORT_OWNER l, p), (O.LANE_STATE l, lane), (O.LANE_MODE l, (modeOf mode).lane), (O.LOS_STATE l, 0),
    (O.LOL_STATE l, 0)]) (put s [(O.PORT_MODE p, mode), (O.LINK_STATE p, st), (O.WIDTH_NOW p, (modeOf mode).width)])

/-- A table of one peer tells nothing of the others. -/
theorem other_peer {x y : Peer} {m : Nat} (hm : m ≠ 1) : tget none [(1, some x)] m ≠ some y := by
  simp [tget, Ne.symm hm]

/-- A frame of `n` bytes that a port has received whole. -/
def fr (p n : Nat) : Frame := { data := List.replicate n 7, src := .port p, ended := true, wire := n + 4 }

/-- A frame with one copy. -/
def hold (s : State) (fid : Nat) (f : Frame) (c : Copy) : State := (s.setFrame fid (some f)).setCopy fid 0 (some c)

/-- A descriptor: the length of its part, and the byte of its KIND. -/
def desc (len kind : Nat) : Bytes := natLe 4096 8 ++ natLe len 2 ++ natLe 0 2 ++ natLe kind 1 ++ natLe 0 19

/-- States and operands that meet the hypotheses of `Obligations.SupplySteps`. -/
theorem hold_SupplySteps :
    (∃ (s : State), ∃ (now t : Nat), s.quiet ∧ t < s.variant.tiles ∧ ∃ i, (s.tile t).releaseAt = some i ∧ i ≤ max s.now now ∧ s.pwrOk = true ∧ s.porstN = true ∧ s.asleep = false) ∧
    (∃ (s : State), ∃ (now t : Nat), s.quiet ∧ t < s.variant.tiles ∧ s.obj (O.TILE_PSTEP t) = 5 ∧ max s.now now ≤ (s.tile t).stepAt + s.vregLimit t + s.vregLimit t / 10) ∧
    (∃ (s : State), ∃ (now t : Nat), s.quiet ∧ t < s.variant.tiles ∧ s.obj (O.TILE_PSTEP t) = 6 ∧ max s.now now ≤ (s.tile t).stepAt + 2 * msU + 2 * msU / 10) ∧
    (∃ (s : State), ∃ (now t : Nat), s.quiet ∧ t < s.variant.tiles ∧ s.obj (O.TILE_PSTEP t) = 5 ∧ (s.tile t).stepAt + s.vregLimit t ≤ max s.now now) ∧
    (∃ (s : State), ∃ (now t : Nat), s.quiet ∧ t < s.variant.tiles ∧ s.obj (O.TILE_PSTEP t) = 6 ∧ (s.tile t).stepAt + 2 * msU ≤ max s.now now) ∧
    (∃ (s : State), ∃ (t : Nat), s.quiet ∧ t < s.variant.tiles ∧ ∃ osc, s.pastSupply t osc = true) ∧
    (∃ (s : State), ∃ (now t : Nat), s.quiet ∧ t < s.variant.tiles ∧ s.obj (O.TILE_PSTEP t) = 10 ∧ (s.tile t).stepAt + msU ≤ max s.now now ∧ (s.tile t).tries < 4) ∧
    (∃ (s : State), ∃ (now t : Nat), s.quiet ∧ t < s.variant.tiles ∧ s.obj (O.TILE_PSTEP t) = 10 ∧ (s.tile t).stepAt + msU ≤ max s.now now ∧ 4 ≤ (s.tile t).tries ∧ (t ≠ 0 ∨ (s.tile t).coming ≠ .package)) := by
  refine ⟨⟨tl low 1 (fun x => { x with releaseAt := some 5 }), 9, 1, ⟨?_, ?_⟩, ?_, 5, ?_, ?_, ?_, ?_, ?_⟩,
    ⟨(put up [(O.TILE_STATE 1, 0), (O.TILE_PSTEP 1, 5)]), 0, 1, ⟨?_, ?_⟩, ?_, ?_, ?_⟩,
    ⟨(put up [(O.TILE_STATE 1, 0), (O.TILE_PSTEP 1, 6)]), 0, 1, ⟨?_, ?_⟩, ?_, ?_, ?_⟩,
    ⟨(put up [(O.TILE_STATE 1, 0), (O.TILE_PSTEP 1, 5)]), 5 * msU, 1, ⟨?_, ?_⟩, ?_, ?_, ?_⟩,
    ⟨(put up [(O.TILE_STATE 1, 0), (O.TILE_PSTEP 1, 6)]), 2 * msU, 1, ⟨?_, ?_⟩, ?_, ?_, ?_⟩,
    ⟨(put up [(O.TILE_STATE 1, 0), (O.TILE_PSTEP 1, 7)]), 1, ⟨?_, ?_⟩, ?_, false, ?_⟩,
    ⟨(put up [(O.TILE_STATE 1, 0), (O.TILE_PSTEP 1, 10)]), msU, 1, ⟨?_, ?_⟩, ?_, ?_, ?_, ?_⟩,
    ⟨tl (put up [(O.TILE_STATE 1, 0), (O.TILE_PSTEP 1, 10)]) 1 (fun x => { x with tries := 4 }), msU, 1, ⟨?_, ?_⟩, ?_, ?_, ?_, ?_, ?_⟩⟩ <;> decide +kernel

/-- States and operands that meet the hypotheses of `Obligations.StartSteps`. -/
theorem hold_StartSteps :
    (∃ (s : State), ∃ (now t : Nat), s.quiet ∧ t < s.variant.tiles ∧ ∃ d, d < 54 ∧ (s.tile t).pdQueue.head? = some d ∧ ((s.tile t).pdAt = 0 ∨ (s.tile t).pdAt + 2 * usU ≤ max s.now now) ∧ s.pairOk (.corePwr t) = true ∧ s.pairOk (.basinPwr t) = true ∧ (s.runs t = false ∨ s.offOwed t = false)) ∧
    (∃ (s : State), ∃ (now t : Nat), s.quiet ∧ t < s.variant.tiles ∧ s.inStart t 2 = true ∧ (t ≠ 0 ∨ (s.tile t).coming ≠ .recover) ∧ (s.tile t).stepAt + 2 * usU * ((s.tile t).pdQueue.length - 1) ≤ max s.now now) ∧
    (∃ (s : State), ∃ (t : Nat), s.quiet ∧ t < s.variant.tiles ∧ s.inStart t 3 = true ∧ (s.tile t).failed = false) ∧
    (∃ (s : State), ∃ (t : Nat), s.quiet ∧ t < s.variant.tiles ∧ s.inStart t 4 = true ∧ (s.tile t).failed = false) ∧
    (∃ (s : State), ∃ (t : Nat), s.quiet ∧ t < s.variant.tiles ∧ s.inStart t 5 = true) ∧
    (∃ (s : State), ∃ (t : Nat), s.quiet ∧ t < s.variant.tiles ∧ s.inStart t 6 = true ∧ (t = 0 ∨ s.runs 0 = true) ∧ (s.tile t).coming ≠ .recover ∧ s.pairOk .lcRunning = true) := by
  refine ⟨⟨tl (put up [(O.TILE_STATE 1, 0), (O.TILE_PSTEP 1, 2)]) 1 (fun x => { x with pdQueue := [36, 37] }), 0, 1, ⟨?_, ?_⟩, ?_, 36, ?_, ?_, ?_, ?_, ?_, ?_⟩,
    ⟨(put low [(O.TILE_STATE 1, 0), (O.TILE_STATE 0, 1), (O.PD_ON 0, 2 ^ 54 - 1), (O.STARTUP_STEP 1, 2)]), 0, 1, ⟨?_, ?_⟩, ?_, ?_, ?_, ?_⟩,
    ⟨(put low [(O.TILE_STATE 1, 0), (O.TILE_STATE 0, 1), (O.PD_ON 0, 2 ^ 54 - 1), (O.STARTUP_STEP 1, 3)]), 1, ⟨?_, ?_⟩, ?_, ?_, ?_⟩,
    ⟨(put low [(O.TILE_STATE 1, 0), (O.TILE_STATE 0, 1), (O.PD_ON 0, 2 ^ 54 - 1), (O.STARTUP_STEP 1, 4)]), 1, ⟨?_, ?_⟩, ?_, ?_, ?_⟩,
    ⟨(put low [(O.TILE_STATE 1, 0), (O.TILE_STATE 0, 1), (O.PD_ON 0, 2 ^ 54 - 1), (O.STARTUP_STEP 1, 5)]), 1, ⟨?_, ?_⟩, ?_, ?_⟩,
    ⟨(put low [(O.TILE_STATE 1, 0), (O.TILE_STATE 0, 1), (O.PD_ON 0, 2 ^ 54 - 1), (O.STARTUP_STEP 1, 6)]), 1, ⟨?_, ?_⟩, ?_, ?_, ?_, ?_, ?_⟩⟩ <;> decide +kernel

/-- States and operands that meet the hypotheses of `Obligations.PackageInputs`. -/
theorem hold_PackageInputs :
    (∃ (s : State), s.quiet ∧ s.pwrOk = true ∧ s.porstN = true) ∧
    (∃ (s : State), s.quiet ∧ s.pwrOk = true ∧ s.porstN = false ∧ s.pairOk .lcRunning = true) ∧
    (∃ (s : State), s.quiet ∧ s.pwrOk = false ∧ s.porstN = true ∧ s.pairOk .lcRunning = true) ∧
    (∃ (s : State), s.quiet ∧ s.pwrOk = true ∧ s.porstN = false) ∧
    (∃ (s : State), s.quiet ∧ s.pwrOk = false ∧ s.porstN = true) := by
  refine ⟨⟨up, ⟨?_, ?_⟩, ?_, ?_⟩,
    ⟨{ low with porstN := false }, ⟨?_, ?_⟩, ?_, ?_, ?_⟩,
    ⟨{ low with pwrOk := false }, ⟨?_, ?_⟩, ?_, ?_, ?_⟩,
    ⟨{ low with porstN := false }, ⟨?_, ?_⟩, ?_, ?_⟩,
    ⟨{ low with pwrOk := false }, ⟨?_, ?_⟩, ?_, ?_⟩⟩ <;> decide +kernel

/-- States and operands that meet the hypotheses of `Obligations.TileResets`. -/
theorem hold_TileResets :
    (∃ (s : State), ∃ (t : Nat), s.sound ∧ t < s.variant.tiles ∧ ∃ width, t ≠ 0 ∧ 60 * nsU ≤ width ∧ s.pwrOk = true ∧ s.porstN = true) ∧
    (∃ (s : State), ∃ (t : Nat), s.sound ∧ t < s.variant.tiles ∧ ∃ width, width < 40 * nsU) ∧
    (∃ (s : State), ∃ (t : Nat), s.sound ∧ t < s.variant.tiles ∧ ∃ width, 60 * nsU ≤ width ∧ s.pwrOk = true ∧ s.porstN = true ∧ s.pairOk .lcRunning = true) ∧
    (∃ (s : State), ∃ (t : Nat), s.sound ∧ t < s.variant.tiles ∧ (s.obj (O.TILE_STATE t) = 1 ∨ s.obj (O.TILE_STATE t) = 4) ∧ (s.tile t).vregReq = true) ∧
    (∃ (s : State), ∃ (now t : Nat), s.sound ∧ t < s.variant.tiles ∧ ∃ r, t ≠ 0 ∧ s.accepts now r (O.TILE_RECOVER t) [1] = true) := by
  refine ⟨⟨up, 1, ⟨⟨?_, ?_⟩, ?_⟩, ?_, 60 * nsU, ?_, ?_, ?_, ?_⟩,
    ⟨up, 1, ⟨⟨?_, ?_⟩, ?_⟩, ?_, 39 * nsU, ?_⟩,
    ⟨up, 1, ⟨⟨?_, ?_⟩, ?_⟩, ?_, 60 * nsU, ?_, ?_, ?_, ?_⟩,
    ⟨tl up 1 (fun x => { x with vregReq := true }), 1, ⟨⟨?_, ?_⟩, ?_⟩, ?_, ?_, ?_⟩,
    ⟨put up [(O.TILE_STATE 1, 4)], 0, 1, ⟨⟨?_, ?_⟩, ?_⟩, ?_, m0, ?_, ?_⟩⟩ <;> decide +kernel

/-- States and operands that meet the hypotheses of `Obligations.TilePower`. -/
theorem hold_TilePower :
    (∃ (s : State), ∃ (now t : Nat), s.quiet ∧ t < s.variant.tiles ∧ t ≠ 0 ∧ ∃ r, s.runs t = true ∧ s.accepts now r (O.TILE_POWER t) [1] = true) ∧
    (∃ (s : State), ∃ (now t : Nat), s.quiet ∧ t < s.variant.tiles ∧ t ≠ 0 ∧ s.entering t 1 = true ∧ (s.tile t).stepAt + 20 * usU ≤ max s.now now) ∧
    (∃ (s : State), ∃ (t : Nat), s.quiet ∧ t < s.variant.tiles ∧ t ≠ 0 ∧ ∃ (i : Image), s.entering t 2 = true ∧ (s.tile t).image = some i) ∧
    (∃ (s : State), ∃ (t : Nat), s.quiet ∧ t < s.variant.tiles ∧ t ≠ 0 ∧ s.entering t 3 = true ∧ (s.tile t).runHeld = false) ∧
    (∃ (s : State), ∃ (now t : Nat), s.quiet ∧ t < s.variant.tiles ∧ t ≠ 0 ∧ ∃ r, s.obj (O.TILE_STATE t) = 2 ∧ s.obj (O.TILE_PSTEP t) = 0 ∧ s.accepts now r (O.TILE_POWER t) [0] = true) ∧
    (∃ (s : State), ∃ (now t : Nat), s.quiet ∧ t < s.variant.tiles ∧ t ≠ 0 ∧ ∃ r, s.entering t 2 = true ∧ s.accepts now r (O.TILE_POWER t) [0] = true) ∧
    (∃ (s : State), ∃ (t : Nat), s.quiet ∧ t < s.variant.tiles ∧ t ≠ 0 ∧ ∃ (i : Image), s.obj (O.TILE_PSTEP t) = 8 ∧ (s.tile t).image = some i ∧ (∀ x ∈ i.sections, ∀ b ∈ x.banks, b < 48 ∧ b ∈ i.signed) ∧ (∀ x ∈ i.sections, x.lostBit < 4)) ∧
    (∃ (s : State), ∃ (t : Nat), s.quiet ∧ t < s.variant.tiles ∧ t ≠ 0 ∧ s.obj (O.TILE_PSTEP t) = 9 ∧ s.obj (O.RESTORE_LOST t) = 0) ∧
    (∃ (s : State), ∃ (now : Nat), ∃ (r : Requester), ∃ (t : Nat), ∃ (data : Bytes), s.quiet ∧ t < s.variant.tiles ∧ s.runs t = true ∧ s.accepts now r (O.CORE_PWR t) data = true ∧ s.pairOk (.basinPwr t) = true) ∧
    (∃ (s : State), ∃ (now : Nat), ∃ (r : Requester), ∃ (t : Nat), ∃ (data : Bytes), s.quiet ∧ t < s.variant.tiles ∧ s.runs t = true ∧ s.accepts now r (O.BASIN_PWR t) data = true ∧ s.pairOk (.corePwr t) = true) := by
  refine ⟨⟨up, 0, 1, ⟨?_, ?_⟩, ?_, ?_, m0, ?_, ?_⟩,
    ⟨put up [(O.TILE_PSTEP 1, 1), (O.TILE_POWER 1, 1)], 20 * usU, 1, ⟨?_, ?_⟩, ?_, ?_, ?_, ?_⟩,
    ⟨tl (put up [(O.TILE_PSTEP 1, 2)]) 1 (fun x => { x with image := some ⟨[], [⟨0, [3, 4]⟩], []⟩ }), 1, ⟨?_, ?_⟩, ?_, ?_, (⟨[], [⟨0, [3, 4]⟩], []⟩ : Image), ?_, ?_⟩,
    ⟨put up [(O.TILE_PSTEP 1, 3)], 1, ⟨?_, ?_⟩, ?_, ?_, ?_, ?_⟩,
    ⟨put up [(O.TILE_STATE 1, 2), (O.TILE_POWER 1, 1)], 0, 1, ⟨?_, ?_⟩, ?_, ?_, m0, ?_, ?_, ?_⟩,
    ⟨put up [(O.TILE_PSTEP 1, 2), (O.TILE_POWER 1, 1)], 0, 1, ⟨?_, ?_⟩, ?_, ?_, m0, ?_, ?_⟩,
    ⟨tl (put up [(O.TILE_STATE 1, 2), (O.TILE_PSTEP 1, 8)]) 1 (fun x => { x with image := some ⟨[], [], [3, 4]⟩ }), 1, ⟨?_, ?_⟩, ?_, ?_, (⟨[], [], [3, 4]⟩ : Image), ?_, ?_, ?_, ?_⟩,
    ⟨put up [(O.TILE_STATE 1, 2), (O.TILE_PSTEP 1, 9)], 1, ⟨?_, ?_⟩, ?_, ?_, ?_, ?_⟩,
    ⟨up, 0, m0, 1, [0xFD], ⟨?_, ?_⟩, ?_, ?_, ?_, ?_⟩,
    ⟨put up [(O.GROUPS_EN 1, 0xFE)], 0, m0, 1, [0xFE], ⟨?_, ?_⟩, ?_, ?_, ?_, ?_⟩⟩ <;> decide +kernel

/-- States and operands that meet the hypotheses of `Obligations.PackageSleep`. -/
theorem hold_PackageSleep :
    (∃ (s : State), ∃ (now : Nat), s.sound ∧ ∃ r, s.accepts now r O.SLEEP_REQ [1] = true) ∧
    (∃ (s : State), s.sound ∧ s.sleepEntry = true ∧ s.wakeOwed = false ∧ s.psNow = none ∧ s.psWait = [] ∧ s.afterResponse = []) ∧
    (∃ (s : State), s.sound ∧ ∃ idle, ∃ runs, s.asleep = true ∧ 8 * usU ≤ idle ∧ detects s.node runs = true) ∧
    (∃ (s : State), s.sound ∧ ∃ idle, ∃ runs, (s.asleep = false ∨ idle < 8 * usU ∨ detects s.node runs = false)) ∧
    (∃ (s : State), ∃ (now : Nat), s.sound ∧ (s.at now).zwOn = true ∧ s.sleepEntry = false) ∧
    (∃ (s : State), s.sound ∧ s.sleepEntry = true) := by
  refine ⟨⟨up, 0, ⟨⟨?_, ?_⟩, ?_⟩, m0, ?_⟩,
    ⟨{ up with sleepEntry := true }, ⟨⟨?_, ?_⟩, ?_⟩, ?_, ?_, ?_, ?_, ?_⟩,
    ⟨{ low with asleep := true }, ⟨⟨?_, ?_⟩, ?_⟩, 8 * usU, wakeRuns, ?_, ?_, ?_⟩,
    ⟨up, ⟨⟨?_, ?_⟩, ?_⟩, 0, [], ?_⟩,
    ⟨up, 0, ⟨⟨?_, ?_⟩, ?_⟩, ?_, ?_⟩,
    ⟨{ up with sleepEntry := true }, ⟨⟨?_, ?_⟩, ?_⟩, ?_⟩⟩ <;> decide +kernel

/-- States and operands that meet the hypotheses of `Obligations.Lifecycle`. -/
theorem hold_Lifecycle :
    (∃ (s : State), ∃ (now : Nat), s.quiet ∧ ∃ r, ∃ data, s.accepts now r O.LC_REQUEST data = true ∧ leNat data ≠ 0) ∧
    (∃ (s : State), s.quiet) ∧
    (∃ (s : State), s.quiet ∧ s.lcNow ≠ 4) ∧
    (∃ (s : State), s.quiet ∧ s.lcNow = 4 ∧ s.lc = none) ∧
    (∃ (s : State), s.quiet ∧ ∃ v, s.lc = some ⟨v, none, false⟩) ∧
    (∃ (s : State), s.quiet ∧ ∃ v, ∃ (who : Option Requester), s.lc = some ⟨v, who, true⟩ ∧ s.psNow = none ∧ s.psWait = []) := by
  refine ⟨⟨{ up with keys := [(0, List.replicate 16 1)] }, 0, ⟨?_, ?_⟩, m0, [2], ?_, ?_⟩,
    ⟨up, ⟨?_, ?_⟩⟩,
    ⟨up, ⟨?_, ?_⟩, ?_⟩,
    ⟨put up [(O.LC_STATE, 4)], ⟨?_, ?_⟩, ?_, ?_⟩,
    ⟨{ up with lc := some ⟨2, none, false⟩ }, ⟨?_, ?_⟩, 2, ?_⟩,
    ⟨{ up with lc := some ⟨2, none, true⟩ }, ⟨?_, ?_⟩, 2, (none : Option Requester), ?_, ?_, ?_⟩⟩ <;> decide +kernel

/-- States and operands that meet the hypotheses of `Obligations.Firmware`. -/
theorem hold_Firmware :
    (∃ (s : State), ∃ (now t : Nat), s.quiet ∧ t < s.variant.tiles ∧ ∃ r, ∃ data, s.accepts now r O.FW_OFFSET data = true) ∧
    (∃ (s : State), ∃ (now t : Nat), s.quiet ∧ t < s.variant.tiles ∧ ∃ r, ∃ data, s.accepts now r O.FW_DATA data = true) ∧
    (∃ (s : State), ∃ (now t : Nat), s.quiet ∧ t < s.variant.tiles ∧ ∃ r, s.accepts now r O.FW_VERIFY [1] = true ∧ s.obj O.FW_STATE ≠ 4) ∧
    (∃ (s : State), ∃ (t : Nat), s.quiet ∧ t < s.variant.tiles ∧ s.fwVerifying = true) ∧
    (∃ (s : State), ∃ (now t : Nat), s.quiet ∧ t < s.variant.tiles ∧ ∃ r, ∃ data, s.accepts now r O.FW_ACTIVATE data = true ∧ (∃ x, x < 8 ∧ bit (leNat data) x = true)) ∧
    (∃ (s : State), ∃ (t : Nat), s.quiet ∧ t < s.variant.tiles ∧ ∃ (w : FwUpdate), ∃ rest, s.fwUpdate = some w ∧ w.cur = none ∧ w.left = t :: rest ∧ s.runs t = true) ∧
    (∃ (s : State), ∃ (t : Nat), s.quiet ∧ t < s.variant.tiles ∧ ∃ (w : FwUpdate), s.fwUpdate = some w ∧ w.cur = some t ∧ w.left = [] ∧ w.reverted = false ∧ s.heldOps = [] ∧ s.relayIn = []) ∧
    (∃ (s : State), ∃ (t : Nat), s.quiet ∧ t < s.variant.tiles ∧ ∃ (w : FwUpdate), s.fwUpdate = some w ∧ w.cur = some t ∧ s.heldOps = [] ∧ s.relayIn = []) ∧
    (∃ (s : State), ∃ (t : Nat), s.quiet ∧ t < s.variant.tiles ∧ s.runs t = true) := by
  refine ⟨⟨up, 0, 0, ⟨?_, ?_⟩, ?_, m0, natLe 512 4, ?_⟩,
    ⟨up, 0, 0, ⟨?_, ?_⟩, ?_, m0, List.replicate 512 7, ?_⟩,
    ⟨put up [(O.FW_STATE, 1)], 0, 0, ⟨?_, ?_⟩, ?_, m0, ?_, ?_⟩,
    ⟨{ up with fwVerifying := true }, 0, ⟨?_, ?_⟩, ?_, ?_⟩,
    ⟨put up [(O.FW_STATE, 2)], 0, 0, ⟨?_, ?_⟩, ?_, m0, [1], ?_, ⟨0, by decide, by decide +kernel⟩⟩,
    ⟨{ up with fwUpdate := some ⟨[1], none, 0, [], false⟩ }, 1, ⟨?_, ?_⟩, ?_, (⟨[1], none, 0, [], false⟩ : FwUpdate), [], ?_, ?_, ?_, ?_⟩,
    ⟨{ up with fwUpdate := some ⟨[], some 1, 0, [], false⟩ }, 1, ⟨?_, ?_⟩, ?_, (⟨[], some 1, 0, [], false⟩ : FwUpdate), ?_, ?_, ?_, ?_, ?_, ?_⟩,
    ⟨{ up with fwUpdate := some ⟨[], some 1, 0, [], false⟩ }, 1, ⟨?_, ?_⟩, ?_, (⟨[], some 1, 0, [], false⟩ : FwUpdate), ?_, ?_, ?_, ?_⟩,
    ⟨up, 1, ⟨?_, ?_⟩, ?_, ?_⟩⟩ <;> decide +kernel

/-- States and operands that meet the hypotheses of `Obligations.AfiChannels`. -/
theorem hold_AfiChannels :
    (∃ (s : State), ∃ (t ch : Nat), s.quiet ∧ t < s.variant.tiles ∧ ch < 2 ∧ s.runs t = true ∧ s.dmaOn t = true ∧ s.pipeOn t ch = true ∧ (s.afi t ch).up = false) ∧
    (∃ (s : State), ∃ (t ch : Nat), s.quiet ∧ t < s.variant.tiles ∧ ch < 2 ∧ (s.afi t ch).up = true) ∧
    (∃ (s : State), ∃ (t ch : Nat), s.quiet ∧ t < s.variant.tiles ∧ ch < 2 ∧ (s.afi t ch).up = true ∧ (s.afi t ch).ctx = []) ∧
    (∃ (s : State), ∃ (t ch : Nat), s.quiet ∧ t < s.variant.tiles ∧ ch < 2 ∧ (s.afi t ch).up = true) ∧
    (∃ (s : State), ∃ (now t : Nat), ∃ (ch : Nat), s.quiet ∧ t < s.variant.tiles ∧ ch < 2 ∧ (s.afi t ch).up = true ∧ ((s.afi t ch).rxCredits = 0 ∨ (s.afi t ch).rxStarted = false) ∧ (s.afi t ch).stalled = false ∧ s.afiWaits t ch = true ∧ (s.afi t ch).noCredit + s.obj (O.AFI_STALL_LIMIT t) * usU ≤ max s.now now) := by
  refine ⟨⟨up, 0, 1, ⟨?_, ?_⟩, ?_, ?_, ?_, ?_, ?_, ?_⟩,
    ⟨(tl up 0 (fun x => { x with afi0 := { x.afi0 with rdy := true, hdRdy := true } })), 0, 0, ⟨?_, ?_⟩, ?_, ?_, ?_⟩,
    ⟨(tl up 0 (fun x => { x with afi0 := { x.afi0 with rdy := true, hdRdy := true } })), 0, 0, ⟨?_, ?_⟩, ?_, ?_, ?_, ?_⟩,
    ⟨(tl up 0 (fun x => { x with afi0 := { x.afi0 with rdy := true, hdRdy := true } })), 0, 0, ⟨?_, ?_⟩, ?_, ?_, ?_⟩,
    ⟨{ (tl up 0 (fun x => { x with afi0 := { x.afi0 with rdy := true, hdRdy := true } })) with afiQueues := [(0, [(1, 0)])] }, 2000 * usU, 0, 0, ⟨?_, ?_⟩, ?_, ?_, ?_, ?_, ?_, ?_, ?_⟩⟩ <;> decide +kernel

/-- States and operands that meet the hypotheses of `Obligations.AfiFrames`. -/
theorem hold_AfiFrames :
    (∃ (s : State), ∃ (t ch : Nat), ∃ (fid metaw : Nat), ∃ (f : Flit), s.quiet ∧ t < s.variant.tiles ∧ ch < 2 ∧ (s.afi t ch).up = true ∧ 0 < (s.afi t ch).txCredits ∧ (s.afi t ch).txOpen = none ∧ f.sof = true ∧ f.eof = true ∧ f.err = false ∧ f.ctx = 0 ∧ (flitValid f).length = metaLen metaw ∧ 14 ≤ metaLen metaw ∧ s.fresh fid = true ∧ (s.policer t (hostMetaOf metaw).fence).bad = false ∧ (s.policer t (hostMetaOf metaw).fence).kind = 1 ∧ (s.policer t (hostMetaOf metaw).fence).tc ≤ ((s.policer t (hostMetaOf metaw).fence).cbs * 8000 : Nat) ∧ (((s.policer t (hostMetaOf metaw).fence).meter (max 64 (metaLen metaw + 4)) * 8000 : Nat) : Int) ≤ (s.policer t (hostMetaOf metaw).fence).tc) ∧
    (∃ (s : State), ∃ (t ch : Nat), s.quiet ∧ t < s.variant.tiles ∧ ch < 2 ∧ (s.afi t ch).up = true ∧ (s.afi t ch).txCredits = 0 ∧ (s.afi t ch).txOpen = none) ∧
    (∃ (s : State), ∃ (t ch : Nat), ∃ (crcBad fid : Nat), ∃ (h : Nat), ∃ (rest : List (Nat × Nat)), ∃ (c : Copy), ∃ (f : Frame), s.quiet ∧ t < s.variant.tiles ∧ ch < 2 ∧ (s.afi t ch).up = true ∧ (s.afi t ch).rxStarted = true ∧ (s.afi t ch).rxCredits = 1 ∧ (s.afi t ch).ctx = [] ∧ tget [] s.afiQueues (2 * t + ch) = (fid, h) :: rest ∧ s.copy fid h = some c ∧ s.frame fid = some f ∧ 64 < (c.bytes f).length ∧ bit crcBad 0 = false) ∧
    (∃ (s : State), ∃ (t ch : Nat), ∃ (crcBad fid : Nat), ∃ (h : Nat), ∃ (rest : List (Nat × Nat)), ∃ (c : Copy), ∃ (f : Frame), s.quiet ∧ t < s.variant.tiles ∧ ch < 2 ∧ (s.afi t ch).up = true ∧ (s.afi t ch).rxStarted = true ∧ (s.afi t ch).rxCredits = 1 ∧ (s.afi t ch).ctx = [] ∧ tget [] s.afiQueues (2 * t + ch) = (fid, h) :: rest ∧ s.copy fid h = some c ∧ s.frame fid = some f ∧ 64 < (c.bytes f).length ∧ bit crcBad 0 = true ∧ s.obj (O.ISOLATE_THRESHOLD t) = 0) := by
  refine ⟨⟨(tl up 0 (fun x => { x with afi1 := { x.afi1 with rdy := true, hdRdy := true, txCredits := 9 } })), 0, 1, 4, 20, ⟨true, true, 20, false, 0, List.replicate 20 1⟩, ⟨?_, ?_⟩, ?_, ?_, ?_, ?_, ?_, ?_, ?_, ?_, ?_, ?_, ?_, ?_, ?_, ?_, ?_, ?_⟩,
    ⟨(tl up 0 (fun x => { x with afi1 := { x.afi1 with rdy := true, hdRdy := true } })), 0, 1, ⟨?_, ?_⟩, ?_, ?_, ?_, ?_, ?_⟩,
    ⟨{ hold (tl up 0 (fun x => { x with afi1 := { x.afi1 with rdy := true, hdRdy := true, rxStarted := true, rxCredits := 1 } })) 4 (fr 0 100) { dst := .afi 0 1, place := .queued, complete := true } with afiQueues := [(1, [(4, 0)])] }, 0, 1, 0, 4, 0, [], { dst := .afi 0 1, place := .queued, complete := true }, fr 0 100, ⟨?_, ?_⟩, ?_, ?_, ?_, ?_, ?_, ?_, ?_, ?_, ?_, ?_, ?_⟩,
    ⟨{ hold (put (tl up 0 (fun x => { x with afi1 := { x.afi1 with rdy := true, hdRdy := true, rxStarted := true, rxCredits := 1 } })) [(O.ISOLATE_THRESHOLD 0, 0)]) 4 (fr 0 100) { dst := .afi 0 1, place := .queued, complete := true } with afiQueues := [(1, [(4, 0)])] }, 0, 1, 1, 4, 0, [], { dst := .afi 0 1, place := .queued, complete := true }, fr 0 100, ⟨?_, ?_⟩, ?_, ?_, ?_, ?_, ?_, ?_, ?_, ?_, ?_, ?_, ?_, ?_⟩⟩ <;> decide +kernel

/-- States and operands that meet the hypotheses of `Obligations.MemoryPort`. -/
theorem hold_MemoryPort :
    (∃ (s : State), ∃ (t : Nat), s.quiet ∧ t < s.variant.tiles ∧ ∃ tag, ∃ (d : DmaRead), ∃ (w : Work), ∃ (data : Bytes), (s.tile t).reads.find? (fun r => r.tag == tag) = some d ∧ d.dead = false ∧ d.use = .data ∧ data.length = d.len ∧ (s.ring t d.rx d.ring).work = some w) ∧
    (∃ (s : State), ∃ (now t : Nat), s.quiet ∧ t < s.variant.tiles ∧ ∃ tag, ∃ (d : DmaRead), (s.tile t).reads.find? (fun r => r.tag == tag) = some d ∧ d.dead = false ∧ d.use = .fetch ∧ (s.ring t d.rx d.ring).work = none ∧ d.issued + d.limit * usU ≤ max s.now now) ∧
    (∃ (s : State), ∃ (t : Nat), s.quiet ∧ t < s.variant.tiles ∧ ∃ rid, ∃ addr, ∃ status, ∃ n, status ≠ 0 ∧ s.cqOwning t rid addr = some n ∧ (s.ringList t).all (fun e => !(e.2.2.st == 1 && setCq e.2.2.active == n)) = true) ∧
    (∃ (s : State), ∃ (t : Nat), s.quiet ∧ t < s.variant.tiles ∧ ∃ rid, ∃ addr, ∃ status, ∃ rx, ∃ n, ∃ (r : Ring), status ≠ 0 ∧ s.cqOwning t rid addr = none ∧ s.ringList t = [(rx, n, r)] ∧ r.st = 1 ∧ setRid r.active = rid ∧ r.work = none) ∧
    (∃ (s : State), ∃ (t : Nat), s.quiet ∧ t < s.variant.tiles) ∧
    (∃ (s : State), ∃ (now t : Nat), s.quiet ∧ t < s.variant.tiles ∧ ∃ i, (s.tile t).memLowFrom = some i ∧ (s.tile t).memWaiting = true ∧ i + msU < max s.now now) := by
  refine ⟨⟨(tl ((up).modRing 0 false 5 (fun x => { x with st := 1, work := some ({ kind := .frame, descs := [(0, desc 100 0)], gen := 0, cq := 0, moved := 0 } : Work) })) 0 (fun x => { x with reads := [(⟨3, false, 5, .data, 0, 4, 0, 0, false⟩ : DmaRead)] })), 0, ⟨?_, ?_⟩, ?_, 3, (⟨3, false, 5, .data, 0, 4, 0, 0, false⟩ : DmaRead), ({ kind := .frame, descs := [(0, desc 100 0)], gen := 0, cq := 0, moved := 0 } : Work), ([1, 2, 3, 4] : Bytes), ?_, ?_, ?_, ?_, ?_⟩,
    ⟨(tl ((up).modRing 0 false 5 (fun x => { x with st := 1 })) 0 (fun x => { x with reads := [(⟨3, false, 5, .fetch, 0, 4, 0, 0, false⟩ : DmaRead)] })), 9, 0, ⟨?_, ?_⟩, ?_, 3, (⟨3, false, 5, .fetch, 0, 4, 0, 0, false⟩ : DmaRead), ?_, ?_, ?_, ?_, ?_⟩,
    ⟨(up.modCq 0 3 (fun x => { x with st := 1 })), 0, ⟨?_, ?_⟩, ?_, 0, 64, 2, 3, ?_, ?_, ?_⟩,
    ⟨((up).modRing 0 false 5 (fun x => { x with st := 1 })), 0, ⟨?_, ?_⟩, ?_, 0, 64, 2, false, 5, ({ st := 1 } : Ring), ?_, ?_, ?_, ?_, ?_, ?_⟩,
    ⟨up, 0, ⟨?_, ?_⟩, ?_⟩,
    ⟨(tl up 0 (fun x => { x with memLowFrom := some 0, memWaiting := true })), 2 * msU, 0, ⟨?_, ?_⟩, ?_, 0, ?_, ?_, ?_⟩⟩ <;> decide +kernel

/-- States and operands that meet the hypotheses of `Obligations.RingSteps`. -/
theorem hold_RingSteps :
    (∃ (s : State), ∃ (t : Nat), s.quiet ∧ t < s.variant.tiles ∧ ∃ rx, ∃ n, ∃ tag, n < 2048 ∧ (s.ring t rx n).st = 1 ∧ (s.ring t rx n).abort = false ∧ (s.ring t rx n).backTo = none ∧ (s.ring t rx n).fetching = none ∧ s.canRead t tag = true ∧ 16 ≤ idxDist (s.ring t rx n).tail (s.ring t rx n).fetchAt ∧ (s.ring t rx n).fetchAt % (s.ring t rx n).size % 128 ≤ 112 ∧ (s.ring t rx n).fetchAt % (s.ring t rx n).size + 16 ≤ (s.ring t rx n).size) ∧
    (∃ (s : State), ∃ (t : Nat), s.quiet ∧ t < s.variant.tiles ∧ ∃ rx, ∃ n, n < 2048 ∧ (s.ring t rx n).st = 1 ∧ (s.ring t rx n).abort = true ∧ (s.ring t rx n).work = none ∧ (s.ring t rx n).resetHeld = false) ∧
    (∃ (s : State), ∃ (now t : Nat), s.quiet ∧ t < s.variant.tiles ∧ ∃ rx, ∃ n, n < 2048 ∧ (s.ring t rx n).armed = true ∧ (s.ring t rx n).armedAt < max s.now now ∧ (s.ring t rx n).work = none ∧ (s.ring t rx n).st ≠ 2 ∧ s.workOf t rx n (s.ring t rx n) = none) ∧
    (∃ (s : State), ∃ (now t : Nat), s.quiet ∧ t < s.variant.tiles ∧ ∃ q, q < 1024 ∧ (s.cq t q).st = 1 ∧ (s.cq t q).intEn = true ∧ (s.cq t q).owed = true ∧ (s.at now).cqQuiet (s.cq t q) = true) := by
  refine ⟨⟨(tl ((up).modRing 0 true 5 (fun x => { x with st := 1, tail := 20 })) 0 (fun x => { x with hdMemRdy := true })), 0, ⟨?_, ?_⟩, ?_, true, 5, 7, ?_, ?_, ?_, ?_, ?_, ?_, ?_, ?_, ?_⟩,
    ⟨((up).modRing 0 true 5 (fun x => { x with st := 1, abort := true, head := 3 })), 0, ⟨?_, ?_⟩, ?_, true, 5, ?_, ?_, ?_, ?_, ?_⟩,
    ⟨((up).modRing 0 true 5 (fun x => { x with armed := true, shadowGen := 2 })), 1, 0, ⟨?_, ?_⟩, ?_, true, 5, ?_, ?_, ?_, ?_, ?_, ?_⟩,
    ⟨(up.modCq 0 3 (fun x => { x with st := 1, owed := true, cfg := 1024 * 2 ^ 64 + 2 ^ 112 })), 0, 0, ⟨?_, ?_⟩, ?_, 3, ?_, ?_, ?_, ?_, ?_⟩⟩ <;> decide +kernel

/-- States and operands that meet the hypotheses of `Obligations.EngineSteps`. -/
theorem hold_EngineSteps :
    (∃ (s : State), ∃ (t : Nat), s.quiet ∧ t < s.variant.tiles ∧ ∃ e, ∃ (x : Turn), ∃ n, ∃ i, ∃ d, ∃ rest, e < 16 ∧ s.dmaOn t = true ∧ s.engineTurn t e = some (x, n) ∧ x.rx = false ∧ s.mayBegin t e x = true ∧ (s.ring t false x.ring).armed = false ∧ (s.ring t false x.ring).backTo = none ∧ (s.ring t false x.ring).fetched = (i, d) :: rest ∧ descKind d = 2) ∧
    (∃ (s : State), ∃ (t : Nat), s.quiet ∧ t < s.variant.tiles ∧ ∃ ring, ∃ n, ∃ (x : Turn), ∃ fid, ∃ h, ∃ rest, ∃ (c : Copy), ∃ f, ∃ a, ∃ len, ∃ l, ring < 2048 ∧ s.dmaOn t = true ∧ s.engineTurn t (s.ring t true ring).engine = some (x, n) ∧ x.rx = true ∧ x.ring = ring ∧ s.mayBegin t (s.ring t true ring).engine x = true ∧ (s.tile t).hdMemRdy = true ∧ (s.ring t true ring).armed = false ∧ tget [] s.ringQueues (2048 * t + ring) = (fid, h) :: rest ∧ s.copy fid h = some c ∧ s.frame fid = some f ∧ nextPart (s.ring t true ring) { kind := .deliver, descs := [], gen := (s.ring t true ring).activeGen, cq := setCq (s.ring t true ring).active, fid := fid, h := h } (c.bytes f).length c.complete = some (a, len, l)) ∧
    (∃ (s : State), ∃ (t : Nat), s.quiet ∧ t < s.variant.tiles ∧ ∃ ring, ∃ (w : Work), ∃ len, ∃ data, ring < 2048 ∧ (s.ring t false ring).work = some w ∧ w.kind = .frame ∧ w.burst = some len ∧ w.got = some data ∧ w.stop = 0 ∧ partsLen w.descs ≤ w.moved + data.length) ∧
    (∃ (s : State), ∃ (t : Nat), s.quiet ∧ t < s.variant.tiles ∧ ∃ ring, ∃ fid, ∃ (w : Work), ring < 2048 ∧ (s.ring t false ring).work = some w ∧ (s.ring t false ring).st = 1 ∧ (s.ring t false ring).backTo = none ∧ w.kind = .frame ∧ partsLen w.descs ≤ w.moved ∧ w.burst = none ∧ s.pipeOn t ((s.ring t false ring).engine / 8) = true ∧ s.fresh fid = true ∧ (s.policer t (w.hostMeta (s.ring t false ring).active).fence).bad = false ∧ (s.policer t (w.hostMeta (s.ring t false ring).active).fence).kind = 1 ∧ (s.policer t (w.hostMeta (s.ring t false ring).active).fence).tc ≤ ((s.policer t (w.hostMeta (s.ring t false ring).active).fence).cbs * 8000 : Nat) ∧ (((s.policer t (w.hostMeta (s.ring t false ring).active).fence).meter (max 64 (w.buf.length + 4)) * 8000 : Nat) : Int) ≤ (s.policer t (w.hostMeta (s.ring t false ring).active).fence).tc) ∧
    (∃ (s : State), ∃ (t : Nat), s.quiet ∧ t < s.variant.tiles ∧ ∃ rx, ∃ n, ∃ (d : DmaRead), ∃ (w : Work), ∃ (due : DueRec), n < 2048 ∧ (s.tile t).reads.find? (fun r => r.use == .readback && r.rx == rx && r.ring == n && !r.dead) = some d ∧ (s.tile t).reads.find? (fun r => r.tag == d.tag) = some d ∧ d.len = 1 ∧ (s.ring t rx n).work = some w ∧ w.due = some due ∧ (s.ring t rx n).backTo = none) := by
  refine ⟨⟨((up).modRing 0 false 5 (fun x => { x with st := 1, tail := 1, fetched := [(0, desc 0 128)] })), 0, ⟨?_, ?_⟩, ?_, 0, (⟨false, 5, 0, 0, 512, 5⟩ : Turn), 1, 0, desc 0 128, [], ?_, ?_, ?_, ?_, ?_, ?_, ?_, ?_, ?_⟩,
    ⟨({ (hold (tl ((up).modRing 0 true 5 (fun x => { x with st := 1, tail := 8, fetched := [(0, desc 0 0)] })) 0 (fun x => { x with hdMemRdy := true })) 4 (fr 0 100) { dst := .ring 0 5, place := .queued, complete := true }) with ringQueues := [(5, [(4, 0)])] } : State), 0, ⟨?_, ?_⟩, ?_, 5, 1, (⟨true, 5, 100, 0, 512, 2053⟩ : Turn), 4, 0, [], ({ dst := .ring 0 5, place := .queued, complete := true } : Copy), fr 0 100, 4096, 100, [(0, desc 0 0)], ?_, ?_, ?_, ?_, ?_, ?_, ?_, ?_, ?_, ?_, ?_, ?_⟩,
    ⟨((up).modRing 0 false 5 (fun x => { x with st := 1, work := some ({ kind := .frame, descs := [(0, desc 100 0)], gen := 0, cq := 0, moved := 0, burst := some 100, got := some (List.replicate 100 1) } : Work) })), 0, ⟨?_, ?_⟩, ?_, 5, ({ kind := .frame, descs := [(0, desc 100 0)], gen := 0, cq := 0, moved := 0, burst := some 100, got := some (List.replicate 100 1) } : Work), 100, List.replicate 100 1, ?_, ?_, ?_, ?_, ?_, ?_, ?_⟩,
    ⟨((up).modRing 0 false 5 (fun x => { x with st := 1, work := some ({ kind := .frame, descs := [(0, desc 100 0)], gen := 0, cq := 0, moved := 100, buf := List.replicate 100 1 } : Work) })), 0, ⟨?_, ?_⟩, ?_, 5, 7, ({ kind := .frame, descs := [(0, desc 100 0)], gen := 0, cq := 0, moved := 100, buf := List.replicate 100 1 } : Work), ?_, ?_, ?_, ?_, ?_, ?_, ?_, ?_, ?_, ?_, ?_, ?_, ?_⟩,
    ⟨(tl ((up).modRing 0 false 5 (fun x => { x with st := 1, work := some ({ kind := .frame, descs := [(0, desc 100 0)], gen := 0, cq := 0, moved := 100, due := some ⟨0, List.replicate 32 0⟩ } : Work) })) 0 (fun x => { x with reads := [(⟨3, false, 5, .readback, 0, 1, 0, 0, false⟩ : DmaRead)] })), 0, ⟨?_, ?_⟩, ?_, false, 5, (⟨3, false, 5, .readback, 0, 1, 0, 0, false⟩ : DmaRead), ({ kind := .frame, descs := [(0, desc 100 0)], gen := 0, cq := 0, moved := 100, due := some ⟨0, List.replicate 32 0⟩ } : Work), (⟨0, List.replicate 32 0⟩ : DueRec), ?_, ?_, ?_, ?_, ?_, ?_, ?_⟩⟩ <;> decide +kernel

/-- States and operands that meet the hypotheses of `Obligations.RingControl`. -/
theorem hold_RingControl :
    (∃ (s : State), ∃ (now t : Nat), ∃ (n : Nat), ∃ (rx : Bool), ∃ (r : Requester), s.quiet ∧ t < s.variant.tiles ∧ s.selRing r t = (rx, n) ∧ s.accepts now r (O.RING_CTL t) [1] = true ∧ (s.ring t rx n).st = 0) ∧
    (∃ (s : State), ∃ (now t : Nat), ∃ (n : Nat), ∃ (rx : Bool), ∃ (r : Requester), s.quiet ∧ t < s.variant.tiles ∧ s.selRing r t = (rx, n) ∧ s.passes now r (O.RING_CTL t) [1] = true ∧ (s.anyWriteConflict (O.RING_CTL t)).1 = 0 ∧ ((s.ring t rx n).st = 2 ∨ (s.ring t rx n).st = 0 ∧ (s.cq t (setCq (s.ring t rx n).active)).st ≠ 1)) ∧
    (∃ (s : State), ∃ (now t : Nat), ∃ (n : Nat), ∃ (rx : Bool), ∃ (r : Requester), s.quiet ∧ t < s.variant.tiles ∧ s.selRing r t = (rx, n) ∧ s.accepts now r (O.RING_CTL t) [2] = true ∧ (s.ring t rx n).st = 1 ∧ (s.ring t rx n).abort = false ∧ (s.ring t rx n).work = none) ∧
    (∃ (s : State), ∃ (now t : Nat), ∃ (n : Nat), ∃ (rx : Bool), ∃ (r : Requester), s.quiet ∧ t < s.variant.tiles ∧ s.selRing r t = (rx, n) ∧ s.accepts now r (O.RING_CTL t) [3] = true ∧ (s.ring t rx n).st ≠ 1 ∧ (rx = true → tget [] s.ringQueues (2048 * t + n) = [])) ∧
    (∃ (s : State), ∃ (now t : Nat), ∃ (n : Nat), ∃ (rx : Bool), ∃ (r : Requester), s.quiet ∧ t < s.variant.tiles ∧ s.selRing r t = (rx, n) ∧ s.accepts now r (O.RING_CTL t) [3] = true ∧ (s.ring t rx n).st = 1 ∧ (s.ring t rx n).abort = false ∧ (s.ring t rx n).work = none) ∧
    (∃ (s : State), ∃ (now t : Nat), ∃ (n : Nat), ∃ (rx : Bool), ∃ (r : Requester), s.quiet ∧ t < s.variant.tiles ∧ s.selRing r t = (rx, n) ∧ s.accepts now r (O.RING_ARM t) [1] = true) ∧
    (∃ (s : State), ∃ (now t : Nat), ∃ (n : Nat), ∃ (rx : Bool), ∃ (r : Requester), s.quiet ∧ t < s.variant.tiles ∧ s.selRing r t = (rx, n) ∧ s.accepts now r (O.CQ_CTL t) [1] = true ∧ (s.cq t (s.selCq r t)).st = 0) ∧
    (∃ (s : State), ∃ (now t : Nat), ∃ (n : Nat), ∃ (rx : Bool), ∃ (r : Requester), s.quiet ∧ t < s.variant.tiles ∧ s.selRing r t = (rx, n) ∧ s.accepts now r (O.CQ_CTL t) [2] = true) := by
  refine ⟨⟨(((up.modCq 0 0 (fun x => { x with st := 1 }))).modRing 0 false 0 (fun x => { x with cfg := 64 * 2 ^ 64, head := 3 })), 0, 0, 0, false, m0, ⟨?_, ?_⟩, ?_, ?_, ?_, ?_⟩,
    ⟨(((up.modCq 0 0 (fun x => { x with st := 1 }))).modRing 0 false 0 (fun x => { x with cfg := 64 * 2 ^ 64, st := 2 })), 0, 0, 0, false, m0, ⟨?_, ?_⟩, ?_, ?_, ?_, ?_, ?_⟩,
    ⟨(((up.modCq 0 0 (fun x => { x with st := 1 }))).modRing 0 false 0 (fun x => { x with cfg := 64 * 2 ^ 64, st := 1, head := 3, tail := 9 })), 0, 0, 0, false, m0, ⟨?_, ?_⟩, ?_, ?_, ?_, ?_, ?_, ?_⟩,
    ⟨(((up.modCq 0 0 (fun x => { x with st := 1 }))).modRing 0 false 0 (fun x => { x with cfg := 64 * 2 ^ 64, st := 2, head := 3, tail := 9 })), 0, 0, 0, false, m0, ⟨?_, ?_⟩, ?_, ?_, ?_, ?_, fun h => absurd h (by decide)⟩,
    ⟨(((up.modCq 0 0 (fun x => { x with st := 1 }))).modRing 0 false 0 (fun x => { x with cfg := 64 * 2 ^ 64, st := 1, head := 3, tail := 9 })), 0, 0, 0, false, m0, ⟨?_, ?_⟩, ?_, ?_, ?_, ?_, ?_, ?_⟩,
    ⟨(((up.modCq 0 0 (fun x => { x with st := 1 }))).modRing 0 false 0 (fun x => { x with cfg := 64 * 2 ^ 64, st := 1 })), 0, 0, 0, false, m0, ⟨?_, ?_⟩, ?_, ?_, ?_⟩,
    ⟨up, 0, 0, 0, false, m0, ⟨?_, ?_⟩, ?_, ?_, ?_, ?_⟩,
    ⟨(up.modCq 0 0 (fun x => { x with st := 1 })), 0, 0, 0, false, m0, ⟨?_, ?_⟩, ?_, ?_, ?_⟩⟩ <;> decide +kernel

/-- States and operands that meet the hypotheses of `Obligations.WindowAccess`. -/
theorem hold_WindowAccess :
    (∃ (s : State), ∃ (t off : Nat), s.quiet ∧ t < s.variant.tiles ∧ off < 65536 ∧ s.up t = false) ∧
    (∃ (s : State), ∃ (t off : Nat), ∃ (size : Nat), s.quiet ∧ t < s.variant.tiles ∧ off < 65536 ∧ s.up t = true ∧ s.asleep = false ∧ winLegal off size = false) ∧
    (∃ (s : State), ∃ (t off : Nat), ∃ (size : Nat), s.quiet ∧ t < s.variant.tiles ∧ off < 65536 ∧ s.up t = true ∧ s.asleep = false ∧ winLegal off size = true ∧ 0x600 ≤ off ∧ off < 0x800 ∧ (s.tile t).win.busy = false) ∧
    (∃ (s : State), ∃ (t off : Nat), ∃ (size : Nat), s.quiet ∧ t < s.variant.tiles ∧ off < 65536 ∧ s.up t = true ∧ s.asleep = false ∧ winLegal off size = false) ∧
    (∃ (s : State), ∃ (t off : Nat), ∃ (size : Nat), s.quiet ∧ t < s.variant.tiles ∧ off < 65536 ∧ s.up t = true ∧ s.asleep = false ∧ winLegal off size = true ∧ 0x8000 ≤ off) := by
  refine ⟨⟨low, 0, 0x600, ⟨?_, ?_⟩, ?_, ?_, ?_⟩,
    ⟨up, 0, 0x601, 8, ⟨?_, ?_⟩, ?_, ?_, ?_, ?_, ?_⟩,
    ⟨up, 0, 0x600, 8, ⟨?_, ?_⟩, ?_, ?_, ?_, ?_, ?_, ?_, ?_, ?_⟩,
    ⟨up, 0, 0x602, 4, ⟨?_, ?_⟩, ?_, ?_, ?_, ?_, ?_⟩,
    ⟨up, 0, 0x8000, 8, ⟨?_, ?_⟩, ?_, ?_, ?_, ?_, ?_, ?_⟩⟩ <;> decide +kernel

/-- States and operands that meet the hypotheses of `Obligations.Doorbells`. -/
theorem hold_Doorbells :
    (∃ (s : State), ∃ (t : Nat), ∃ (rx : Bool), ∃ (n tail : Nat), s.quiet ∧ t < s.variant.tiles ∧ n < 2048 ∧ tail < 65536 ∧ s.up t = true ∧ (s.ring t rx n).st = 1 ∧ idxDist (s.ring t rx n).tail (s.ring t rx n).head ≤ idxDist tail (s.ring t rx n).head ∧ idxDist tail (s.ring t rx n).head ≤ (s.ring t rx n).size) ∧
    (∃ (s : State), ∃ (t : Nat), ∃ (rx : Bool), ∃ (n tail : Nat), s.quiet ∧ t < s.variant.tiles ∧ n < 2048 ∧ tail < 65536 ∧ s.up t = true ∧ (s.ring t rx n).st = 1 ∧ idxDist tail (s.ring t rx n).head < idxDist (s.ring t rx n).tail (s.ring t rx n).head) ∧
    (∃ (s : State), ∃ (t : Nat), ∃ (rx : Bool), ∃ (n tail : Nat), s.quiet ∧ t < s.variant.tiles ∧ n < 2048 ∧ tail < 65536 ∧ s.up t = true ∧ (s.ring t rx n).st = 1 ∧ idxDist tail (s.ring t rx n).head ≤ idxDist (s.ring t rx n).tail (s.ring t rx n).head ∧ (s.ring t rx n).work = none) ∧
    (∃ (s : State), ∃ (t : Nat), ∃ (rx : Bool), ∃ (n tail : Nat), s.quiet ∧ t < s.variant.tiles ∧ n < 2048 ∧ tail < 65536 ∧ s.up t = true ∧ (s.ring t rx n).st ≠ 1) ∧
    (∃ (s : State), ∃ (t : Nat), ∃ (rx : Bool), ∃ (n tail : Nat), s.quiet ∧ t < s.variant.tiles ∧ n < 2048 ∧ tail < 65536 ∧ s.up t = true ∧ (s.ring t rx n).st ≠ 1) := by
  refine ⟨⟨(((up.modCq 0 0 (fun x => { x with st := 1 }))).modRing 0 false 0 (fun x => { x with cfg := 64 * 2 ^ 64, st := 1, head := 65530, tail := 65534 })), 0, false, 0, 6, ⟨?_, ?_⟩, ?_, ?_, ?_, ?_, ?_, ?_, ?_⟩,
    ⟨(((up.modCq 0 0 (fun x => { x with st := 1 }))).modRing 0 false 0 (fun x => { x with cfg := 64 * 2 ^ 64, st := 1, head := 3, tail := 9 })), 0, false, 0, 5, ⟨?_, ?_⟩, ?_, ?_, ?_, ?_, ?_, ?_⟩,
    ⟨(((up.modCq 0 0 (fun x => { x with st := 1 }))).modRing 0 false 0 (fun x => { x with cfg := 64 * 2 ^ 64, st := 1, head := 3, tail := 9 })), 0, false, 0, 5, ⟨?_, ?_⟩, ?_, ?_, ?_, ?_, ?_, ?_, ?_⟩,
    ⟨(((up.modCq 0 0 (fun x => { x with st := 1 }))).modRing 0 false 0 (fun x => { x with cfg := 64 * 2 ^ 64 })), 0, false, 0, 5, ⟨?_, ?_⟩, ?_, ?_, ?_, ?_, ?_⟩,
    ⟨(((up.modCq 0 0 (fun x => { x with st := 1 }))).modRing 0 false 0 (fun x => { x with cfg := 64 * 2 ^ 64 })), 0, false, 0, 5, ⟨?_, ?_⟩, ?_, ?_, ?_, ?_, ?_⟩⟩ <;> decide +kernel

/-- States and operands that meet the hypotheses of `Obligations.WindowBlocks`. -/
theorem hold_WindowBlocks :
    (∃ (s : State), ∃ (t : Nat), s.quiet ∧ t < s.variant.tiles ∧ s.up t = true ∧ (s.tile t).win.tsBusy = false) ∧
    (∃ (s : State), ∃ (t : Nat), s.quiet ∧ t < s.variant.tiles ∧ (s.tile t).win.tsBusy = true) ∧
    (∃ (s : State), ∃ (t : Nat), s.quiet ∧ t < s.variant.tiles ∧ s.up t = true) ∧
    (∃ (s : State), ∃ (t : Nat), s.quiet ∧ t < s.variant.tiles ∧ s.up t = true ∧ (s.tile t).win.csBusy = false) ∧
    (∃ (s : State), ∃ (t : Nat), s.quiet ∧ t < s.variant.tiles ∧ ∃ src, src < 18 ∧ s.up t = true ∧ (s.tile t).win.csBusy = false) ∧
    (∃ (s : State), ∃ (t : Nat), s.quiet ∧ t < s.variant.tiles ∧ ∃ vals, ∃ flags, ∃ time, ∃ tag, (s.tile t).win.csCap = some (vals, flags, time, tag)) ∧
    (∃ (s : State), ∃ (t : Nat), s.quiet ∧ t < s.variant.tiles ∧ s.up t = true) ∧
    (∃ (s : State), ∃ (t : Nat), s.quiet ∧ t < s.variant.tiles ∧ ∃ k, ∃ fid, ∃ ts, ∃ tag, ∃ rest, k < 18 ∧ s.up t = true ∧ s.asleep = false ∧ s.insideWide (18 * t + k) = false ∧ (tget {} s.tsqs (18 * t + k)).entries = (fid, ts, tag) :: rest) ∧
    (∃ (s : State), ∃ (t : Nat), s.quiet ∧ t < s.variant.tiles ∧ ∃ (x : Response), s.nextResponse (fun r => r == .mailbox t) = some (.mailbox t, x) ∧ s.up t = true ∧ (∀ y ∈ s.afterResponse, y.1 ≠ .mailbox t)) ∧
    (∃ (s : State), ∃ (t : Nat), s.quiet ∧ t < s.variant.tiles ∧ s.up t = true) ∧
    (∃ (s : State), ∃ (now t : Nat), s.quiet ∧ t < s.variant.tiles ∧ s.pd t 49 = true ∧ s.up t = true ∧ (s.at now).tbBoundary t = true) := by
  refine ⟨⟨up, 0, ⟨?_, ?_⟩, ?_, ?_, ?_⟩,
    ⟨(tl up 0 (fun x => { x with win := { x.win with tsBusy := true } })), 0, ⟨?_, ?_⟩, ?_, ?_⟩,
    ⟨up, 0, ⟨?_, ?_⟩, ?_, ?_⟩,
    ⟨up, 0, ⟨?_, ?_⟩, ?_, ?_, ?_⟩,
    ⟨up, 0, ⟨?_, ?_⟩, ?_, 0, ?_, ?_, ?_⟩,
    ⟨(tl up 0 (fun x => { x with win := { x.win with csCap := some ([1, 2], 3, 4, 5) } })), 0, ⟨?_, ?_⟩, ?_, [1, 2], 3, 4, 5, ?_⟩,
    ⟨up, 0, ⟨?_, ?_⟩, ?_, ?_⟩,
    ⟨{ up with tsqs := [(0, { entries := [(1, 2, 3)] })] }, 0, ⟨?_, ?_⟩, ?_, 0, 1, 2, 3, [], ?_, ?_, ?_, ?_, ?_⟩,
    ⟨{ up with responses := [(m0, ⟨0, 0, []⟩)] }, 0, ⟨?_, ?_⟩, ?_, (⟨0, 0, []⟩ : Response), ?_, ?_, ?_⟩,
    ⟨up, 0, ⟨?_, ?_⟩, ?_, ?_⟩,
    ⟨up, 0, 0, ⟨?_, ?_⟩, ?_, ?_, ?_, ?_⟩⟩ <;> decide +kernel

/-- States and operands that meet the hypotheses of `Obligations.DictionaryReads`. -/
theorem hold_DictionaryReads :
    (∃ (s : State), ∃ (now : Nat), ∃ (r : Requester), ∃ (idx sub : Nat), s.quiet ∧ idx < 65536 ∧ sub < 256 ∧ s.reaches now ⟨r, 0, 0, 0, [], false, 0⟩ = true) ∧
    (∃ (s : State), ∃ (now : Nat), ∃ (r : Requester), ∃ (idx sub : Nat), s.quiet ∧ idx < 65536 ∧ sub < 256 ∧ s.reaches now ⟨r, 1, idx, sub, [], false, 0⟩ = true ∧ (s.askedAt now r).readCheck r (256 * idx + sub) = 0 ∧ ∃ row, rowAt s.variant (256 * idx + sub) = some row) ∧
    (∃ (s : State), ∃ (now : Nat), ∃ (r : Requester), ∃ (idx sub : Nat), s.quiet ∧ idx < 65536 ∧ sub < 256 ∧ ∃ t, t < s.variant.tiles ∧ 256 * idx + sub = O.AFI_STALL_LIMIT t ∧ s.reaches now ⟨r, 1, idx, sub, [], false, 0⟩ = true ∧ (s.at now).openFor r 1 = true ∧ (s.at now).up t = true) ∧
    (∃ (s : State), ∃ (now : Nat), ∃ (r : Requester), ∃ (idx sub : Nat), s.quiet ∧ idx < 65536 ∧ sub < 256 ∧ s.reaches now ⟨r, 1, idx, sub, [], false, 0⟩ = true ∧ (s.askedAt now r).readCheck r (256 * idx + sub) ≠ 0) ∧
    (∃ (s : State), ∃ (now : Nat), ∃ (r : Requester), ∃ (idx sub : Nat), s.quiet ∧ idx < 65536 ∧ sub < 256 ∧ s.reaches now ⟨r, 3, idx, sub, [1], false, 0⟩ = true ∧ (s.askedAt now r).readCheck r (256 * idx + sub) = 0 ∧ ∃ row, rowAt s.variant (256 * idx + sub) = some row ∧ row.size ≤ 511) ∧
    (∃ (s : State), ∃ (now : Nat), ∃ (r : Requester), ∃ (idx sub : Nat), s.quiet ∧ idx < 65536 ∧ sub < 256 ∧ s.reaches now ⟨r, 3, idx, sub, [0], false, 0⟩ = true) ∧
    (∃ (s : State), ∃ (now : Nat), ∃ (r : Requester), ∃ (idx sub : Nat), s.quiet ∧ idx < 65536 ∧ sub < 256 ∧ s.reaches now ⟨r, 4, idx, sub, [], false, 0⟩ = true ∧ (s.at now).up (ownerTile s.variant (256 * idx + sub)) = true ∧ ∃ row, rowAt s.variant (256 * idx + sub) = some row) := by
  refine ⟨⟨up, 0, m0, 0, 0, ⟨?_, ?_⟩, ?_, ?_, ?_⟩,
    ⟨up, 0, m0, (keyIndex (O.AFI_STALL_LIMIT 0)), (keySub (O.AFI_STALL_LIMIT 0)), ⟨?_, ?_⟩, ?_, ?_, ?_, ?_, stallRow, ?_⟩,
    ⟨up, 0, m0, (keyIndex (O.AFI_STALL_LIMIT 0)), (keySub (O.AFI_STALL_LIMIT 0)), ⟨?_, ?_⟩, ?_, ?_, 0, ?_, ?_, ?_, ?_, ?_⟩,
    ⟨up, 0, m0, 0xFFFF, 1, ⟨?_, ?_⟩, ?_, ?_, ?_, ?_⟩,
    ⟨up, 0, m0, (keyIndex (O.AFI_STALL_LIMIT 0)), (keySub (O.AFI_STALL_LIMIT 0)), ⟨?_, ?_⟩, ?_, ?_, ?_, ?_, stallRow, ?_, ?_⟩,
    ⟨up, 0, m0, (keyIndex (O.AFI_STALL_LIMIT 0)), (keySub (O.AFI_STALL_LIMIT 0)), ⟨?_, ?_⟩, ?_, ?_, ?_⟩,
    ⟨up, 0, m0, (keyIndex (O.AFI_STALL_LIMIT 0)), (keySub (O.AFI_STALL_LIMIT 0)), ⟨?_, ?_⟩, ?_, ?_, ?_, ?_, stallRow, ?_⟩⟩ <;> decide +kernel

/-- States and operands that meet the hypotheses of `Obligations.DictionaryWrites`. -/
theorem hold_DictionaryWrites :
    (∃ (s : State), ∃ (now : Nat), ∃ (r : Requester), ∃ (idx sub : Nat), ∃ (data : Bytes), s.quiet ∧ idx < 65536 ∧ sub < 256 ∧ s.reaches now ⟨r, 2, idx, sub, data, false, 0⟩ = true ∧ (s.askedAt now r).writeCheck r (256 * idx + sub) data ≠ 0) ∧
    (∃ (s : State), ∃ (now : Nat), ∃ (r : Requester), ∃ (idx sub : Nat), ∃ (data : Bytes), s.quiet ∧ idx < 65536 ∧ sub < 256 ∧ ∃ t, t < s.variant.tiles ∧ 256 * idx + sub = O.AFI_STALL_LIMIT t ∧ s.accepts now r (O.AFI_STALL_LIMIT t) data = true) ∧
    (∃ (s : State), ∃ (now : Nat), ∃ (r : Requester), ∃ (idx sub : Nat), ∃ (data : Bytes), s.quiet ∧ idx < 65536 ∧ sub < 256 ∧ ∃ p, p < s.variant.ports ∧ 256 * idx + sub = O.FEC_MODE p ∧ s.accepts now r (O.FEC_MODE p) data = true) ∧
    (∃ (s : State), ∃ (now : Nat), ∃ (r : Requester), ∃ (idx sub : Nat), ∃ (data : Bytes), s.quiet ∧ idx < 65536 ∧ sub < 256 ∧ ∃ t, ∃ (g : Group), t < s.variant.tiles ∧ 256 * idx + sub = O.AFI_STALL_LIMIT t ∧ s.reaches now ⟨r, 2, idx, sub, data, false, 0⟩ = true ∧ (s.askedAt now r).stagesElsewhere r none false = false ∧ (s.askedAt now r).writeCheck r (O.AFI_STALL_LIMIT t) data = 0 ∧ (s.askedAt now r).openGroup r = some g ∧ g.writes = []) ∧
    (∃ (s : State), ∃ (now : Nat), ∃ (r : Requester), ∃ (idx sub : Nat), ∃ (data : Bytes), s.quiet ∧ idx < 65536 ∧ sub < 256 ∧ ∃ t, ∃ (g : Group), t < s.variant.tiles ∧ 256 * idx + sub = O.AFI_STALL_LIMIT t ∧ s.reaches now ⟨r, 2, idx, sub, data, false, 0⟩ = true ∧ (s.askedAt now r).stagesElsewhere r none false = false ∧ (s.askedAt now r).writeCheck r (O.AFI_STALL_LIMIT t) data = 0 ∧ (s.askedAt now r).openGroup r = none ∧ (s.askedAt now r).groups = [g] ∧ g.holds (O.AFI_STALL_LIMIT t) = true) := by
  refine ⟨⟨up, 0, m0, 0xFFFF, 1, [1, 2, 0, 0], ⟨?_, ?_⟩, ?_, ?_, ?_, ?_⟩,
    ⟨({ up with groups := [(⟨.mailbox 1, [⟨O.AFI_STALL_LIMIT 0, [1, 2, 0, 0], false⟩], 0, none, [], []⟩ : Group)] } : State), 0, m0, (keyIndex (O.AFI_STALL_LIMIT 0)), (keySub (O.AFI_STALL_LIMIT 0)), [1, 2, 0, 0], ⟨?_, ?_⟩, ?_, ?_, 0, ?_, ?_, ?_⟩,
    ⟨up, 0, m0, (keyIndex (O.FEC_MODE 1)), (keySub (O.FEC_MODE 1)), [2], ⟨?_, ?_⟩, ?_, ?_, 1, ?_, ?_, ?_⟩,
    ⟨({ up with groups := [(⟨m0, [], 0, none, [], []⟩ : Group)] } : State), 0, m0, (keyIndex (O.AFI_STALL_LIMIT 0)), (keySub (O.AFI_STALL_LIMIT 0)), [1, 2, 0, 0], ⟨?_, ?_⟩, ?_, ?_, 0, (⟨m0, [], 0, none, [], []⟩ : Group), ?_, ?_, ?_, ?_, ?_, ?_, ?_⟩,
    ⟨({ up with groups := [(⟨.mailbox 1, [⟨O.AFI_STALL_LIMIT 0, [1, 2, 0, 0], false⟩], 0, some (9 * msU), [0, 1], []⟩ : Group)] } : State), 0, m0, (keyIndex (O.AFI_STALL_LIMIT 0)), (keySub (O.AFI_STALL_LIMIT 0)), [1, 2, 0, 0], ⟨?_, ?_⟩, ?_, ?_, 0, (⟨.mailbox 1, [⟨O.AFI_STALL_LIMIT 0, [1, 2, 0, 0], false⟩], 0, some (9 * msU), [0, 1], []⟩ : Group), ?_, ?_, ?_, ?_, ?_, ?_, ?_, ?_⟩⟩ <;> decide +kernel

/-- States and operands that meet the hypotheses of `Obligations.AtomicGroups`. -/
theorem hold_AtomicGroups :
    (∃ (s : State), ∃ (now : Nat), ∃ (r : Requester), s.quiet ∧ s.reaches now ⟨r, 0x10, 0, 0, [], false, 0⟩ = true ∧ (s.askedAt now r).openFor r 2 = true ∧ (s.askedAt now r).openGroup r = none ∧ (s.askedAt now r).stagesElsewhere r none false = false) ∧
    (∃ (s : State), ∃ (now : Nat), ∃ (r : Requester), s.quiet ∧ s.reaches now ⟨r, 0x12, 0, 0, [], false, 0⟩ = true ∧ (s.askedAt now r).openFor r 2 = true ∧ (s.askedAt now r).openGroup r ≠ none) ∧
    (∃ (s : State), ∃ (now : Nat), ∃ (r : Requester), s.quiet ∧ ∃ t, ∃ (g : Group), ∃ data, t < s.variant.tiles ∧ s.reaches now ⟨r, 0x11, 0, 0, [], false, 0⟩ = true ∧ (s.askedAt now r).openFor r 2 = true ∧ (s.askedAt now r).openGroup r = some g ∧ g.writes = [⟨O.AFI_STALL_LIMIT t, data, false⟩] ∧ (s.askedAt now r).groupJudge r g.writes = (0, 0, none)) ∧
    (∃ (s : State), ∃ (now : Nat), ∃ (r : Requester), s.quiet ∧ ∃ (g : Group), ∃ (w : StagedWrite), s.reaches now ⟨r, 0x11, 0, 0, [], false, 0⟩ = true ∧ (s.askedAt now r).openFor r 2 = true ∧ (s.askedAt now r).openGroup r = some g ∧ (s.askedAt now r).groupJudge r g.writes = (0x0F, 0, some w)) ∧
    (∃ (s : State), ∃ (now : Nat), ∃ (r : Requester), s.quiet ∧ ∃ (g : Group), s.reaches now ⟨r, 0x11, 0, 0, [], false, 0⟩ = true ∧ (s.askedAt now r).openFor r 2 = true ∧ (s.askedAt now r).openGroup r = some g ∧ (s.askedAt now r).groupJudge r g.writes = (0, 0, none) ∧ 2 ≤ ((s.askedAt now r).groupTiles g.writes).length) ∧
    (∃ (s : State), ∃ (now : Nat), s.quiet ∧ ∃ t, ∃ (g : Group), ∃ i, ∃ data, t < s.variant.tiles ∧ s.groups = [g] ∧ g.applyAt = some i ∧ i ≤ (s.at now).L ∧ g.left = [t] ∧ g.held = [] ∧ (s.at now).up t = true ∧ g.writes = [⟨O.AFI_STALL_LIMIT t, data, false⟩] ∧ s.relayIn = []) ∧
    (∃ (s : State), ∃ (now : Nat), ∃ (r : Requester), s.quiet ∧ ∃ (g : Group), hasRoute s.variant r = true ∧ s.openGroup r = some g ∧ g.lastAt + s.obj O.GROUP_IDLE * msU ≤ max s.now now) := by
  refine ⟨⟨up, 0, m0, ⟨?_, ?_⟩, ?_, ?_, ?_, ?_⟩,
    ⟨({ up with groups := [(⟨m0, [], 0, none, [], []⟩ : Group)] } : State), 0, m0, ⟨?_, ?_⟩, ?_, ?_, ?_⟩,
    ⟨({ up with groups := [(⟨m0, [⟨O.AFI_STALL_LIMIT 0, [1, 2, 0, 0], false⟩], 0, none, [], []⟩ : Group)] } : State), 0, m0, ⟨?_, ?_⟩, 0, (⟨m0, [⟨O.AFI_STALL_LIMIT 0, [1, 2, 0, 0], false⟩], 0, none, [], []⟩ : Group), [1, 2, 0, 0], ?_, ?_, ?_, ?_, ?_, ?_⟩,
    ⟨({ up with groups := [(⟨m0, [⟨O.AFI_STALL_LIMIT 0, [1, 2, 0, 0], true⟩], 0, none, [], []⟩ : Group)] } : State), 0, m0, ⟨?_, ?_⟩, (⟨m0, [⟨O.AFI_STALL_LIMIT 0, [1, 2, 0, 0], true⟩], 0, none, [], []⟩ : Group), (⟨O.AFI_STALL_LIMIT 0, [1, 2, 0, 0], true⟩ : StagedWrite), ?_, ?_, ?_, ?_⟩,
    ⟨({ up with groups := [(⟨m0, [⟨O.AFI_STALL_LIMIT 0, [1, 2, 0, 0], false⟩, ⟨O.AFI_STALL_LIMIT 1, [1, 2, 0, 0], false⟩], 0, none, [], []⟩ : Group)] } : State), 0, m0, ⟨?_, ?_⟩, (⟨m0, [⟨O.AFI_STALL_LIMIT 0, [1, 2, 0, 0], false⟩, ⟨O.AFI_STALL_LIMIT 1, [1, 2, 0, 0], false⟩], 0, none, [], []⟩ : Group), ?_, ?_, ?_, ?_, ?_⟩,
    ⟨({ up with groups := [(⟨m0, [⟨O.AFI_STALL_LIMIT 0, [1, 2, 0, 0], false⟩], 0, some 5, [0], []⟩ : Group)] } : State), 9, ⟨?_, ?_⟩, 0, (⟨m0, [⟨O.AFI_STALL_LIMIT 0, [1, 2, 0, 0], false⟩], 0, some 5, [0], []⟩ : Group), 5, [1, 2, 0, 0], ?_, ?_, ?_, ?_, ?_, ?_, ?_, ?_, ?_⟩,
    ⟨({ up with groups := [(⟨m0, [], 0, none, [], []⟩ : Group)] } : State), 9 * secU, m0, ⟨?_, ?_⟩, (⟨m0, [], 0, none, [], []⟩ : Group), ?_, ?_, ?_⟩⟩ <;> decide +kernel

/-- States and operands that meet the hypotheses of `Obligations.WindowKeys`. -/
theorem hold_WindowKeys :
    (∃ (s : State), ∃ (now t : Nat), s.quiet ∧ t < s.variant.tiles ∧ s.reaches now ⟨.mailbox t, 0x20, 0, 0, [], false, 0⟩ = true) ∧
    (∃ (s : State), ∃ (now t : Nat), ∃ (data : Bytes), s.quiet ∧ t < s.variant.tiles ∧ s.reaches now ⟨.mailbox t, 0x21, 0, 0, data, false, 0⟩ = true ∧ byteAt data 0 ≤ 3 ∧ (s.tile t).key.locked = false ∧ s.unlockGood t data = true) ∧
    (∃ (s : State), ∃ (now t : Nat), ∃ (data : Bytes), s.quiet ∧ t < s.variant.tiles ∧ s.reaches now ⟨.mailbox t, 0x21, 0, 0, data, false, 0⟩ = true ∧ byteAt data 0 ≤ 3 ∧ (s.tile t).key.locked = false ∧ s.unlockGood t data = false) ∧
    (∃ (s : State), ∃ (now t : Nat), ∃ (data : Bytes), s.quiet ∧ t < s.variant.tiles ∧ s.reaches now ⟨.mailbox t, 0x21, 0, 0, data, false, 0⟩ = true ∧ byteAt data 0 ≤ 3 ∧ (s.tile t).key.locked = true) ∧
    (∃ (s : State), ∃ (now t : Nat), s.quiet ∧ t < s.variant.tiles ∧ s.reaches now ⟨.mailbox t, 0x22, 0, 0, [], false, 0⟩ = true) ∧
    (∃ (s : State), ∃ (now t : Nat), s.quiet ∧ t < s.variant.tiles ∧ (s.tile t).key.priv = true ∧ (s.tile t).key.privAt + s.obj O.WK_IDLE * secU ≤ max s.now now) ∧
    (∃ (s : State), ∃ (now t : Nat), s.quiet ∧ t < s.variant.tiles ∧ (s.tile t).key.locked = true ∧ (s.tile t).key.lockAt + 10 * secU ≤ max s.now now) ∧
    (∃ (s : State), ∃ (now t : Nat), ∃ (data : Bytes), s.quiet ∧ t < s.variant.tiles ∧ ∃ r, ∃ k, k < 4 ∧ s.accepts now r (O.KEY_WRAPPED k) data = true) := by
  refine ⟨⟨up, 0, 0, ⟨?_, ?_⟩, ?_, ?_⟩,
    ⟨(tl (put up [(O.KEY_ROLE 1, 9)]) 0 (fun x => { x with key := { x.key with nonce := some 77 } })), 0, 0, (1 :: tag8 (List.replicate 16 0) (unlockMessage 0 77)), ⟨?_, ?_⟩, ?_, ?_, ?_, ?_, ?_⟩,
    ⟨(tl (put up [(O.KEY_ROLE 1, 9)]) 0 (fun x => { x with key := { x.key with nonce := some 77, fails := 3 } })), 0, 0, (1 :: List.replicate 8 0), ⟨?_, ?_⟩, ?_, ?_, ?_, ?_, ?_⟩,
    ⟨(tl up 0 (fun x => { x with key := { x.key with locked := true } })), 0, 0, (1 :: List.replicate 8 0), ⟨?_, ?_⟩, ?_, ?_, ?_, ?_⟩,
    ⟨up, 0, 0, ⟨?_, ?_⟩, ?_, ?_⟩,
    ⟨up, 9000 * secU, 0, ⟨?_, ?_⟩, ?_, ?_, ?_⟩,
    ⟨(tl up 0 (fun x => { x with key := { x.key with locked := true } })), 9000 * secU, 0, ⟨?_, ?_⟩, ?_, ?_, ?_⟩,
    ⟨({ put up [(O.KEY_ROLE 1, 9)] with keys := [(0, [0, 1, 2, 3, 4, 5, 6, 7, 8, 9, 10, 11, 12, 13, 14, 15])] } : State), 0, 0, [0x1F, 0xA6, 0x8B, 0x0A, 0x81, 0x12, 0xB4, 0x47, 0xAE, 0xF3, 0x4B, 0xD8, 0xFB, 0x5A, 0x7B, 0x82, 0x9D, 0x3E, 0x86, 0x23, 0x71, 0xD2, 0xCF, 0xE5], ⟨?_, ?_⟩, ?_, m0, 1, ?_, ?_⟩⟩ <;> decide +kernel

/-- States and operands that meet the hypotheses of `Obligations.Sessions`. -/
theorem hold_Sessions :
    (∃ (s : State), ∃ (now : Nat), ∃ (r sid : Requester), ∃ (data : Bytes), s.quiet ∧ sessionId r = some sid ∧ s.reaches now ⟨r, 0x40, 0, 0, data, false, 0⟩ = true ∧ byteAt data 0 ≤ 3 ∧ bit (s.obj (O.KEY_ROLE (byteAt data 0))) (routeRole sid) = true ∧ s.sessionOf sid = none ∧ s.sessions.length < 4) ∧
    (∃ (s : State), ∃ (now : Nat), ∃ (r sid : Requester), ∃ (data : Bytes), s.quiet ∧ sessionId r = some sid ∧ ∃ (c : Challenge), s.reaches now ⟨r, 0x42, 0, 0, data, true, 1⟩ = true ∧ s.challengeOf sid = some c ∧ data = tag8 (s.sessionKey sid c) (c.nc ++ c.nn) ∧ s.sessionOf sid = none ∧ s.sessions.length < 4) ∧
    (∃ (s : State), ∃ (now : Nat), ∃ (r sid : Requester), ∃ (data : Bytes), s.quiet ∧ sessionId r = some sid ∧ ∃ (c : Challenge), ∃ auth, ∃ fresh, s.reaches now ⟨r, 0x42, 0, 0, data, auth, fresh⟩ = true ∧ s.challengeOf sid = some c ∧ (auth = false ∨ fresh ≠ 1 ∨ data ≠ tag8 (s.sessionKey sid c) (c.nc ++ c.nn))) ∧
    (∃ (s : State), ∃ (now : Nat), ∃ (r sid : Requester), s.quiet ∧ sessionId r = some sid ∧ s.reaches now ⟨r, 0x44, 0, 0, [], false, 0⟩ = true ∧ s.sessionOf sid ≠ none ∧ s.openGroup sid = none ∧ s.etch = none) ∧
    (∃ (s : State), ∃ (now : Nat), ∃ (r sid : Requester), s.quiet ∧ sessionId r = some sid ∧ ∃ (x : Session), s.sessionOf sid = some x ∧ x.lastAt + s.obj O.ZW_SESSION_IDLE * secU ≤ max s.now now ∧ s.etch = none) := by
  refine ⟨⟨(put up [(O.KEY_ROLE 1, 2), (O.ZW_ENABLE, 1), (O.ZW_OPEN_ACCESS, 2)]), 0, (.zwClient 5), (.zwSession 5), (1 :: List.replicate 8 1), ⟨?_, ?_⟩, ?_, ?_, ?_, ?_, ?_, ?_⟩,
    ⟨({ (put up [(O.KEY_ROLE 1, 2), (O.ZW_ENABLE, 1), (O.ZW_OPEN_ACCESS, 2)]) with challenges := [(.zwSession 5, (⟨1, List.replicate 8 1, List.replicate 8 2⟩ : Challenge))] } : State), 0, (.zwClient 5), (.zwSession 5), (tag8 (State.sessionKey (put up [(O.KEY_ROLE 1, 2), (O.ZW_ENABLE, 1), (O.ZW_OPEN_ACCESS, 2)]) (.zwSession 5) (⟨1, List.replicate 8 1, List.replicate 8 2⟩ : Challenge)) (List.replicate 8 1 ++ List.replicate 8 2)), ⟨?_, ?_⟩, ?_, (⟨1, List.replicate 8 1, List.replicate 8 2⟩ : Challenge), ?_, ?_, ?_, ?_, ?_⟩,
    ⟨({ (put up [(O.KEY_ROLE 1, 2), (O.ZW_ENABLE, 1), (O.ZW_OPEN_ACCESS, 2)]) with challenges := [(.zwSession 5, (⟨1, List.replicate 8 1, List.replicate 8 2⟩ : Challenge))] } : State), 0, (.zwClient 5), (.zwSession 5), (List.replicate 8 0), ⟨?_, ?_⟩, ?_, (⟨1, List.replicate 8 1, List.replicate 8 2⟩ : Challenge), true, 1, ?_, ?_, ?_⟩,
    ⟨({ (put up [(O.KEY_ROLE 1, 2), (O.ZW_ENABLE, 1), (O.ZW_OPEN_ACCESS, 2)]) with sessions := [(.zwSession 5, (⟨1, List.replicate 16 3, 1, 0, 0, 0⟩ : Session))] } : State), 0, (.zwSession 5), (.zwSession 5), ⟨?_, ?_⟩, ?_, ?_, ?_, ?_, ?_⟩,
    ⟨({ (put up [(O.KEY_ROLE 1, 2), (O.ZW_ENABLE, 1), (O.ZW_OPEN_ACCESS, 2)]) with sessions := [(.zwSession 5, (⟨1, List.replicate 16 3, 1, 0, 0, 0⟩ : Session))], groups := [⟨.zwSession 5, [], 0, none, [], []⟩] } : State), 9000 * secU, (.zwClient 5), (.zwSession 5), ⟨?_, ?_⟩, ?_, (⟨1, List.replicate 16 3, 1, 0, 0, 0⟩ : Session), ?_, ?_, ?_⟩⟩ <;> decide +kernel

/-- States and operands that meet the hypotheses of `Obligations.FieldBusAndInBand`. -/
theorem hold_FieldBusAndInBand :
    (∃ (s : State), ∃ (now c : Nat), s.quiet ∧ 0 < c ∧ c < 127 ∧ ∃ (msg : Bytes), (s.at now).zwOn = true ∧ msg.length = 64 ∧ byteAt msg 0 = c ∧ byteAt msg 2 = 0 ∧ byteAt msg 6 = 128 ∧ byteAt msg 7 = 0 ∧ s.zwReqs = [] ∧ s.responses.all (fun x => !isZw c x.1) = true ∧ s.reaches now ⟨.zwClient c, 0, leAt msg 4 2, byteAt msg 3, [], false, leAt msg 0x30 4⟩ = true) ∧
    (∃ (s : State), ∃ (now c : Nat), s.quiet ∧ 0 < c ∧ c < 127 ∧ ∃ (msg : Bytes), (s.at now).zwOn = true ∧ msg.length = 64 ∧ byteAt msg 0 = 128 + c ∧ byteAt msg 2 ≠ 0x42 ∧ s.sessionOf (.zwSession c) = none) ∧
    (∃ (s : State), ∃ (now c : Nat), s.quiet ∧ 0 < c ∧ c < 127 ∧ ∃ (q : ZwRequest), s.zwPartial c = some q ∧ q.lastAt + 10 * msU < max s.now now ∧ q.auth = false) ∧
    (∃ (s : State), ∃ (now c : Nat), s.quiet ∧ 0 < c ∧ c < 127 ∧ ∃ (q : ZwRequest), ∃ (x : Response), s.zwReqs = [q] ∧ q.client = c ∧ q.whole = true ∧ q.op = x.op ∧ x.op < 64 ∧ s.responses = [(.zwClient c, x)] ∧ x.data.length ≤ 38 ∧ (s.at now).zwOn = true ∧ s.sessionOf (.zwClient c) = none ∧ s.sessionOf (.zwSession c) = none ∧ s.afterResponse = []) ∧
    (∃ (s : State), ∃ (now c : Nat), s.quiet ∧ 0 < c ∧ c < 127 ∧ (s.at now).zwOn = true ∧ (s.at now).heartbeatDue = true) ∧
    (∃ (s : State), ∃ (now c : Nat), s.quiet ∧ 0 < c ∧ c < 127 ∧ (s.at now).zwOn = true) ∧
    (∃ (s : State), ∃ (now p : Nat), ∃ (c : Nat), s.quiet ∧ p < s.variant.ports ∧ 0 < c ∧ c < 127 ∧ ∃ (fr : Bytes), (s.at now).up 0 = true ∧ takenKind s.mgmt ({ data := fr, src := FrameSrc.port p } : Frame) = 3 ∧ s.link p = 6 ∧ ((s.port p).mgmtAt.filter (fun i => Nat.blt (max s.now now) (i + secU))).length < s.obj O.INBAND_RATE ∧ s.ibReqs = [] ∧ byteAt (mgmtParts fr).2 0 = 1 ∧ byteAt (mgmtParts fr).2 1 % 16 = 4 ∧ byteAt (mgmtParts fr).2 2 = s.node ∧ byteAt (mgmtParts fr).2 4 = c ∧ byteAt (mgmtParts fr).2 6 = 4 ∧ leAt (mgmtParts fr).2 0x0A 2 = 0 ∧ 26 ≤ (mgmtParts fr).2.length ∧ s.sessionOf (.ibSession c) = none ∧ s.reaches now ⟨.ibClient c, 4, leAt (mgmtParts fr).2 8 2, byteAt (mgmtParts fr).2 7, [], false, leAt (mgmtParts fr).2 0x0E 4⟩ = true) ∧
    (∃ (s : State), ∃ (now p : Nat), ∃ (c : Nat), s.quiet ∧ p < s.variant.ports ∧ 0 < c ∧ c < 127 ∧ ∃ (fr : Bytes), (s.at now).up 0 = true ∧ takenKind s.mgmt ({ data := fr, src := FrameSrc.port p } : Frame) = 3 ∧ s.link p = 6 ∧ s.obj O.INBAND_RATE ≤ ((s.port p).mgmtAt.filter (fun i => Nat.blt (max s.now now) (i + secU))).length) ∧
    (∃ (s : State), ∃ (p c : Nat), s.quiet ∧ p < s.variant.ports ∧ 0 < c ∧ c < 127 ∧ ∃ (q : InbandRequest), ∃ (x : Response), s.nextResponse (isIb c) = some (.ibClient c, x) ∧ s.ibReqs = [q] ∧ q.client = c ∧ q.op = x.op ∧ s.afterResponse = [] ∧ s.sessionOf (.ibClient c) = none ∧ s.sessionOf (.ibSession c) = none) := by
  refine ⟨⟨(put up [(O.KEY_ROLE 1, 2), (O.ZW_ENABLE, 1), (O.ZW_OPEN_ACCESS, 2)]), 0, 5, ⟨?_, ?_⟩, ?_, ?_, ([5, 7, 0, 0, 0, 0, 128] ++ List.replicate 57 0 : Bytes), ?_, ?_, ?_, ?_, ?_, ?_, ?_, ?_, ?_⟩,
    ⟨(put up [(O.KEY_ROLE 1, 2), (O.ZW_ENABLE, 1), (O.ZW_OPEN_ACCESS, 2)]), 0, 5, ⟨?_, ?_⟩, ?_, ?_, ([133, 7] ++ List.replicate 62 0 : Bytes), ?_, ?_, ?_, ?_, ?_⟩,
    ⟨({ (put up [(O.KEY_ROLE 1, 2), (O.ZW_ENABLE, 1), (O.ZW_OPEN_ACCESS, 2)]) with zwReqs := [(⟨5, 7, 0, 0, 0, false, 0, [], 0, false, 0⟩ : ZwRequest)] } : State), 9 * secU, 5, ⟨?_, ?_⟩, ?_, ?_, (⟨5, 7, 0, 0, 0, false, 0, [], 0, false, 0⟩ : ZwRequest), ?_, ?_, ?_⟩,
    ⟨({ (put up [(O.KEY_ROLE 1, 2), (O.ZW_ENABLE, 1), (O.ZW_OPEN_ACCESS, 2)]) with zwReqs := [(⟨5, 7, 0, 0, 0, false, 0, [], 0, true, 0⟩ : ZwRequest)], responses := [(.zwClient 5, ⟨0, 0, [1, 2]⟩)] } : State), 0, 5, ⟨?_, ?_⟩, ?_, ?_, (⟨5, 7, 0, 0, 0, false, 0, [], 0, true, 0⟩ : ZwRequest), (⟨0, 0, [1, 2]⟩ : Response), ?_, ?_, ?_, ?_, ?_, ?_, ?_, ?_, ?_, ?_, ?_⟩,
    ⟨(put up [(O.KEY_ROLE 1, 2), (O.ZW_ENABLE, 1), (O.ZW_OPEN_ACCESS, 2)]), 9 * secU, 5, ⟨?_, ?_⟩, ?_, ?_, ?_, ?_⟩,
    ⟨(put up [(O.KEY_ROLE 1, 2), (O.ZW_ENABLE, 1), (O.ZW_OPEN_ACCESS, 2)]), 0, 5, ⟨?_, ?_⟩, ?_, ?_, ?_⟩,
    ⟨((put up [(O.LINK_STATE 0, 6), (O.INBAND_MAC, 0x0605040302), (O.INBAND_PORT, 0), (O.INBAND_RATE, 5)]).modPort 0 (fun x => { x with mgmtAt := List.replicate 3 0 })), 0, 0, 5, ⟨?_, ?_⟩, ?_, ?_, ?_, ([2, 3, 4, 5, 6, 0, 9, 9, 9, 9, 9, 9, 0x88, 0xB5, 1, 4, 0x7F, 0, 5, 7, 4, .ofNat 8 (keySub (O.AFI_STALL_LIMIT 0)), .ofNat 8 ((keyIndex (O.AFI_STALL_LIMIT 0)) % 256), .ofNat 8 ((keyIndex (O.AFI_STALL_LIMIT 0)) / 256)] ++ List.replicate 46 0 : Bytes), ?_, ?_, ?_, ?_, ?_, ?_, ?_, ?_, ?_, ?_, ?_, ?_, ?_, ?_⟩,
    ⟨((put up [(O.LINK_STATE 0, 6), (O.INBAND_MAC, 0x0605040302), (O.INBAND_PORT, 0), (O.INBAND_RATE, 5)]).modPort 0 (fun x => { x with mgmtAt := List.replicate 9 0 })), 0, 0, 5, ⟨?_, ?_⟩, ?_, ?_, ?_, ([2, 3, 4, 5, 6, 0, 9, 9, 9, 9, 9, 9, 0x88, 0xB5, 1, 4, 0x7F, 0, 5, 7, 4, .ofNat 8 (keySub (O.AFI_STALL_LIMIT 0)), .ofNat 8 ((keyIndex (O.AFI_STALL_LIMIT 0)) % 256), .ofNat 8 ((keyIndex (O.AFI_STALL_LIMIT 0)) / 256)] ++ List.replicate 46 0 : Bytes), ?_, ?_, ?_, ?_⟩,
    ⟨({ ((put up [(O.LINK_STATE 0, 6), (O.INBAND_MAC, 0x0605040302), (O.INBAND_PORT, 0), (O.INBAND_RATE, 5)]).modPort 0 (fun x => { x with mgmtAt := List.replicate 3 0 })) with ibReqs := [⟨5, 7, 4, 0, 0, false, 0, [], none, [], 0, 4⟩], responses := [(.ibClient 5, ⟨4, 0, [1, 2]⟩)] } : State), 0, 5, ⟨?_, ?_⟩, ?_, ?_, ?_, (⟨5, 7, 4, 0, 0, false, 0, [], none, [], 0, 4⟩ : InbandRequest), (⟨4, 0, [1, 2]⟩ : Response), ?_, ?_, ?_, ?_, ?_, ?_, ?_⟩⟩ <;> decide +kernel

/-- States and operands that meet the hypotheses of `Obligations.EventReports`. -/
theorem hold_EventReports :
    (∃ (s : State), ∃ (t : Nat), ∃ (r : Report), ∃ (rest : List Report), s.quiet ∧ t < s.variant.tiles ∧ (s.tile t).reports = r :: rest ∧ r.suppressed = true) ∧
    (∃ (s : State), ∃ (t : Nat), ∃ (r : Report), ∃ (rest : List Report), s.quiet ∧ t < s.variant.tiles ∧ (s.tile t).reports = r :: rest ∧ r.suppressed = false ∧ r.sev ≠ 3 ∧ s.openOf t r.kind r.cls r.src = none ∧ (s.tile t).agg.length < 256) ∧
    (∃ (s : State), ∃ (t : Nat), ∃ (r : Report), ∃ (rest : List Report), s.quiet ∧ t < s.variant.tiles ∧ (s.tile t).reports = r :: rest ∧ r.suppressed = false ∧ r.sev ≠ 3 ∧ s.openOf t r.kind r.cls r.src = none ∧ 256 ≤ (s.tile t).agg.length) ∧
    (∃ (s : State), ∃ (t : Nat), ∃ (r : Report), ∃ (rest : List Report), s.quiet ∧ t < s.variant.tiles ∧ (s.tile t).reports = r :: rest ∧ ∃ (e : AggEntry), r.suppressed = false ∧ r.sev ≠ 3 ∧ s.openOf t r.kind r.cls r.src = some e ∧ e.tag / 16 = r.tag / 16 ∧ r.born < e.openAt + e.window) ∧
    (∃ (s : State), ∃ (t : Nat), ∃ (r : Report), ∃ (rest : List Report), s.quiet ∧ t < s.variant.tiles ∧ (s.tile t).reports = r :: rest ∧ ∃ (e : AggEntry), r.suppressed = false ∧ r.sev ≠ 3 ∧ s.openOf t r.kind r.cls r.src = some e ∧ (e.tag / 16 ≠ r.tag / 16 ∨ e.openAt + e.window ≤ r.born) ∧ (s.tile t).agg.length < 256) ∧
    (∃ (s : State), ∃ (t : Nat), ∃ (r : Report), ∃ (rest : List Report), s.quiet ∧ t < s.variant.tiles ∧ (s.tile t).reports = r :: rest ∧ r.suppressed = false ∧ r.sev = 3 ∧ s.flag (O.EVT_ENABLE t) = true ∧ s.ringRoom t = true ∧ (s.tile t).evt.holdoff = false) := by
  refine ⟨⟨(tl (put up [(O.EVT_ENABLE 0, 1), (O.ZW_ENABLE, 1)]) 0 (fun x => { x with reports := [(⟨1, 2, 3, 1, 40, 99, false, true, 40⟩ : Report)] })), 0, (⟨1, 2, 3, 1, 40, 99, false, true, 40⟩ : Report), [], ⟨?_, ?_⟩, ?_, ?_, ?_⟩,
    ⟨(tl (put up [(O.EVT_ENABLE 0, 1), (O.ZW_ENABLE, 1)]) 0 (fun x => { x with reports := [(⟨1, 2, 3, 1, 40, 99, false, false, 40⟩ : Report)] })), 0, (⟨1, 2, 3, 1, 40, 99, false, false, 40⟩ : Report), [], ⟨?_, ?_⟩, ?_, ?_, ?_, ?_, ?_, ?_⟩,
    ⟨(tl (put up [(O.EVT_ENABLE 0, 1), (O.ZW_ENABLE, 1)]) 0 (fun x => { x with reports := [(⟨1, 2, 3, 1, 40, 99, false, false, 40⟩ : Report)], agg := List.replicate 256 (⟨1, 2, 3, 1, 1, 10, 10, 99, false, 0, 0, true⟩ : AggEntry) })), 0, (⟨1, 2, 3, 1, 40, 99, false, false, 40⟩ : Report), [], ⟨?_, ?_⟩, ?_, ?_, ?_, ?_, ?_, ?_⟩,
    ⟨(tl (put up [(O.EVT_ENABLE 0, 1), (O.ZW_ENABLE, 1)]) 0 (fun x => { x with reports := [(⟨1, 2, 3, 1, 40, 99, false, false, 40⟩ : Report)], agg := [(⟨1, 2, 3, 1, 1, 10, 10, 99, false, 0, 100, false⟩ : AggEntry)] })), 0, (⟨1, 2, 3, 1, 40, 99, false, false, 40⟩ : Report), [], ⟨?_, ?_⟩, ?_, ?_, (⟨1, 2, 3, 1, 1, 10, 10, 99, false, 0, 100, false⟩ : AggEntry), ?_, ?_, ?_, ?_, ?_⟩,
    ⟨(tl (put up [(O.EVT_ENABLE 0, 1), (O.ZW_ENABLE, 1)]) 0 (fun x => { x with reports := [(⟨1, 2, 3, 1, 40, 99, false, false, 40⟩ : Report)], agg := [(⟨1, 2, 3, 1, 1, 10, 10, 99, false, 0, 0, false⟩ : AggEntry)] })), 0, (⟨1, 2, 3, 1, 40, 99, false, false, 40⟩ : Report), [], ⟨?_, ?_⟩, ?_, ?_, (⟨1, 2, 3, 1, 1, 10, 10, 99, false, 0, 0, false⟩ : AggEntry), ?_, ?_, ?_, ?_, ?_⟩,
    ⟨(tl (put up [(O.EVT_ENABLE 0, 1), (O.ZW_ENABLE, 1)]) 0 (fun x => { x with reports := [(⟨1, 2, 3, 3, 40, 99, false, false, 40⟩ : Report)] })), 0, (⟨1, 2, 3, 3, 40, 99, false, false, 40⟩ : Report), [], ⟨?_, ?_⟩, ?_, ?_, ?_, ?_, ?_, ?_, ?_⟩⟩ <;> decide +kernel

/-- States and operands that meet the hypotheses of `Obligations.EventRecords`. -/
theorem hold_EventRecords :
    (∃ (s : State), ∃ (now t : Nat), s.quiet ∧ t < s.variant.tiles ∧ ∃ kind, ∃ cls, ∃ src, ∃ (e : AggEntry), s.openOf t kind cls src = some e ∧ e.openAt + e.window ≤ max s.now now ∧ s.flag (O.EVT_ENABLE t) = true ∧ s.flag O.ZW_ENABLE = false) ∧
    (∃ (s : State), ∃ (now t : Nat), s.quiet ∧ t < s.variant.tiles ∧ ∃ kind, ∃ cls, ∃ src, ∃ (e : AggEntry), s.openOf t kind cls src = some e ∧ e.openAt + e.window ≤ max s.now now ∧ (s.at now).zwOn = true ∧ e.sev ≠ 3 ∧ s.obj O.ZW_EVENT_MIN ≤ e.sev) ∧
    (∃ (s : State), ∃ (t : Nat), s.quiet ∧ t < s.variant.tiles ∧ ∃ (e : AggEntry), ∃ (rest : List AggEntry), oldestClosed (s.tile t).agg = some (e, rest) ∧ s.flag (O.EVT_ENABLE t) = true ∧ s.ringRoom t = true ∧ (s.tile t).evt.holdoff = false) ∧
    (∃ (s : State), ∃ (t : Nat), s.quiet ∧ t < s.variant.tiles ∧ ∃ (e : AggEntry), ∃ (rest : List AggEntry), oldestClosed (s.tile t).agg = some (e, rest) ∧ s.ringRoom t = false) ∧
    (∃ (s : State), ∃ (now t : Nat), s.quiet ∧ t < s.variant.tiles ∧ (s.tile t).evt.holdoff = true ∧ (s.tile t).evt.endAt ≤ max s.now now) ∧
    (∃ (s : State), ∃ (t : Nat), s.quiet ∧ t < s.variant.tiles ∧ ∃ src, ∃ kind, ∃ cls, ∃ sid, ∃ (r : Root), src < s.variant.tiles ∧ src ≠ t ∧ (s.tile src).roots.find? (fun r => r.tile == src && r.kind == kind && r.cls == cls && r.src == sid) = some r ∧ r.stopAt = none) ∧
    (∃ (s : State), ∃ (t : Nat), s.quiet ∧ t < s.variant.tiles ∧ ∃ src, ∃ kind, ∃ cls, ∃ sid, ∃ i, src < s.variant.tiles ∧ src ≠ t ∧ (s.tile src).roots.find? (fun r => r.tile == src && r.kind == kind && r.cls == cls && r.src == sid) = some ⟨src, kind, cls, sid, some i⟩) ∧
    (∃ (s : State), ∃ (now t : Nat), s.quiet ∧ t < s.variant.tiles ∧ ∃ r, ∃ data, s.accepts now r (O.EVT_ENABLE t) data = true ∧ leNat data = 1) ∧
    (∃ (s : State), ∃ (now t : Nat), s.quiet ∧ t < s.variant.tiles ∧ ∃ r, ∃ data, s.accepts now r (O.EVT_ENABLE t) data = true ∧ leNat data = 0) := by
  refine ⟨⟨(tl (put up [(O.EVT_ENABLE 0, 1), (O.ZW_ENABLE, 0)]) 0 (fun x => { x with agg := [(⟨1, 2, 3, 1, 1, 10, 10, 99, false, 0, 0, false⟩ : AggEntry)] })), 5, 0, ⟨?_, ?_⟩, ?_, 1, 2, 3, (⟨1, 2, 3, 1, 1, 10, 10, 99, false, 0, 0, false⟩ : AggEntry), ?_, ?_, ?_, ?_⟩,
    ⟨(tl (put up [(O.EVT_ENABLE 0, 1), (O.ZW_ENABLE, 1)]) 0 (fun x => { x with agg := [(⟨1, 2, 3, 2, 1, 10, 10, 99, false, 0, 0, false⟩ : AggEntry)] })), 5, 0, ⟨?_, ?_⟩, ?_, 1, 2, 3, (⟨1, 2, 3, 2, 1, 10, 10, 99, false, 0, 0, false⟩ : AggEntry), ?_, ?_, ?_, ?_, ?_⟩,
    ⟨(tl (put up [(O.EVT_ENABLE 0, 1), (O.ZW_ENABLE, 1)]) 0 (fun x => { x with agg := [(⟨1, 2, 3, 1, 1, 10, 10, 99, false, 0, 0, true⟩ : AggEntry)] })), 0, ⟨?_, ?_⟩, ?_, (⟨1, 2, 3, 1, 1, 10, 10, 99, false, 0, 0, true⟩ : AggEntry), ([] : List AggEntry), ?_, ?_, ?_, ?_⟩,
    ⟨(tl (put up [(O.EVT_ENABLE 0, 1), (O.ZW_ENABLE, 1)]) 0 (fun x => { x with agg := [(⟨1, 2, 3, 1, 1, 10, 10, 99, false, 0, 0, true⟩ : AggEntry)], evt := { size := 0 } })), 0, ⟨?_, ?_⟩, ?_, (⟨1, 2, 3, 1, 1, 10, 10, 99, false, 0, 0, true⟩ : AggEntry), ([] : List AggEntry), ?_, ?_⟩,
    ⟨(tl (put up [(O.EVT_ENABLE 0, 1), (O.ZW_ENABLE, 1)]) 0 (fun x => { x with evt := { holdoff := true, owed := true } })), 5, 0, ⟨?_, ?_⟩, ?_, ?_, ?_⟩,
    ⟨(tl (put up [(O.EVT_ENABLE 0, 1), (O.ZW_ENABLE, 1)]) 1 (fun x => { x with roots := [⟨1, 2, 3, 4, none⟩] })), 0, ⟨?_, ?_⟩, ?_, 1, 2, 3, 4, (⟨1, 2, 3, 4, none⟩ : Root), ?_, ?_, ?_, ?_⟩,
    ⟨(tl (tl (put up [(O.EVT_ENABLE 0, 1), (O.ZW_ENABLE, 1)]) 1 (fun x => { x with roots := [⟨1, 2, 3, 4, some 5⟩] })) 0 (fun x => { x with roots := [⟨1, 2, 3, 4, none⟩] })), 0, ⟨?_, ?_⟩, ?_, 1, 2, 3, 4, 5, ?_, ?_, ?_⟩,
    ⟨(put up [(O.EVT_PRODUCER 0, 6), (O.EVT_RING_BASE 0, 4096), (O.EVT_RING_SIZE 0, 64)]), 5, 0, ⟨?_, ?_⟩, ?_, m0, [1], ?_, ?_⟩,
    ⟨(tl (put up [(O.EVT_ENABLE 0, 1), (O.ZW_ENABLE, 1)]) 0 (fun x => { x with agg := [(⟨1, 2, 3, 1, 1, 10, 10, 99, false, 0, 0, true⟩ : AggEntry)] })), 5, 0, ⟨?_, ?_⟩, ?_, m0, [0], ?_, ?_⟩⟩ <;> decide +kernel

/-- States and operands that meet the hypotheses of `Obligations.LaneDetectors`. -/
theorem hold_LaneDetectors :
    (∃ (s : State), ∃ (l : Nat), s.quiet ∧ l < s.variant.ports ∧ (∀ p, s.portOf l = some p → p < s.variant.ports) ∧ ∃ mv, ∃ ns, s.obj (O.LANE_STATE l) ≠ 0 ∧ s.los l = false ∧ mv < s.obj (O.LOS_ASSERT_MV l) ∧ losTime (s.obj (O.LOS_ASSERT_TIME l)) ≤ ns) ∧
    (∃ (s : State), ∃ (l : Nat), s.quiet ∧ l < s.variant.ports ∧ (∀ p, s.portOf l = some p → p < s.variant.ports) ∧ ∃ p, ∃ mv, ∃ ns, s.portOf l = some p ∧ s.obj (O.LANE_STATE l) = 4 ∧ s.los l = false ∧ mv < s.obj (O.LOS_ASSERT_MV l) ∧ losTime (s.obj (O.LOS_ASSERT_TIME l)) ≤ ns ∧ s.link p = 6 ∧ s.isSpan p = false ∧ l - p < s.obj (O.WIDTH_NOW p)) ∧
    (∃ (s : State), ∃ (l : Nat), s.quiet ∧ l < s.variant.ports ∧ (∀ p, s.portOf l = some p → p < s.variant.ports) ∧ ∃ mv, ∃ ns, (s.obj (O.LANE_STATE l) = 0 ∨ s.los l = true ∨ s.obj (O.LOS_ASSERT_MV l) ≤ mv ∨ ns < s.obj (O.LOS_ASSERT_TIME l))) ∧
    (∃ (s : State), ∃ (l : Nat), s.quiet ∧ l < s.variant.ports ∧ (∀ p, s.portOf l = some p → p < s.variant.ports) ∧ ∃ mv, ∃ ns, s.obj (O.LANE_STATE l) ≠ 0 ∧ s.los l = true ∧ s.obj (O.LOS_DEASSERT_MV l) ≤ mv ∧ losTime (s.obj (O.LOS_DEASSERT_TIME l)) ≤ ns) ∧
    (∃ (s : State), ∃ (l : Nat), s.quiet ∧ l < s.variant.ports ∧ (∀ p, s.portOf l = some p → p < s.variant.ports) ∧ ∃ ws, lanesReport (s.obj (O.LANE_STATE l)) = true ∧ s.los l = false ∧ s.lol l = false ∧ lastWindows 2 (s.windowBad l) ws = true) ∧
    (∃ (s : State), ∃ (l : Nat), s.quiet ∧ l < s.variant.ports ∧ (∀ p, s.portOf l = some p → p < s.variant.ports) ∧ ∃ ws, lanesReport (s.obj (O.LANE_STATE l)) = true ∧ s.los l = false ∧ s.lol l = true ∧ lastWindows 8 (fun w => !s.windowBad l w) ws = true) ∧
    (∃ (s : State), ∃ (l : Nat), s.quiet ∧ l < s.variant.ports ∧ (∀ p, s.portOf l = some p → p < s.variant.ports) ∧ ∃ snr, snr < 65536 ∧ s.lol l = false ∧ (s.lane l).lostAt = none) ∧
    (∃ (s : State), ∃ (l : Nat), s.quiet ∧ l < s.variant.ports ∧ (∀ p, s.portOf l = some p → p < s.variant.ports) ∧ ∃ (hv : Bool), ∃ mv, ∃ ns, ((if hv then 1200 else 900) * 92 ≤ mv * 100 ∨ ns < 1000)) ∧
    (∃ (s : State), ∃ (l : Nat), s.quiet ∧ l < s.variant.ports ∧ (∀ p, s.portOf l = some p → p < s.variant.ports) ∧ ∃ (hv : Bool), ∃ mv, ∃ ns, mv * 100 < (if hv then 1200 else 900) * 92 ∧ 1000 ≤ ns) := by
  refine ⟨⟨(lk up 0 2 6 4), 0, ⟨?_, ?_⟩, ?_, fun p h => by have e := Option.some.inj (h.symm.trans (by decide +kernel : _ = some 0)); subst e; decide +kernel, 10, 1000, ?_, ?_, ?_, ?_⟩,
    ⟨(lk up 0 2 6 4), 0, ⟨?_, ?_⟩, ?_, fun p h => by have e := Option.some.inj (h.symm.trans (by decide +kernel : _ = some 0)); subst e; decide +kernel, 0, 10, 1000, ?_, ?_, ?_, ?_, ?_, ?_, ?_, ?_⟩,
    ⟨(put (lk up 0 2 6 4) [(O.LOS_STATE 0, 1)]), 0, ⟨?_, ?_⟩, ?_, fun p h => by have e := Option.some.inj (h.symm.trans (by decide +kernel : _ = some 0)); subst e; decide +kernel, 10, 1000, ?_⟩,
    ⟨(put (lk up 0 2 6 4) [(O.LOS_STATE 0, 1)]), 0, ⟨?_, ?_⟩, ?_, fun p h => by have e := Option.some.inj (h.symm.trans (by decide +kernel : _ = some 0)); subst e; decide +kernel, 90, 10000, ?_, ?_, ?_, ?_⟩,
    ⟨(lk up 0 2 6 4), 0, ⟨?_, ?_⟩, ?_, fun p h => by have e := Option.some.inj (h.symm.trans (by decide +kernel : _ = some 0)); subst e; decide +kernel, (List.replicate 2 (⟨40000, 0⟩ : CdrWindow)), ?_, ?_, ?_, ?_⟩,
    ⟨(put (lk up 0 2 6 4) [(O.LOL_STATE 0, 1)]), 0, ⟨?_, ?_⟩, ?_, fun p h => by have e := Option.some.inj (h.symm.trans (by decide +kernel : _ = some 0)); subst e; decide +kernel, (List.replicate 8 (⟨0, 4⟩ : CdrWindow)), ?_, ?_, ?_, ?_⟩,
    ⟨(lk up 0 2 6 4), 0, ⟨?_, ?_⟩, ?_, fun p h => by have e := Option.some.inj (h.symm.trans (by decide +kernel : _ = some 0)); subst e; decide +kernel, 77, ?_, ?_, ?_⟩,
    ⟨(lk up 0 2 6 4), 0, ⟨?_, ?_⟩, ?_, fun p h => by have e := Option.some.inj (h.symm.trans (by decide +kernel : _ = some 0)); subst e; decide +kernel, (false : Bool), 900, 999, ?_⟩,
    ⟨(lk up 0 2 6 4), 0, ⟨?_, ?_⟩, ?_, fun p h => by have e := Option.some.inj (h.symm.trans (by decide +kernel : _ = some 0)); subst e; decide +kernel, (false : Bool), 800, 1000, ?_, ?_⟩⟩ <;> decide +kernel

/-- States and operands that meet the hypotheses of `Obligations.LaneControls`. -/
theorem hold_LaneControls :
    (∃ (s : State), ∃ (l : Nat), s.quiet ∧ l < s.variant.ports ∧ s.lol l = false ∧ (s.lane l).frozen = false ∧ s.obj (O.LANE_STATE l) ∈ [3, 4, 5, 6]) ∧
    (∃ (s : State), ∃ (l : Nat), s.quiet ∧ l < s.variant.ports ∧ s.rsFec l = true ∧ 0 < (s.mode l).width) ∧
    (∃ (s : State), ∃ (l : Nat), s.quiet ∧ l < s.variant.ports ∧ s.rsFec l = true ∧ 0 < (s.mode l).width ∧ s.isSpan l = false) ∧
    (∃ (s : State), ∃ (now l : Nat), s.quiet ∧ l < s.variant.ports ∧ ∃ r, s.accepts now r (O.HIST_CLEAR l) [1] = true) ∧
    (∃ (s : State), ∃ (now l : Nat), s.quiet ∧ l < s.variant.ports ∧ ∃ r, ∃ data, s.accepts now r (O.TX_FIR_FIXED l) data = true) ∧
    (∃ (s : State), ∃ (now l : Nat), s.quiet ∧ l < s.variant.ports ∧ ∃ r, ∃ data, s.accepts now r (O.LOOP l) data = true ∧ s.portUp l = true ∧ 0 < (s.mode l).width ∧ leNat data ≠ 0) ∧
    (∃ (s : State), ∃ (now l : Nat), s.quiet ∧ l < s.variant.ports ∧ ∃ r, ∃ data, ∃ p, s.accepts now r (O.TX_PATTERN l) data = true ∧ s.portOf l = some p ∧ p < s.variant.ports ∧ s.portUp p = true ∧ l ∈ s.lanesOf p ∧ leNat data ≠ 0) ∧
    (∃ (s : State), ∃ (now l : Nat), s.quiet ∧ l < s.variant.ports ∧ ∃ r, ∃ data, s.accepts now r (O.RX_CHECKER l) data = true) ∧
    (∃ (s : State), ∃ (l : Nat), s.quiet ∧ l < s.variant.ports ∧ ∃ levels, s.obj (O.RX_CHECKER l) ≠ 0 ∧ checkerClean (s.obj (O.RX_CHECKER l)) (s.lane l).rxInverted levels = true) ∧
    (∃ (s : State), ∃ (l : Nat), s.quiet ∧ l < s.variant.ports ∧ s.obj (O.CHK_LOCK l) = 1) := by
  refine ⟨⟨(lk up 0 2 6 4), 0, ⟨?_, ?_⟩, ?_, ?_, ?_, ?_⟩,
    ⟨(lk up 0 2 6 4), 0, ⟨?_, ?_⟩, ?_, ?_, ?_⟩,
    ⟨(lk up 0 2 6 4), 0, ⟨?_, ?_⟩, ?_, ?_, ?_, ?_⟩,
    ⟨(lk up 0 2 6 4), 5, 0, ⟨?_, ?_⟩, ?_, m0, ?_⟩,
    ⟨(put (lk up 0 2 6 4) [(O.TX_FIR_MODE 0, 1)]), 5, 0, ⟨?_, ?_⟩, ?_, m0, [0, 0x40, 0, 0], ?_⟩,
    ⟨(lk up 0 2 6 4), 5, 0, ⟨?_, ?_⟩, ?_, m0, [1], ?_, ?_, ?_, ?_⟩,
    ⟨(lk up 0 2 6 4), 5, 1, ⟨?_, ?_⟩, ?_, m0, [3], 0, ?_, ?_, ?_, ?_, ?_, ?_⟩,
    ⟨(lk up 0 2 6 4), 5, 1, ⟨?_, ?_⟩, ?_, m0, [3], ?_⟩,
    ⟨(put (lk up 0 2 6 4) [(O.RX_CHECKER 0, 1)]), 0, ⟨?_, ?_⟩, ?_, (patternSymbols 1 71), ?_, ?_⟩,
    ⟨(put (lk up 0 2 6 4) [(O.RX_CHECKER 0, 1), (O.CHK_LOCK 0, 1)]), 0, ⟨?_, ?_⟩, ?_, ?_⟩⟩ <;> decide +kernel

/-- States and operands that meet the hypotheses of `Obligations.DeepRest`. -/
theorem hold_DeepRest :
    (∃ (s : State), ∃ (now l : Nat), s.quiet ∧ l < s.variant.ports ∧ ∃ r, s.accepts now r (O.LANE_REST l) [1] = true ∧ (s.lane l).restPhase = .out ∧ s.obj (O.LANE_STATE l) ≠ 7) ∧
    (∃ (s : State), ∃ (l : Nat), s.quiet ∧ l < s.variant.ports ∧ (s.lane l).restPhase = .entering ∧ (s.lane l).restHeld ≠ some false) ∧
    (∃ (s : State), ∃ (l : Nat), s.quiet ∧ l < s.variant.ports ∧ (s.lane l).restPhase = .entering ∧ (s.lane l).restHeld = some false) ∧
    (∃ (s : State), ∃ (now l : Nat), s.quiet ∧ l < s.variant.ports ∧ ∃ r, s.accepts now r (O.LANE_REST l) [0] = true ∧ (s.lane l).restPhase = .rest) ∧
    (∃ (s : State), ∃ (l : Nat), s.quiet ∧ l < s.variant.ports ∧ (s.lane l).restPhase = .pll ∧ (s.lane l).restHeld = none) ∧
    (∃ (s : State), ∃ (now l : Nat), s.quiet ∧ l < s.variant.ports ∧ (s.lane l).restPhase = .pll ∧ (s.lane l).restHeld = none ∧ (s.lane l).restAt + 500 * usU ≤ max s.now now ∧ (s.lane l).pllTries < 3) ∧
    (∃ (s : State), ∃ (now l : Nat), s.quiet ∧ l < s.variant.ports ∧ (s.lane l).restPhase = .pll ∧ (s.lane l).restHeld = none ∧ (s.lane l).restAt + 500 * usU ≤ max s.now now ∧ 3 ≤ (s.lane l).pllTries) ∧
    (∃ (s : State), ∃ (l : Nat), s.quiet ∧ l < s.variant.ports ∧ ∃ p, (s.lane l).restPhase = .cal ∧ (s.lane l).restHeld = none ∧ s.portOf l = some p ∧ s.link p ≠ 0) ∧
    (∃ (s : State), ∃ (l : Nat), s.quiet ∧ l < s.variant.ports ∧ ∃ p, (s.lane l).restPhase = .cal ∧ (s.lane l).restHeld = none ∧ s.portOf l = some p ∧ s.link p = 0) := by
  refine ⟨⟨(lk up 0 2 0 2), 5, 0, ⟨?_, ?_⟩, ?_, m0, ?_, ?_, ?_⟩,
    ⟨((lk up 0 2 6 4).modLane 0 (fun x => { x with restPhase := .entering })), 0, ⟨?_, ?_⟩, ?_, ?_, ?_⟩,
    ⟨((lk up 0 2 6 4).modLane 0 (fun x => { x with restPhase := .entering, restHeld := some false })), 0, ⟨?_, ?_⟩, ?_, ?_, ?_⟩,
    ⟨(put ((lk up 0 2 0 2).modLane 0 (fun x => { x with restPhase := .rest })) [(O.LANE_REST 0, 1)]), 5, 0, ⟨?_, ?_⟩, ?_, m0, ?_, ?_⟩,
    ⟨((lk up 0 2 6 4).modLane 0 (fun x => { x with restPhase := .pll })), 0, ⟨?_, ?_⟩, ?_, ?_, ?_⟩,
    ⟨((lk up 0 2 6 4).modLane 0 (fun x => { x with restPhase := .pll, pllTries := 1 })), secU, 0, ⟨?_, ?_⟩, ?_, ?_, ?_, ?_, ?_⟩,
    ⟨((lk up 0 2 6 4).modLane 0 (fun x => { x with restPhase := .pll, pllTries := 3 })), secU, 0, ⟨?_, ?_⟩, ?_, ?_, ?_, ?_, ?_⟩,
    ⟨((lk up 0 2 4 2).modLane 0 (fun x => { x with restPhase := .cal })), 0, ⟨?_, ?_⟩, ?_, 0, ?_, ?_, ?_, ?_⟩,
    ⟨((lk up 0 2 0 2).modLane 0 (fun x => { x with restPhase := .cal })), 0, ⟨?_, ?_⟩, ?_, 0, ?_, ?_, ?_, ?_⟩⟩ <;> decide +kernel

/-- States and operands that meet the hypotheses of `Obligations.BringUp`. -/
theorem hold_BringUp :
    (∃ (s : State), ∃ (now p : Nat), s.quiet ∧ p < s.variant.ports ∧ ∃ r, s.accepts now r (O.MAC_ENABLE p) [1] = true ∧ s.portUp p = true ∧ s.tested p = false ∧ s.link p = 0) ∧
    (∃ (s : State), ∃ (now p : Nat), s.quiet ∧ p < s.variant.ports ∧ ∃ r, s.accepts now r (O.MAC_ENABLE p) [0] = true ∧ s.portUp p = true) ∧
    (∃ (s : State), ∃ (now p : Nat), s.quiet ∧ p < s.variant.ports ∧ ∃ r, ∃ data, s.accepts now r (O.PORT_MODE p) data = true) ∧
    (∃ (s : State), ∃ (p : Nat), s.quiet ∧ p < s.variant.ports ∧ ∃ (x : Partner), s.link p = 1 ∧ (s.mode p).kind = 0 ∧ s.force (O.AN_ENABLE p) ≠ 0 ∧ x.hcd = s.obj (O.PORT_MODE p)) ∧
    (∃ (s : State), ∃ (p : Nat), s.quiet ∧ p < s.variant.ports ∧ ∃ (status : List PartnerTrain), s.link p = 2 ∧ 0 < (s.mode p).width ∧ (∀ l ∈ s.lanesOf p, s.portOf l = some p ∧ s.obj (O.LANE_STATE l) = 3 ∧ (s.lane l).alone ≠ 1 ∧ 3 ≤ (s.lane l).steady ∧ (∃ x, status[l - p]? = some x ∧ x.ready = true)) ∧ s.force (O.SNR_ACCEPT p) ≠ 0) ∧
    (∃ (s : State), ∃ (p : Nat), s.quiet ∧ p < s.variant.ports ∧ ∃ (status : List PartnerTrain), s.link p = 2 ∧ 0 < (s.mode p).width ∧ (∀ l ∈ s.lanesOf p, s.portOf l = some p ∧ s.obj (O.LANE_STATE l) = 3 ∧ (s.lane l).alone ≠ 1 ∧ 3 ≤ (s.lane l).steady ∧ (∃ x, status[l - p]? = some x ∧ x.ready = true)) ∧ s.force (O.SNR_ACCEPT p) = 0 ∧ (∀ l ∈ s.lanesOf p, s.lol l = false)) ∧
    (∃ (s : State), ∃ (p : Nat), s.quiet ∧ p < s.variant.ports ∧ ∃ skew, s.link p = 4 ∧ ((s.mode p).kind ≠ 2 ∨ (skew ≤ 128 ∧ ∀ l ∈ s.lanesOf p, (s.lane l).aligned = true ∧ (s.lane l).codeword ≠ none)) ∧ 2 ≤ (s.mode p).width) ∧
    (∃ (s : State), ∃ (p : Nat), s.quiet ∧ p < s.variant.ports ∧ ∃ us, s.link p = 5 ∧ (s.mode p).kind = 0 ∧ 1000 ≤ us) ∧
    (∃ (s : State), ∃ (p : Nat), s.quiet ∧ p < s.variant.ports ∧ ∃ us, s.link p = 5 ∧ (s.mode p).kind = 1 ∧ 1600 ≤ us ∧ s.force (O.SGMII_SPEED p) = 0 ∧ s.force (O.DUPLEX_CFG p) = 0) ∧
    (∃ (s : State), ∃ (now p : Nat), s.quiet ∧ p < s.variant.ports ∧ s.link p = 6 ∧ (s.port p).activeAt + s.obj (O.LINK_STABLE p) * msU ≤ max s.now now) ∧
    (∃ (s : State), ∃ (p : Nat), s.quiet ∧ p < s.variant.ports ∧ ∃ k, 1 ≤ k ∧ k ≤ 3 ∧ s.training p = true ∧ s.force (O.TX_FIR_MODE p) ≠ 1) ∧
    (∃ (s : State), ∃ (p : Nat), s.quiet ∧ p < s.variant.ports ∧ ∃ tap, ∃ up, s.training p = true ∧ s.force (O.TX_FIR_MODE p) ≠ 1 ∧ firStepOut (s.obj (O.TX_FIR_NOW p)) tap up = true) := by
  refine ⟨⟨(put (lk up 0 2 0 0) [(O.LC_STATE, 3)]), 5, 0, ⟨?_, ?_⟩, ?_, m0, ?_, ?_, ?_, ?_⟩,
    ⟨(lk up 0 2 6 4), 5, 0, ⟨?_, ?_⟩, ?_, m0, ?_, ?_⟩,
    ⟨up, 5, 0, ⟨?_, ?_⟩, ?_, m0, [2], ?_⟩,
    ⟨(put (lk up 0 2 1 3) [(O.AN_ENABLE 0, 1)]), 0, ⟨?_, ?_⟩, ?_, (⟨2, false, none⟩ : Partner), ?_, ?_, ?_, ?_⟩,
    ⟨((put (lk up 0 1 2 3) [(O.SNR_ACCEPT 0, 9)]).modLane 0 (fun x => { x with steady := 3 })), 0, ⟨?_, ?_⟩, ?_, ([⟨true, false⟩] : List PartnerTrain), ?_, ?_, fun l hl => by
      have e : l = 0 := List.mem_singleton.mp ((congrArg (l ∈ ·) (show ((put (lk up 0 1 2 3) [(O.SNR_ACCEPT 0, 9)]).modLane 0 (fun x => { x with steady := 3 })).lanesOf 0 = [0] by decide +kernel)).mp hl)
      subst e
      exact ⟨by decide +kernel, by decide +kernel, by decide +kernel, by decide +kernel, ⟨true, false⟩, by decide +kernel, rfl⟩, ?_⟩,
    ⟨((put (lk up 0 1 2 3) [(O.SNR_ACCEPT 0, 0)]).modLane 0 (fun x => { x with steady := 3 })), 0, ⟨?_, ?_⟩, ?_, ([⟨true, false⟩] : List PartnerTrain), ?_, ?_, fun l hl => by
      have e : l = 0 := List.mem_singleton.mp ((congrArg (l ∈ ·) (show ((put (lk up 0 1 2 3) [(O.SNR_ACCEPT 0, 0)]).modLane 0 (fun x => { x with steady := 3 })).lanesOf 0 = [0] by decide +kernel)).mp hl)
      subst e
      exact ⟨by decide +kernel, by decide +kernel, by decide +kernel, by decide +kernel, ⟨true, false⟩, by decide +kernel, rfl⟩, ?_, ?_⟩,
    ⟨(lk up 0 3 4 3), 0, ⟨?_, ?_⟩, ?_, 200, ?_, Or.inl (by decide +kernel), ?_⟩,
    ⟨(lk up 0 2 5 3), 0, ⟨?_, ?_⟩, ?_, 1000, ?_, ?_, ?_⟩,
    ⟨(lk up 0 17 5 3), 0, ⟨?_, ?_⟩, ?_, 1600, ?_, ?_, ?_, ?_, ?_⟩,
    ⟨(lk up 0 2 6 4), 9000 * secU, 0, ⟨?_, ?_⟩, ?_, ?_, ?_⟩,
    ⟨(lk up 0 2 2 3), 0, ⟨?_, ?_⟩, ?_, 2, ?_, ?_, ?_, ?_⟩,
    ⟨(lk up 0 2 2 3), 0, ⟨?_, ?_⟩, ?_, 1, true, ?_, ?_, ?_⟩⟩ <;> decide +kernel

/-- States and operands that meet the hypotheses of `Obligations.BringUpFails`. -/
theorem hold_BringUpFails :
    (∃ (s : State), ∃ (p : Nat), s.quiet ∧ p < s.variant.ports ∧ ∃ (x : Partner), s.link p = 1 ∧ (s.mode p).kind = 0 ∧ s.force (O.AN_ENABLE p) ≠ 0 ∧ x.hcd ≠ s.obj (O.PORT_MODE p)) ∧
    (∃ (s : State), ∃ (now p : Nat), s.quiet ∧ p < s.variant.ports ∧ (s.link p = 1 ∧ (s.port p).stateAt + s.force (O.RXDET_TIMEOUT p) * msU ≤ max s.now now) ∧ ((s.mode p).kind ≠ 1 ∨ s.los p = true)) ∧
    (∃ (s : State), ∃ (now p : Nat), s.quiet ∧ p < s.variant.ports ∧ (s.link p = 2 ∧ (s.port p).stateAt + s.force (O.TRAIN_TIMEOUT p) * msU ≤ max s.now now)) ∧
    (∃ (s : State), ∃ (now p : Nat), s.quiet ∧ p < s.variant.ports ∧ (s.link p = 3 ∧ (s.port p).stateAt + s.force (O.BITLOCK_TIMEOUT p) * msU ≤ max s.now now) ∧ (∃ l ∈ s.lanesOf p, s.lol l = true ∨ (s.force (O.SNR_ACCEPT p) ≠ 0 ∧ (s.lane l).snrGood = false))) ∧
    (∃ (s : State), ∃ (now p : Nat), s.quiet ∧ p < s.variant.ports ∧ (s.link p = 4 ∧ (s.port p).stateAt + s.force (O.SYMLOCK_TIMEOUT p) * msU ≤ max s.now now)) ∧
    (∃ (s : State), ∃ (now p : Nat), s.quiet ∧ p < s.variant.ports ∧ (s.link p = 5 ∧ (s.port p).stateAt + s.force (O.CAPX_TIMEOUT p) * msU ≤ max s.now now) ∧ (s.isSpan p = false ∨ s.capReady p = none)) ∧
    (∃ (s : State), ∃ (p : Nat), s.quiet ∧ p < s.variant.ports ∧ s.attempting p = true ∧ (s.mode p).kind = 0 ∧ s.force (O.AN_ENABLE p) ≠ 0) ∧
    (∃ (s : State), ∃ (now p : Nat), s.quiet ∧ p < s.variant.ports ∧ s.link p = 7 ∧ (s.port p).backoffEnd ≤ max s.now now) ∧
    (∃ (s : State), ∃ (p : Nat), s.quiet ∧ p < s.variant.ports ∧ s.link p = 6 ∧ s.isSpan p = false ∧ (s.port p).relock = false) := by
  refine ⟨⟨(put (lk up 0 2 1 3) [(O.AN_ENABLE 0, 1)]), 0, ⟨?_, ?_⟩, ?_, (⟨3, false, none⟩ : Partner), ?_, ?_, ?_, ?_⟩,
    ⟨(lk up 0 2 1 3), 9000 * secU, 0, ⟨?_, ?_⟩, ?_, ?_, ?_⟩,
    ⟨(lk up 0 2 2 3), 9000 * secU, 0, ⟨?_, ?_⟩, ?_, ?_⟩,
    ⟨(lk up 0 2 3 3), 9000 * secU, 0, ⟨?_, ?_⟩, ?_, ?_, ?_⟩,
    ⟨(lk up 0 2 4 3), 9000 * secU, 0, ⟨?_, ?_⟩, ?_, ?_⟩,
    ⟨(lk up 0 2 5 3), 9000 * secU, 0, ⟨?_, ?_⟩, ?_, ?_, ?_⟩,
    ⟨(put (lk up 0 2 3 3) [(O.AN_ENABLE 0, 1)]), 0, ⟨?_, ?_⟩, ?_, ?_, ?_, ?_⟩,
    ⟨(lk up 0 2 7 3), 5, 0, ⟨?_, ?_⟩, ?_, ?_, ?_⟩,
    ⟨(lk up 0 2 6 4), 0, ⟨?_, ?_⟩, ?_, ?_, ?_, ?_⟩⟩ <;> decide +kernel

/-- States and operands that meet the hypotheses of `Obligations.SpanUnits`. -/
theorem hold_SpanUnits :
    (∃ (s : State), ∃ (now p : Nat), s.quiet ∧ p < s.variant.ports ∧ s.spanUp p = true ∧ ∃ (r : Bytes), ∃ (rest : List Bytes), (s.port p).resend = [] ∧ (s.port p).txPart = [] ∧ (s.port p).replay.length < 510 ∧ (s.port p).txRecords = r :: rest ∧ r.length = 992 ∧ (s.port p).txNext = none ∧ (s.at now).commasSent p ≤ (s.port p).commaNum) ∧
    (∃ (s : State), ∃ (now p : Nat), s.quiet ∧ p < s.variant.ports ∧ s.spanUp p = true ∧ (s.port p).resend = [] ∧ (s.port p).txPart = [] ∧ (s.port p).txRecords = [] ∧ (s.port p).txNext = none ∧ (s.at now).commasSent p = (s.port p).commaNum + 1) ∧
    (∃ (s : State), ∃ (p : Nat), s.quiet ∧ p < s.variant.ports ∧ s.spanUp p = true ∧ ∃ (data : Bytes), ∃ lanes, data.length = 992 ∧ (s.port p).rxSinceAck < 63 ∧ (s.port p).takesLanes lanes = true) ∧
    (∃ (s : State), ∃ (p : Nat), s.quiet ∧ p < s.variant.ports ∧ s.spanUp p = true ∧ ∃ seq, ∃ data, ∃ crc, seq ≠ (s.port p).rxSeq ∧ (s.port p).nakSent = false ∧ (unitCrc data ≠ crc ∨ seqFrom seq (s.port p).rxSeq = true)) ∧
    (∃ (s : State), ∃ (p : Nat), s.quiet ∧ p < s.variant.ports ∧ s.spanUp p = true ∧ ∃ seq, seq ≠ (s.port p).rxSeq ∧ seqFrom seq (s.port p).rxSeq = false) ∧
    (∃ (s : State), ∃ (p : Nat), s.quiet ∧ p < s.variant.ports ∧ s.spanUp p = true ∧ ∃ seq, ∃ (d : Bytes), ∃ (rest : List (Nat × Bytes)), (s.port p).replay = (seq, d) :: rest) ∧
    (∃ (s : State), ∃ (p : Nat), s.quiet ∧ p < s.variant.ports ∧ s.spanUp p = true ∧ ∃ seq, ∃ (d : Bytes), ∃ (rest : List (Nat × Bytes)), (s.port p).replay = (seq, d) :: rest) ∧
    (∃ (s : State), ∃ (p : Nat), s.quiet ∧ p < s.variant.ports ∧ s.spanUp p = true ∧ ∃ l, ∃ block, ∃ bits, ∃ b, l < s.variant.ports ∧ s.portOf l = some p ∧ isComma bits = true ∧ (s.lane l).lastComma = some b ∧ block = b + 16384) ∧
    (∃ (s : State), ∃ (p l : Nat), ∃ (c : Cap), s.quiet ∧ p < s.variant.ports ∧ l < s.variant.ports ∧ s.portOf l = some p ∧ s.isSpan p = true ∧ s.link p = 5 ∧ s.capMismatch p c = false) ∧
    (∃ (s : State), ∃ (p l : Nat), ∃ (c : Cap), s.quiet ∧ p < s.variant.ports ∧ l < s.variant.ports ∧ s.portOf l = some p ∧ s.isSpan p = true ∧ s.link p = 5 ∧ s.capMismatch p c = true) ∧
    (∃ (s : State), ∃ (p l : Nat), ∃ (c : Cap), s.quiet ∧ p < s.variant.ports ∧ l < s.variant.ports ∧ s.portOf l = some p ∧ s.isSpan p = true ∧ s.link p = 5 ∧ s.capReady p = some c) := by
  refine ⟨⟨((put (lk up 0 20 6 4) [(O.LANES_UP 0, 15)]).modPort 0 (fun x => { x with txRecords := [List.replicate 992 1] })), 5, 0, ⟨?_, ?_⟩, ?_, ?_, ((List.replicate 992 1) : Bytes), ([] : List Bytes), ?_, ?_, ?_, ?_, ?_, ?_, ?_⟩,
    ⟨(put (lk up 0 20 6 4) [(O.LANES_UP 0, 15)]), commaPeriod (modeOf 20).lane, 0, ⟨?_, ?_⟩, ?_, ?_, ?_, ?_, ?_, ?_, ?_⟩,
    ⟨(put (lk up 0 20 6 4) [(O.LANES_UP 0, 15)]), 0, ⟨?_, ?_⟩, ?_, ?_, ((List.replicate 992 1) : Bytes), 0, ?_, ?_, ?_⟩,
    ⟨(put (lk up 0 20 6 4) [(O.LANES_UP 0, 15)]), 0, ⟨?_, ?_⟩, ?_, ?_, 5, [1], 6, ?_, ?_, ?_⟩,
    ⟨((put (lk up 0 20 6 4) [(O.LANES_UP 0, 15)]).modPort 0 (fun x => { x with rxSeq := 9 })), 0, ⟨?_, ?_⟩, ?_, ?_, 5, ?_, ?_⟩,
    ⟨((put (lk up 0 20 6 4) [(O.LANES_UP 0, 15)]).modPort 0 (fun x => { x with replay := [(5, [1])] })), 0, ⟨?_, ?_⟩, ?_, ?_, 5, ([1] : Bytes), ([] : List (Nat × Bytes)), ?_⟩,
    ⟨((put (lk up 0 20 6 4) [(O.LANES_UP 0, 15)]).modPort 0 (fun x => { x with replay := [(5, [1])] })), 0, ⟨?_, ?_⟩, ?_, ?_, 5, ([1] : Bytes), ([] : List (Nat × Bytes)), ?_⟩,
    ⟨((put (lk up 0 20 6 4) [(O.LANES_UP 0, 15)]).modLane 1 (fun x => { x with lastComma := some 9 })), 0, ⟨?_, ?_⟩, ?_, ?_, 1, 16393, (commaBlock 3 1 4 15), 9, ?_, ?_, ?_, ?_, ?_⟩,
    ⟨((put (lk up 0 20 5 4) [(O.STACK_ENABLE, 1)]).modPort 0 (fun x => { x with stackEn := true })), 0, 1, (⟨1, (modeOf 20).lane, 4, true, true, 2, true, true, 3, 4, 0⟩ : Cap), ⟨?_, ?_⟩, ?_, ?_, ?_, ?_, ?_, ?_⟩,
    ⟨((put (lk up 0 20 5 4) [(O.STACK_ENABLE, 1)]).modPort 0 (fun x => { x with stackEn := true })), 0, 1, (⟨1, 9, 2, true, true, 2, true, true, 3, 4, 0⟩ : Cap), ⟨?_, ?_⟩, ?_, ?_, ?_, ?_, ?_, ?_⟩,
    ⟨(((put (lk up 0 20 5 4) [(O.STACK_ENABLE, 1)]).modPort 0 (fun x => { x with stackEn := true })).modLane 1 (fun x => { x with cap := some (⟨1, (modeOf 20).lane, 4, true, true, 2, true, true, 3, 4, 0⟩ : Cap), capRuns := 2, capSeen := true })), 0, 1, (⟨1, (modeOf 20).lane, 4, true, true, 2, true, true, 3, 4, 0⟩ : Cap), ⟨?_, ?_⟩, ?_, ?_, ?_, ?_, ?_, ?_⟩⟩ <;> decide +kernel

/-- States and operands that meet the hypotheses of `Obligations.SpanLanes`. -/
theorem hold_SpanLanes :
    (∃ (s : State), ∃ (p lane : Nat), s.quiet ∧ p < s.variant.ports ∧ s.spanUp p = true ∧ lane < 8 ∧ p + lane < s.variant.ports ∧ bit (s.obj (O.LANES_UP p)) lane = true ∧ s.canDrop p = true) ∧
    (∃ (s : State), ∃ (p lane : Nat), s.quiet ∧ p < s.variant.ports ∧ s.spanUp p = true ∧ lane < 8 ∧ p + lane < s.variant.ports ∧ bit (s.obj (O.LANES_UP p)) lane = true ∧ s.canDrop p = false) ∧
    (∃ (s : State), ∃ (p lane : Nat), s.quiet ∧ p < s.variant.ports ∧ s.spanUp p = true ∧ lane < 8 ∧ p + lane < s.variant.ports ∧ (s.lane (p + lane)).dropped = true ∧ s.laneReady p (p + lane) = true ∧ (s.port p).txNext = none) ∧
    (∃ (s : State), ∃ (p lane : Nat), s.quiet ∧ p < s.variant.ports ∧ s.spanUp p = true ∧ lane < 8 ∧ p + lane < s.variant.ports ∧ (s.lane (p + lane)).dropped = true ∧ s.laneReady p (p + lane) = false) ∧
    (∃ (s : State), ∃ (p lane : Nat), s.quiet ∧ p < s.variant.ports ∧ s.spanUp p = true ∧ lane < 8 ∧ p + lane < s.variant.ports ∧ ∃ (data : Bytes), ∃ m, data.length = 992 ∧ (s.port p).laneChange = some (lane, false) ∧ (s.port p).txNext = none ∧ (s.port p).addOwed = none ∧ (s.port p).rxNext = some ((s.port p).rxSeq, m)) ∧
    (∃ (s : State), ∃ (p lane : Nat), s.quiet ∧ p < s.variant.ports ∧ s.spanUp p = true ∧ lane < 8 ∧ p + lane < s.variant.ports ∧ (s.port p).laneChange = some (lane, false)) ∧
    (∃ (s : State), ∃ (p lane : Nat), s.quiet ∧ p < s.variant.ports ∧ s.spanUp p = true ∧ lane < 8 ∧ p + lane < s.variant.ports ∧ (s.port p).laneChange = some (lane, true)) ∧
    (∃ (s : State), ∃ (p lane : Nat), s.quiet ∧ p < s.variant.ports ∧ s.spanUp p = true ∧ lane < 8 ∧ p + lane < s.variant.ports ∧ s.portOf (p + lane) = some p ∧ (s.lane (p + lane)).dropped = true ∧ s.obj (O.REJOIN p) = 1 ∧ (s.port p).laneChange = none ∧ (s.port p).addOwed = none ∧ s.laneReady p (p + lane) = true) := by
  refine ⟨⟨((put (lk up 0 20 6 4) [(O.LANES_UP 0, 15)]).modPort 0 (fun x => { x with sparing := true, minWidth := 2 })), 0, 2, ⟨?_, ?_⟩, ?_, ?_, ?_, ?_, ?_, ?_⟩,
    ⟨(put (lk up 0 20 6 4) [(O.LANES_UP 0, 15)]), 0, 2, ⟨?_, ?_⟩, ?_, ?_, ?_, ?_, ?_, ?_⟩,
    ⟨(put (((put (put (lk up 0 20 6 4) [(O.LANES_UP 0, 15)]) [(O.LANES_UP 0, 11), (O.WIDTH_NOW 0, 3), (O.REJOIN 0, 1)]).modLane 2 (fun x => { x with dropped := true })).modLane 2 (fun x => { x with aligned := true })) [(O.LANE_STATE 2, 4)]), 0, 2, ⟨?_, ?_⟩, ?_, ?_, ?_, ?_, ?_, ?_, ?_⟩,
    ⟨((put (put (lk up 0 20 6 4) [(O.LANES_UP 0, 15)]) [(O.LANES_UP 0, 11), (O.WIDTH_NOW 0, 3), (O.REJOIN 0, 1)]).modLane 2 (fun x => { x with dropped := true })), 0, 2, ⟨?_, ?_⟩, ?_, ?_, ?_, ?_, ?_, ?_⟩,
    ⟨(((put (put (lk up 0 20 6 4) [(O.LANES_UP 0, 15)]) [(O.LANES_UP 0, 11), (O.WIDTH_NOW 0, 3), (O.REJOIN 0, 1)]).modLane 2 (fun x => { x with dropped := true })).modPort 0 (fun x => { x with laneChange := some (2, false), rxNext := some (0, 9) })), 0, 2, ⟨?_, ?_⟩, ?_, ?_, ?_, ?_, ((List.replicate 992 1) : Bytes), 9, ?_, ?_, ?_, ?_, ?_⟩,
    ⟨(((put (put (lk up 0 20 6 4) [(O.LANES_UP 0, 15)]) [(O.LANES_UP 0, 11), (O.WIDTH_NOW 0, 3), (O.REJOIN 0, 1)]).modLane 2 (fun x => { x with dropped := true })).modPort 0 (fun x => { x with laneChange := some (2, false) })), 0, 2, ⟨?_, ?_⟩, ?_, ?_, ?_, ?_, ?_⟩,
    ⟨(((put (put (lk up 0 20 6 4) [(O.LANES_UP 0, 15)]) [(O.LANES_UP 0, 11), (O.WIDTH_NOW 0, 3), (O.REJOIN 0, 1)]).modLane 2 (fun x => { x with dropped := true })).modPort 0 (fun x => { x with laneChange := some (2, true) })), 0, 2, ⟨?_, ?_⟩, ?_, ?_, ?_, ?_, ?_⟩,
    ⟨(put (((put (put (lk up 0 20 6 4) [(O.LANES_UP 0, 15)]) [(O.LANES_UP 0, 11), (O.WIDTH_NOW 0, 3), (O.REJOIN 0, 1)]).modLane 2 (fun x => { x with dropped := true })).modLane 2 (fun x => { x with aligned := true })) [(O.LANE_STATE 2, 4)]), 0, 2, ⟨?_, ?_⟩, ?_, ?_, ?_, ?_, ?_, ?_, ?_, ?_, ?_, ?_⟩⟩ <;> decide +kernel

/-- States and operands that meet the hypotheses of `Obligations.Shedding`. -/
theorem hold_Shedding :
    (∃ (s : State), ∃ (now p : Nat), s.quiet ∧ p < s.variant.ports ∧ ∃ sent, ∃ rcvd, s.shedding p = true ∧ s.widthChanging p = false ∧ (s.port p).shedQuiet ≤ max s.now now ∧ s.obj (O.WIDTH_NOW p) < (s.mode p).width ∧ s.force (O.WIDEN_HIGH p) * s.capOf p (s.obj (O.WIDTH_NOW p)) * s.force (O.SHED_WINDOW p) < max sent rcvd * 1000) ∧
    (∃ (s : State), ∃ (now p : Nat), s.quiet ∧ p < s.variant.ports ∧ ∃ sent, ∃ rcvd, ∃ w, s.shedding p = true ∧ s.widthChanging p = false ∧ (s.port p).shedQuiet ≤ max s.now now ∧ (s.port p).shedAt + s.obj (O.SHED_HOLD p) * msU ≤ max s.now now ∧ (s.shedWidths p).find? (fun w => w < s.obj (O.WIDTH_NOW p) && s.fits p w (max sent rcvd) (s.force (O.SHED_WINDOW p))) = some w) ∧
    (∃ (s : State), ∃ (p : Nat), s.quiet ∧ p < s.variant.ports ∧ ∃ width, ∃ token, ∃ restripe, s.link p = 6 ∧ s.isSpan p = false ∧ s.widthChanging p = false ∧ (s.burin p).tx = none ∧ s.shedJudge p ⟨false, width, token, restripe⟩ = 0) ∧
    (∃ (s : State), ∃ (p : Nat), s.quiet ∧ p < s.variant.ports ∧ ∃ width, ∃ token, ∃ restripe, s.link p = 6 ∧ s.isSpan p = false ∧ s.widthChanging p = false ∧ (s.burin p).tx = none ∧ s.shedJudge p ⟨false, width, token, restripe⟩ = 1) ∧
    (∃ (s : State), ∃ (p : Nat), s.quiet ∧ p < s.variant.ports ∧ ∃ (o : ShedReq), (s.port p).shedOut = some o) ∧
    (∃ (s : State), ∃ (p : Nat), s.quiet ∧ p < s.variant.ports ∧ ∃ (o : ShedReq), ∃ result, (s.port p).shedOut = some o ∧ result ≠ 0 ∧ (s.obj (O.SHED_MODE p) ≠ 0 ∨ s.narrow p = false)) ∧
    (∃ (s : State), ∃ (now p : Nat), s.quiet ∧ p < s.variant.ports ∧ ∃ (r : ShedReq), (s.port p).shedAgreed = some r ∧ s.link p = 6 ∧ (s.at now).switchDue p = true ∧ r.widen = false ∧ (s.port p).shedOwed = none) ∧
    (∃ (s : State), ∃ (now p : Nat), s.quiet ∧ p < s.variant.ports ∧ s.link p = 6 ∧ (s.port p).relock = true ∧ (s.port p).switchAt + s.force (O.SYMLOCK_TIMEOUT p) * msU ≤ max s.now now) ∧
    (∃ (s : State), ∃ (now p : Nat), s.quiet ∧ p < s.variant.ports ∧ ∃ r, s.accepts now r (O.SHED_MODE p) [0] = true ∧ s.narrow p = false ∧ (s.port p).lpi = false) ∧
    (∃ (s : State), ∃ (now p : Nat), s.quiet ∧ p < s.variant.ports ∧ ∃ r, s.accepts now r (O.SHED_MODE p) [0] = true ∧ s.narrow p = true ∧ s.laneWork p = false ∧ (s.port p).shedQuiet ≤ max s.now now) := by
  refine ⟨⟨(put (put (lk up 0 3 6 4) [(O.SHED_MODE 0, 1), (O.SHED_PARTNER 0, 1)]) [(O.WIDTH_NOW 0, 2)]), 5, 0, ⟨?_, ?_⟩, ?_, 2 ^ 60, 0, ?_, ?_, ?_, ?_, ?_⟩,
    ⟨(put (lk up 0 3 6 4) [(O.SHED_MODE 0, 1), (O.SHED_PARTNER 0, 1)]), 9000 * secU, 0, ⟨?_, ?_⟩, ?_, 0, 0, 1, ?_, ?_, ?_, ?_, ?_⟩,
    ⟨(put (lk up 0 3 6 4) [(O.SHED_MODE 0, 1), (O.SHED_PARTNER 0, 1)]), 0, ⟨?_, ?_⟩, ?_, 2, 77, 5, ?_, ?_, ?_, ?_, ?_⟩,
    ⟨((put (lk up 0 3 6 4) [(O.SHED_MODE 0, 1), (O.SHED_PARTNER 0, 1)]).modPort 0 (fun x => { x with lastLoad := 2 ^ 60 })), 0, ⟨?_, ?_⟩, ?_, 2, 77, 5, ?_, ?_, ?_, ?_, ?_⟩,
    ⟨((put (lk up 0 3 6 4) [(O.SHED_MODE 0, 1), (O.SHED_PARTNER 0, 1)]).modPort 0 (fun x => { x with shedOut := some (⟨false, 2, 77, 5⟩ : ShedReq) })), 0, ⟨?_, ?_⟩, ?_, (⟨false, 2, 77, 5⟩ : ShedReq), ?_⟩,
    ⟨((put (lk up 0 3 6 4) [(O.SHED_MODE 0, 1), (O.SHED_PARTNER 0, 1)]).modPort 0 (fun x => { x with shedOut := some (⟨false, 2, 77, 5⟩ : ShedReq) })), 0, ⟨?_, ?_⟩, ?_, (⟨false, 2, 77, 5⟩ : ShedReq), 1, ?_, ?_, ?_⟩,
    ⟨((put (lk up 0 3 6 4) [(O.SHED_MODE 0, 1), (O.SHED_PARTNER 0, 1)]).modPort 0 (fun x => { x with shedAgreed := some (⟨false, 2, 77, 5⟩ : ShedReq) })), 5, 0, ⟨?_, ?_⟩, ?_, (⟨false, 2, 77, 5⟩ : ShedReq), ?_, ?_, ?_, ?_, ?_⟩,
    ⟨((put (lk up 0 3 6 4) [(O.SHED_MODE 0, 1), (O.SHED_PARTNER 0, 1)]).modPort 0 (fun x => { x with relock := true })), 9000 * secU, 0, ⟨?_, ?_⟩, ?_, ?_, ?_, ?_⟩,
    ⟨(put (lk up 0 3 6 4) [(O.SHED_MODE 0, 1), (O.SHED_PARTNER 0, 1)]), 5, 0, ⟨?_, ?_⟩, ?_, m0, ?_, ?_, ?_⟩,
    ⟨(put (put (lk up 0 3 6 4) [(O.SHED_MODE 0, 1), (O.SHED_PARTNER 0, 1)]) [(O.WIDTH_NOW 0, 2)]), 5, 0, ⟨?_, ?_⟩, ?_, m0, ?_, ?_, ?_, ?_⟩⟩ <;> decide +kernel

/-- States and operands that meet the hypotheses of `Obligations.Reception`. -/
theorem hold_Reception :
    (∃ (s : State), ∃ (p fid : Nat), s.quiet ∧ p < s.variant.ports ∧ s.link p = 6 ∧ (s.mode p).kind ≠ 2 ∧ s.fresh fid = true) ∧
    (∃ (s : State), ∃ (p fid : Nat), s.quiet ∧ p < s.variant.ports ∧ s.link p = 6 ∧ (s.mode p).kind ≠ 2 ∧ s.fresh fid = true ∧ s.obj (O.ISOLATE_THRESHOLD (tileOf p)) = 0) ∧
    (∃ (s : State), ∃ (p : Nat), s.quiet ∧ p < s.variant.ports ∧ s.link p ≠ 6) ∧
    (∃ (s : State), ∃ (p fid : Nat), s.quiet ∧ p < s.variant.ports ∧ ∃ (f : Frame), s.frame fid = some f ∧ f.src = .port p ∧ f.ended = false ∧ f.cut = 0 ∧ f.charge = none ∧ f.flying = false ∧ f.resolved = false ∧ s.copiesOf fid = [] ∧ f.limit < f.wire) ∧
    (∃ (s : State), ∃ (p fid : Nat), s.quiet ∧ p < s.variant.ports ∧ ∃ (f : Frame), s.frame fid = some f ∧ f.src = .port p ∧ f.ended = false ∧ f.cut = 0 ∧ f.charge = none ∧ f.flying = false ∧ f.resolved = false ∧ s.copiesOf fid = [] ∧ 16383 < f.wire) ∧
    (∃ (s : State), ∃ (p fid : Nat), s.quiet ∧ p < s.variant.ports ∧ ∃ (f : Frame), s.frame fid = some f ∧ f.src = .port p ∧ f.ended = false ∧ f.cut = 0 ∧ f.charge = none ∧ f.flying = false ∧ f.resolved = false ∧ s.copiesOf fid = [] ∧ ∃ fcs, (fcs == crc32 f.data) = false) ∧
    (∃ (s : State), ∃ (p fid : Nat), s.quiet ∧ p < s.variant.ports ∧ ∃ (f : Frame), s.frame fid = some f ∧ f.src = .port p ∧ f.ended = false ∧ f.cut = 0 ∧ f.charge = none ∧ f.flying = false ∧ f.resolved = false ∧ s.copiesOf fid = [] ∧ s.obj (O.WAKE_ENABLE p) = 0 ∧ takenKind s.mgmt f = 0 ∧ s.pipeOn (tileOf p) (pipeOf p) = true ∧ rxOutcome f.wire f.limit false true = 0 ∧ f.bad = false) ∧
    (∃ (s : State), ∃ (p fid : Nat), s.quiet ∧ p < s.variant.ports ∧ ∃ (f : Frame), s.frame fid = some f ∧ f.src = .port p ∧ f.ended = false ∧ f.cut = 0 ∧ f.charge = none ∧ f.flying = false ∧ f.resolved = false ∧ s.copiesOf fid = [] ∧ s.obj (O.WAKE_ENABLE p) = 0 ∧ takenKind s.mgmt f = 0 ∧ f.laned = false ∧ s.pipeOn (tileOf p) (pipeOf p) = false ∧ rxOutcome f.wire f.limit false true = 0) ∧
    (∃ (s : State), ∃ (p : Nat), s.quiet ∧ p < s.variant.ports ∧ ∃ fid, ∃ (f : Frame), ∃ k, s.frame fid = some f ∧ f.src = .port p ∧ f.ended = false ∧ f.cut = 0 ∧ takenKind s.mgmt f = 0 ∧ f.resolved = false ∧ rxOutcome f.wire f.limit false true = 0 ∧ bitList 17 (Nat.land (s.wakeHits p f) (s.obj (O.WAKE_ENABLE p))) = [k] ∧ s.obj (O.WAKE_CAUSE p) = 0) ∧
    (∃ (s : State), ∃ (now p : Nat), s.quiet ∧ p < s.variant.ports ∧ ∃ r, s.accepts now r (O.WAKE_CLEAR p) [1] = true) := by
  refine ⟨⟨(lk up 0 2 6 4), 0, 4, ⟨?_, ?_⟩, ?_, ?_, ?_, ?_⟩,
    ⟨(put (lk up 0 2 6 4) [(O.ISOLATE_THRESHOLD 0, 0)]), 0, 4, ⟨?_, ?_⟩, ?_, ?_, ?_, ?_, ?_⟩,
    ⟨(lk up 0 2 5 4), 0, ⟨?_, ?_⟩, ?_, ?_⟩,
    ⟨((lk up 0 2 6 4).setFrame 4 (some ({ fr 0 100 with ended := false, limit := 90, wire := 104 } : Frame))), 0, 4, ⟨?_, ?_⟩, ?_, ({ fr 0 100 with ended := false, limit := 90, wire := 104 } : Frame), ?_, ?_, ?_, ?_, ?_, ?_, ?_, ?_, ?_⟩,
    ⟨((lk up 0 2 6 4).setFrame 4 (some ({ fr 0 100 with ended := false, limit := 1518, wire := 16400 } : Frame))), 0, 4, ⟨?_, ?_⟩, ?_, ({ fr 0 100 with ended := false, limit := 1518, wire := 16400 } : Frame), ?_, ?_, ?_, ?_, ?_, ?_, ?_, ?_, ?_⟩,
    ⟨((lk up 0 2 6 4).setFrame 4 (some ({ fr 0 100 with ended := false, limit := 1518, wire := 104 } : Frame))), 0, 4, ⟨?_, ?_⟩, ?_, ({ fr 0 100 with ended := false, limit := 1518, wire := 104 } : Frame), ?_, ?_, ?_, ?_, ?_, ?_, ?_, ?_, 0, ?_⟩,
    ⟨((lk up 0 2 6 4).setFrame 4 (some ({ fr 0 100 with ended := false, limit := 1518, wire := 104 } : Frame))), 0, 4, ⟨?_, ?_⟩, ?_, ({ fr 0 100 with ended := false, limit := 1518, wire := 104 } : Frame), ?_, ?_, ?_, ?_, ?_, ?_, ?_, ?_, ?_, ?_, ?_, ?_, ?_⟩,
    ⟨((put (lk up 0 2 6 4) [(O.PD_ON 0, 0)]).setFrame 4 (some ({ fr 0 100 with ended := false, limit := 1518, wire := 104 } : Frame))), 0, 4, ⟨?_, ?_⟩, ?_, ({ fr 0 100 with ended := false, limit := 1518, wire := 104 } : Frame), ?_, ?_, ?_, ?_, ?_, ?_, ?_, ?_, ?_, ?_, ?_, ?_, ?_⟩,
    ⟨((put (lk up 0 2 6 4) [(O.WAKE_ENABLE 0, 8)]).setFrame 4 (some ({ fr 0 100 with ended := false, wakeHit := 8, limit := 1518, wire := 104 } : Frame))), 0, ⟨?_, ?_⟩, ?_, 4, ({ fr 0 100 with ended := false, wakeHit := 8, limit := 1518, wire := 104 } : Frame), 3, ?_, ?_, ?_, ?_, ?_, ?_, ?_, ?_, ?_⟩,
    ⟨(put (lk up 0 2 6 4) [(O.WAKE_CAUSE 0, 8)]), 5, 0, ⟨?_, ?_⟩, ?_, m0, ?_⟩⟩ <;> decide +kernel

/-- States and operands that meet the hypotheses of `Obligations.FlowControl`. -/
theorem hold_FlowControl :
    (∃ (s : State), ∃ (p : Nat), ∃ (fr : Bytes), s.quiet ∧ p < s.variant.ports ∧ s.link p = 6 ∧ (s.mode p).kind ≠ 2 ∧ s.obj (O.WAKE_ENABLE p) = 0 ∧ beAt fr 12 2 = 0x8808 ∧ beAt fr 0 6 = 0x0180C2000001 ∧ bit (s.obj (O.FC_DIR p)) 0 = true ∧ s.obj (O.DUPLEX_NOW p) = 0 ∧ rxOutcome (fr.length + 4) (s.maxLen p s.currentSlot fr) false true = 0 ∧ ∃ i, beAt fr 14 2 = 0x0101 ∧ s.obj (O.FC_MODE p) = 2 ∧ bitList 8 (byteAt fr 17) = [i] ∧ beAt fr (18 + 2 * i) 2 ≠ 0) ∧
    (∃ (s : State), ∃ (p : Nat), ∃ (fr : Bytes), s.quiet ∧ p < s.variant.ports ∧ s.link p = 6 ∧ (s.mode p).kind ≠ 2 ∧ s.obj (O.WAKE_ENABLE p) = 0 ∧ beAt fr 12 2 = 0x8808 ∧ beAt fr 0 6 = 0x0180C2000001 ∧ bit (s.obj (O.FC_DIR p)) 0 = true ∧ s.obj (O.DUPLEX_NOW p) = 0 ∧ rxOutcome (fr.length + 4) (s.maxLen p s.currentSlot fr) false true = 0 ∧ ∃ i, beAt fr 14 2 = 0x0101 ∧ s.obj (O.FC_MODE p) = 2 ∧ bitList 8 (byteAt fr 17) = [i] ∧ beAt fr (18 + 2 * i) 2 = 0) ∧
    (∃ (s : State), ∃ (p : Nat), ∃ (fr : Bytes), s.quiet ∧ p < s.variant.ports ∧ s.link p = 6 ∧ (s.mode p).kind ≠ 2 ∧ s.obj (O.WAKE_ENABLE p) = 0 ∧ beAt fr 12 2 = 0x8808 ∧ beAt fr 0 6 = 0x0180C2000001 ∧ bit (s.obj (O.FC_DIR p)) 0 = true ∧ s.obj (O.DUPLEX_NOW p) = 0 ∧ rxOutcome (fr.length + 4) (s.maxLen p s.currentSlot fr) false true = 0 ∧ beAt fr 14 2 = 1 ∧ s.obj (O.FC_MODE p) = 1 ∧ beAt fr 16 2 ≠ 0) ∧
    (∃ (s : State), ∃ (now p : Nat), s.quiet ∧ p < s.variant.ports ∧ ∃ i, i < 8 ∧ bit (s.obj (O.PAUSED_NOW p)) i = true ∧ tget 0 (s.port p).pauseEnd i ≤ max s.now now) ∧
    (∃ (s : State), ∃ (now p : Nat), ∃ (i : Nat), s.quiet ∧ p < s.variant.ports ∧ i < 8 ∧ ∃ (written : List (Nat × Nat × Nat)), ∃ (a : State), (s.at now).cellsNow written = a ∧ a.quiet ∧ a.generates p = 2 ∧ bit (a.obj (O.PFC_PRIOS p)) i = true ∧ a.ingressHeld p i < 2 ^ 32 ∧ bit (a.obj (O.XOFF_SENT p)) i = false ∧ a.obj (O.XOFF_CELLS p i) < a.ingressHeld p i) ∧
    (∃ (s : State), ∃ (now p : Nat), ∃ (i : Nat), s.quiet ∧ p < s.variant.ports ∧ i < 8 ∧ ∃ (written : List (Nat × Nat × Nat)), ∃ (a : State), (s.at now).cellsNow written = a ∧ a.quiet ∧ a.generates p = 2 ∧ bit (a.obj (O.PFC_PRIOS p)) i = true ∧ a.ingressHeld p i < 2 ^ 32 ∧ bit (a.obj (O.XOFF_SENT p)) i = true ∧ a.ingressHeld p i ≤ a.obj (O.XON_CELLS p i)) ∧
    (∃ (s : State), ∃ (now p : Nat), ∃ (i : Nat), s.quiet ∧ p < s.variant.ports ∧ i < 8 ∧ s.generates p = 2 ∧ bit (s.obj (O.PFC_PRIOS p)) i = true ∧ bit (s.obj (O.XOFF_SENT p)) i = true ∧ s.obj (O.XON_CELLS p i) < octets (s.obj (O.INGRESS_CELLS p)) (4 * i) 4 ∧ tget 0 (s.port p).xoffAt i + s.quanta p (s.obj (O.PAUSE_REFRESH p)) ≤ max s.now now) ∧
    (∃ (s : State), ∃ (p i : Nat), s.quiet ∧ p < s.variant.ports ∧ i < 8 ∧ ∃ n, ∃ (l : List (Nat × Nat)), ∃ (rest : List (Nat × List (Nat × Nat))), (s.port p).pauseDue = (n, l) :: rest ∧ s.link p = 6 ∧ (s.burin p).tx = none ∧ (s.port p).sel = none ∧ (s.port p).lpi = false ∧ s.obj (O.DUPLEX_NOW p) = 0 ∧ s.shedHolds p = false) := by
  refine ⟨⟨(put (lk up 0 2 6 4) [(O.FC_MODE 0, 2), (O.FC_DIR 0, 1)]), 0, ([1, 0x80, 0xC2, 0, 0, 1, 9, 9, 9, 9, 9, 9, 0x88, 8] ++ [1, 1] ++ [0, 8, 0, 0, 0, 0, 0, 0, 0, 9, 0, 0, 0, 0] ++ List.replicate 30 0 : Bytes), ⟨?_, ?_⟩, ?_, ?_, ?_, ?_, ?_, ?_, ?_, ?_, ?_, 3, ?_, ?_, ?_, ?_⟩,
    ⟨(put (lk up 0 2 6 4) [(O.FC_MODE 0, 2), (O.FC_DIR 0, 1)]), 0, ([1, 0x80, 0xC2, 0, 0, 1, 9, 9, 9, 9, 9, 9, 0x88, 8] ++ [1, 1] ++ [0, 8, 0, 0, 0, 0, 0, 0, 0, 0, 0, 0, 0, 0] ++ List.replicate 30 0 : Bytes), ⟨?_, ?_⟩, ?_, ?_, ?_, ?_, ?_, ?_, ?_, ?_, ?_, 3, ?_, ?_, ?_, ?_⟩,
    ⟨(put (lk up 0 2 6 4) [(O.FC_MODE 0, 1), (O.FC_DIR 0, 1)]), 0, ([1, 0x80, 0xC2, 0, 0, 1, 9, 9, 9, 9, 9, 9, 0x88, 8] ++ [0, 1] ++ [0, 7, 0, 0, 0, 0, 0, 0, 0, 0, 0, 0, 0, 0] ++ List.replicate 30 0 : Bytes), ⟨?_, ?_⟩, ?_, ?_, ?_, ?_, ?_, ?_, ?_, ?_, ?_, ?_, ?_, ?_⟩,
    ⟨(put (lk up 0 2 6 4) [(O.FC_MODE 0, 2), (O.FC_DIR 0, 1), (O.PAUSED_NOW 0, 8)]), 5, 0, ⟨?_, ?_⟩, ?_, 3, ?_, ?_, ?_⟩,
    ⟨({ (((put (lk up 0 2 6 4) [(O.FC_MODE 0, 2), (O.FC_DIR 0, 2), (O.PFC_PRIOS 0, 255), (O.XOFF_CELLS 0 3, 4), (O.XON_CELLS 0 3, 1)]).setFrame 4 (some { fr 0 100 with prio := 3 }))) with holds := [(32, { banks := List.replicate 9 0 })] } : State), 5, 0, 3, ⟨?_, ?_⟩, ?_, ?_, ([] : List (Nat × Nat × Nat)), (({ (((put (lk up 0 2 6 4) [(O.FC_MODE 0, 2), (O.FC_DIR 0, 2), (O.PFC_PRIOS 0, 255), (O.XOFF_CELLS 0 3, 4), (O.XON_CELLS 0 3, 1)]).setFrame 4 (some { fr 0 100 with prio := 3 }))) with holds := [(32, { banks := List.replicate 9 0 })] } : State).at 5 : State), rfl, ⟨?_, ?_⟩, ?_, ?_, ?_, ?_, ?_⟩,
    ⟨({ (((put (lk up 0 2 6 4) [(O.FC_MODE 0, 2), (O.FC_DIR 0, 2), (O.PFC_PRIOS 0, 255), (O.XOFF_CELLS 0 3, 4), (O.XON_CELLS 0 3, 1), (O.XOFF_SENT 0, 8)]).setFrame 4 (some { fr 0 100 with prio := 3 }))) with holds := [(32, { banks := List.replicate 1 0 })] } : State), 5, 0, 3, ⟨?_, ?_⟩, ?_, ?_, ([] : List (Nat × Nat × Nat)), (({ (((put (lk up 0 2 6 4) [(O.FC_MODE 0, 2), (O.FC_DIR 0, 2), (O.PFC_PRIOS 0, 255), (O.XOFF_CELLS 0 3, 4), (O.XON_CELLS 0 3, 1), (O.XOFF_SENT 0, 8)]).setFrame 4 (some { fr 0 100 with prio := 3 }))) with holds := [(32, { banks := List.replicate 1 0 })] } : State).at 5 : State), rfl, ⟨?_, ?_⟩, ?_, ?_, ?_, ?_, ?_⟩,
    ⟨(put (lk up 0 2 6 4) [(O.FC_MODE 0, 2), (O.FC_DIR 0, 2), (O.PFC_PRIOS 0, 255), (O.XOFF_CELLS 0 3, 4), (O.XON_CELLS 0 3, 1), (O.XOFF_SENT 0, 8), (O.INGRESS_CELLS 0, 9 * 2 ^ 96)]), 9000 * secU, 0, 3, ⟨?_, ?_⟩, ?_, ?_, ?_, ?_, ?_, ?_, ?_⟩,
    ⟨((put (lk up 0 2 6 4) [(O.FC_MODE 0, 2), (O.FC_DIR 0, 2), (O.PFC_PRIOS 0, 255), (O.XOFF_CELLS 0 3, 4), (O.XON_CELLS 0 3, 1)]).modPort 0 (fun x => { x with pauseDue := [(2, [(3, 5)])] })), 0, 3, ⟨?_, ?_⟩, ?_, ?_, 2, ([(3, 5)] : List (Nat × Nat)), ([] : List (Nat × List (Nat × Nat))), ?_, ?_, ?_, ?_, ?_, ?_, ?_⟩⟩ <;> decide +kernel

/-- States and operands that meet the hypotheses of `Obligations.LineStates`. -/
theorem hold_LineStates :
    (∃ (s : State), ∃ (now p : Nat), s.quiet ∧ p < s.variant.ports ∧ s.eeeKind p = 1 ∧ s.txBusy p = false ∧ (s.port p).lpi = false ∧ (s.port p).idleFrom + s.obj (O.EEE_IDLE p) * usU ≤ max s.now now) ∧
    (∃ (s : State), ∃ (now p : Nat), s.quiet ∧ p < s.variant.ports ∧ ∃ i, (s.port p).lpiWake = some i ∧ i ≤ max s.now now) ∧
    (∃ (s : State), ∃ (p : Nat), s.quiet ∧ p < s.variant.ports ∧ ∃ (x : Tx), ∃ bits, (s.burin p).tx = some x ∧ s.obj (O.DUPLEX_NOW p) = 1 ∧ (s.port p).hdWait = false ∧ (s.port p).collisions < 15 ∧ bits ≤ 512) ∧
    (∃ (s : State), ∃ (p : Nat), s.quiet ∧ p < s.variant.ports ∧ ∃ (x : Tx), ∃ bits, (s.burin p).tx = some x ∧ s.obj (O.DUPLEX_NOW p) = 1 ∧ (s.port p).hdWait = false ∧ (s.port p).collisions < 15 ∧ 512 < bits) ∧
    (∃ (s : State), ∃ (now p : Nat), s.quiet ∧ p < s.variant.ports ∧ ∃ (x : Tx), (s.burin p).tx = some x ∧ (s.port p).hdWait = true ∧ (s.port p).hdEnd ≤ max s.now now ∧ s.carrier p = false) := by
  refine ⟨⟨(put (lk up 0 2 6 4) [(O.EEE_ENABLE 0, 1)]), 9000 * secU, 0, ⟨?_, ?_⟩, ?_, ?_, ?_, ?_, ?_⟩,
    ⟨((lk up 0 2 6 4).modPort 0 (fun x => { x with lpi := true, lpiWake := some 4 })), 5, 0, ⟨?_, ?_⟩, ?_, 4, ?_, ?_⟩,
    ⟨({ (put (lk up 0 17 6 4) [(O.DUPLEX_NOW 0, 1), (O.SPEED_NOW 0, 100)]) with burins := [(0, { tx := some (⟨4, 1, 0, 0, 0, [1, 2, 3], false, {}, 1518, 0⟩ : Tx) })] } : State), 0, ⟨?_, ?_⟩, ?_, (⟨4, 1, 0, 0, 0, [1, 2, 3], false, {}, 1518, 0⟩ : Tx), 100, ?_, ?_, ?_, ?_, ?_⟩,
    ⟨({ (put (lk up 0 17 6 4) [(O.DUPLEX_NOW 0, 1), (O.SPEED_NOW 0, 100)]) with burins := [(0, { tx := some (⟨4, 1, 0, 0, 0, [1, 2, 3], false, {}, 1518, 0⟩ : Tx) })] } : State), 0, ⟨?_, ?_⟩, ?_, (⟨4, 1, 0, 0, 0, [1, 2, 3], false, {}, 1518, 0⟩ : Tx), 600, ?_, ?_, ?_, ?_, ?_⟩,
    ⟨({ ((put (lk up 0 17 6 4) [(O.DUPLEX_NOW 0, 1), (O.SPEED_NOW 0, 100)]).modPort 0 (fun x => { x with hdWait := true, hdEnd := 4 })) with burins := [(0, { tx := some (⟨4, 1, 0, 0, 0, [1, 2, 3], false, {}, 1518, 0⟩ : Tx) })] } : State), 5, 0, ⟨?_, ?_⟩, ?_, (⟨4, 1, 0, 0, 0, [1, 2, 3], false, {}, 1518, 0⟩ : Tx), ?_, ?_, ?_, ?_⟩⟩ <;> decide +kernel

/-- States and operands that meet the hypotheses of `Obligations.PipeLookup`. -/
theorem hold_PipeLookup :
    (∃ (s : State), ∃ (now fid : Nat), ∃ (lane middle : Nat), ∃ (f : Frame), s.quiet ∧ s.frame fid = some f ∧ (s.at now).etchSwitch = s.at now ∧ (s.at now).laneFree f lane = true ∧ f.pass = 0 ∧ f.lastSeg = false ∧ ((s.at now).position fid f middle).1 = true ∧ s.pairOk (.current f.src.tile f.src.pipe) = true) ∧
    (∃ (s : State), ∃ (now fid : Nat), ∃ (lane middle : Nat), ∃ (f : Frame), s.quiet ∧ s.frame fid = some f ∧ (s.at now).etchSwitch = s.at now ∧ (s.at now).laneFree f lane = true ∧ f.pass ≠ 0 ∧ ((s.at now).position fid f middle).1 = true) ∧
    (∃ (s : State), ∃ (now fid : Nat), ∃ (lane middle : Nat), ∃ (f : Frame), s.quiet ∧ s.frame fid = some f ∧ (s.at now).etchSwitch = s.at now ∧ (s.at now).laneFree f lane = true ∧ ((s.at now).position fid f middle).1 = false) ∧
    (∃ (s : State), ∃ (fid p : Nat), ∃ (f : Frame), s.quiet ∧ s.frame fid = some f ∧ f.laned = true ∧ f.resolved = false ∧ f.bad = false ∧ f.lastSeg = false ∧ f.ended = false ∧ f.hm.desc = none ∧ (s.parseOf f).outcome = 0 ∧ s.inTurn f (fun g => g.laned && !g.resolved && !g.bad) = true ∧ ∃ a, ∃ (rule : Option Nat), f.src = .port p ∧ f.hm.dstPort = 0xFF ∧ s.lookup f (s.parseOf f) false = .action a rule ∧ bit a 4 = false ∧ bit a 5 = false ∧ bit a 63 = false ∧ octet a 0 / 64 = 1 ∧ octet a 1 / 64 = 0 ∧ s.portUp (octets a 2 2) = true ∧ (s.mode (octets a 2 2)).kind ≠ 2) ∧
    (∃ (s : State), ∃ (fid p : Nat), ∃ (f : Frame), s.quiet ∧ s.frame fid = some f ∧ f.laned = true ∧ f.resolved = false ∧ f.bad = false ∧ f.lastSeg = false ∧ f.ended = false ∧ f.hm.desc = none ∧ (s.parseOf f).outcome = 0 ∧ s.inTurn f (fun g => g.laned && !g.resolved && !g.bad) = true ∧ ∃ a, ∃ (rule : Option Nat), f.src = .port p ∧ f.hm.dstPort = 0xFF ∧ s.lookup f (s.parseOf f) false = .action a rule ∧ bit a 4 = false ∧ bit a 5 = false ∧ bit a 63 = false ∧ octet a 0 / 64 ≠ 1) ∧
    (∃ (s : State), ∃ (fid p : Nat), ∃ (f : Frame), s.quiet ∧ s.frame fid = some f ∧ f.laned = true ∧ f.resolved = false ∧ f.bad = false ∧ f.lastSeg = false ∧ f.ended = false ∧ f.hm.desc = none ∧ (s.parseOf f).outcome = 0 ∧ s.inTurn f (fun g => g.laned && !g.resolved && !g.bad) = true ∧ f.src = .port p ∧ f.hm.dstPort = 0xFF ∧ s.lookup f (s.parseOf f) false = .unmatched ∧ s.obj (O.UNMATCHED_MODE (tileOf p)) = 1) ∧
    (∃ (s : State), ∃ (now fid : Nat), ∃ (p : Nat), ∃ (f : Frame), s.quiet ∧ s.frame fid = some f ∧ f.laned = true ∧ f.resolved = false ∧ f.bad = false ∧ f.lastSeg = false ∧ f.ended = false ∧ f.hm.desc = none ∧ (s.parseOf f).outcome = 0 ∧ s.inTurn f (fun g => g.laned && !g.resolved && !g.bad) = true ∧ f.src = .port p ∧ f.hm.dstPort = 0xFF ∧ s.lookup f (s.parseOf f) false = .unmatched ∧ s.obj (O.UNMATCHED_MODE (tileOf p)) ≠ 1 ∧ 1000000 ≤ ((s.at now).limiterRefill (tileOf p)).limCredit (tileOf p) 1 ∧ (∃ k d, s.obj (O.PROC_UNMATCHED_DST (tileOf p)) = (k + 1) * 65536 + d ∧ d < 65536)) ∧
    (∃ (s : State), ∃ (fid : Nat), ∃ (f : Frame), s.quiet ∧ s.frame fid = some f ∧ f.laned = true ∧ f.resolved = false ∧ f.bad = false ∧ f.lastSeg = false ∧ f.ended = false ∧ f.hm.desc = none ∧ (s.parseOf f).outcome = 0 ∧ s.inTurn f (fun g => g.laned && !g.resolved && !g.bad) = true ∧ f.hm.dstPort ≠ 0xFF ∧ s.portUp f.hm.dstPort = true ∧ (s.mode f.hm.dstPort).kind ≠ 2) := by
  refine ⟨⟨((lk up 0 2 6 4).setFrame 4 (some ({ fr 0 100 with ended := false } : Frame))), 5, 4, 1, 0, ({ fr 0 100 with ended := false } : Frame), ⟨?_, ?_⟩, ?_, ?_, ?_, ?_, ?_, ?_, ?_⟩,
    ⟨((lk up 0 2 6 4).setFrame 4 (some ({ fr 0 100 with ended := false, pass := 1 } : Frame))), 5, 4, 1, 0, ({ fr 0 100 with ended := false, pass := 1 } : Frame), ⟨?_, ?_⟩, ?_, ?_, ?_, ?_, ?_⟩,
    ⟨({ ((lk up 0 2 6 4).setFrame 4 (some ({ fr 0 100 with ended := false } : Frame))) with words := [(0, { port := 4 })] } : State), 5, 4, 1, 0, ({ fr 0 100 with ended := false } : Frame), ⟨?_, ?_⟩, ?_, ?_, ?_, ?_⟩,
    ⟨(({ (lk up 0 2 6 4) with etchObjs := [(4 * O.KEY_SEL, 0xFF00FF00FF00FF00FF00FF00FF00FF00)], em := [(0, [{ profile := 0, key := [], action := (0x40 + 77 * 2 ^ 64), slots := [0] }])] } : State).setFrame 4 (some ({ fr 0 100 with ended := false, laned := true } : Frame))), 4, 0, ({ fr 0 100 with ended := false, laned := true } : Frame), ⟨?_, ?_⟩, ?_, ?_, ?_, ?_, ?_, ?_, ?_, ?_, ?_, (0x40 + 77 * 2 ^ 64), (none : Option Nat), ?_, ?_, ?_, ?_, ?_, ?_, ?_, ?_, ?_, ?_⟩,
    ⟨(({ (lk up 0 2 6 4) with etchObjs := [(4 * O.KEY_SEL, 0xFF00FF00FF00FF00FF00FF00FF00FF00)], em := [(0, [{ profile := 0, key := [], action := (0x80 + 77 * 2 ^ 64), slots := [0] }])] } : State).setFrame 4 (some ({ fr 0 100 with ended := false, laned := true } : Frame))), 4, 0, ({ fr 0 100 with ended := false, laned := true } : Frame), ⟨?_, ?_⟩, ?_, ?_, ?_, ?_, ?_, ?_, ?_, ?_, ?_, (0x80 + 77 * 2 ^ 64), (none : Option Nat), ?_, ?_, ?_, ?_, ?_, ?_, ?_⟩,
    ⟨((put (lk up 0 2 6 4) [(O.UNMATCHED_MODE 0, 1)]).setFrame 4 (some ({ fr 0 100 with ended := false, laned := true } : Frame))), 4, 0, ({ fr 0 100 with ended := false, laned := true } : Frame), ⟨?_, ?_⟩, ?_, ?_, ?_, ?_, ?_, ?_, ?_, ?_, ?_, ?_, ?_, ?_, ?_⟩,
    ⟨((put (lk up 0 2 6 4) [(O.UNMATCHED_MODE 0, 0), (O.PROC_UNMATCHED_DST 0, 0x10003)]).setFrame 4 (some ({ fr 0 100 with ended := false, laned := true } : Frame))), 5, 4, 0, ({ fr 0 100 with ended := false, laned := true } : Frame), ⟨?_, ?_⟩, ?_, ?_, ?_, ?_, ?_, ?_, ?_, ?_, ?_, ?_, ?_, ?_, ?_, ?_, ⟨0, 3, by decide +kernel, by decide +kernel⟩⟩,
    ⟨((lk up 0 2 6 4).setFrame 4 (some ({ fr 0 100 with ended := false, laned := true, hm := { dstPort := 0 } } : Frame))), 4, ({ fr 0 100 with ended := false, laned := true, hm := { dstPort := 0 } } : Frame), ⟨?_, ?_⟩, ?_, ?_, ?_, ?_, ?_, ?_, ?_, ?_, ?_, ?_, ?_, ?_⟩⟩ <;> decide +kernel

/-- States and operands that meet the hypotheses of `Obligations.PipeExit`. -/
theorem hold_PipeExit :
    (∃ (s : State), ∃ (now fid : Nat), ∃ (f : Frame), s.quiet ∧ s.frame fid = some f ∧ f.laned = true ∧ f.bad = false ∧ f.ended = true ∧ f.resolved = true ∧ f.charge = none ∧ f.hm.desc = none ∧ ∃ middle, (f.segments ≤ 1 ∨ ((s.at now).position fid f middle).1 = true) ∧ f.lastSeg = false ∧ f.outcome = 0 ∧ f.req ≤ f.data.length ∧ f.recirc = false ∧ f.flying = true ∧ s.copiesOf fid ≠ []) ∧
    (∃ (s : State), ∃ (now fid : Nat), ∃ (f : Frame), s.quiet ∧ s.frame fid = some f ∧ f.laned = true ∧ f.bad = false ∧ f.ended = true ∧ f.resolved = true ∧ f.charge = none ∧ f.hm.desc = none ∧ ∃ middle, 1 < f.segments ∧ ((s.at now).position fid f middle).1 = false ∧ f.lastSeg = false) ∧
    (∃ (s : State), ∃ (now fid : Nat), ∃ (f : Frame), s.quiet ∧ s.frame fid = some f ∧ f.laned = true ∧ f.bad = false ∧ f.ended = true ∧ f.resolved = true ∧ f.charge = none ∧ f.hm.desc = none ∧ ∃ middle, (f.segments ≤ 1 ∨ ((s.at now).position fid f middle).1 = true) ∧ f.lastSeg = false ∧ f.outcome = 0 ∧ f.data.length < f.req ∧ f.hm.dstPort = 0xFF ∧ s.etchVal f.slot O.ACT_LENGTH = 0 ∧ f.flying = true ∧ s.copiesOf fid = []) ∧
    (∃ (s : State), ∃ (fid : Nat), ∃ (f : Frame), s.quiet ∧ s.frame fid = some f ∧ f.laned = true ∧ f.bad = false ∧ f.ended = true ∧ f.resolved = true ∧ f.charge = none ∧ f.hm.desc = none ∧ f.lastSeg = true ∧ f.recirc = true) ∧
    (∃ (s : State), ∃ (now fid : Nat), ∃ (f : Frame), s.quiet ∧ s.frame fid = some f ∧ f.laned = true ∧ f.bad = false ∧ f.ended = true ∧ f.resolved = true ∧ f.charge = none ∧ f.hm.desc = none ∧ ∃ t, t < s.variant.tiles ∧ (s.at now).wholeUs = true ∧ tget 0 (s.tile t).refilled 1 ≠ max s.now now + 1) := by
  refine ⟨⟨(hold (lk up 0 2 6 4) 4 ({ fr 0 100 with ended := true, laned := true, resolved := true, flying := true } : Frame) ({ dst := .port 1 3, place := .arrived } : Copy)), 5, 4, ({ fr 0 100 with ended := true, laned := true, resolved := true, flying := true } : Frame), ⟨?_, ?_⟩, ?_, ?_, ?_, ?_, ?_, ?_, ?_, 0, ?_, ?_, ?_, ?_, ?_, ?_, ?_⟩,
    ⟨({ (hold (lk up 0 2 6 4) 4 ({ fr 0 100 with ended := true, laned := true, resolved := true, flying := true } : Frame) ({ dst := .port 1 3, place := .arrived } : Copy)) with words := [(0, { port := 4 })] } : State), 5, 4, ({ fr 0 100 with ended := true, laned := true, resolved := true, flying := true } : Frame), ⟨?_, ?_⟩, ?_, ?_, ?_, ?_, ?_, ?_, ?_, 0, ?_, ?_, ?_⟩,
    ⟨((lk up 0 2 6 4).setFrame 4 (some ({ fr 0 100 with ended := true, laned := true, resolved := true, flying := true, req := 200 } : Frame))), 5, 4, ({ fr 0 100 with ended := true, laned := true, resolved := true, flying := true, req := 200 } : Frame), ⟨?_, ?_⟩, ?_, ?_, ?_, ?_, ?_, ?_, ?_, 0, ?_, ?_, ?_, ?_, ?_, ?_, ?_, ?_⟩,
    ⟨((lk up 0 2 6 4).setFrame 4 (some ({ fr 0 100 with ended := true, laned := true, resolved := true, lastSeg := true, recirc := true } : Frame))), 4, ({ fr 0 100 with ended := true, laned := true, resolved := true, lastSeg := true, recirc := true } : Frame), ⟨?_, ?_⟩, ?_, ?_, ?_, ?_, ?_, ?_, ?_, ?_, ?_⟩,
    ⟨((lk up 0 2 6 4).setFrame 4 (some ({ fr 0 100 with ended := true, laned := true, resolved := true, lastSeg := true, recirc := true } : Frame))), 0, 4, ({ fr 0 100 with ended := true, laned := true, resolved := true, lastSeg := true, recirc := true } : Frame), ⟨?_, ?_⟩, ?_, ?_, ?_, ?_, ?_, ?_, ?_, 0, ?_, ?_, ?_⟩⟩ <;> decide +kernel

/-- States and operands that meet the hypotheses of `Obligations.Fabric`. -/
theorem hold_Fabric :
    (∃ (s : State), ∃ (now t : Nat), ∃ (fid h : Nat), ∃ (c : Copy), ∃ (f : Frame), s.quiet ∧ t < s.variant.tiles ∧ s.both fid h = some (c, f) ∧ inTransit c f t = true ∧ s.copyInTurn c f = true ∧ f.hm.desc = none ∧ ∃ k, ∃ whole, k < 3 ∧ ((whole = false ∧ 1 < f.segments) ∨ c.staged = []) ∧ s.routeTo t c.dst.tile = k + 1 ∧ s.colUp t k = true ∧ c.path.length < 3 ∧ (s.at now).stagedAtStart t k + 16384 ≤ 262144) ∧
    (∃ (s : State), ∃ (t fid : Nat), ∃ (h : Nat), ∃ (c : Copy), ∃ (f : Frame), s.quiet ∧ t < s.variant.tiles ∧ s.both fid h = some (c, f) ∧ inTransit c f t = true ∧ s.copyInTurn c f = true ∧ f.hm.desc = none ∧ s.routeTo t c.dst.tile = 0) ∧
    (∃ (s : State), ∃ (t fid : Nat), ∃ (h : Nat), ∃ (c : Copy), ∃ (f : Frame), s.quiet ∧ t < s.variant.tiles ∧ s.both fid h = some (c, f) ∧ inTransit c f t = true ∧ s.copyInTurn c f = true ∧ f.hm.desc = none ∧ ∃ k, k < 3 ∧ s.routeTo t c.dst.tile = k + 1 ∧ s.colUp t k = true ∧ 3 ≤ c.path.length) ∧
    (∃ (s : State), ∃ (now t : Nat), ∃ (fid h : Nat), ∃ (c : Copy), ∃ (f : Frame), s.quiet ∧ t < s.variant.tiles ∧ s.both fid h = some (c, f) ∧ inTransit c f t = true ∧ s.copyInTurn c f = true ∧ f.hm.desc = none ∧ ∃ k, ∃ whole, k < 3 ∧ ((whole = false ∧ 1 < f.segments) ∨ c.staged = []) ∧ s.routeTo t c.dst.tile = k + 1 ∧ s.colUp t k = true ∧ c.path.length < 3 ∧ 262144 < (s.at now).stagedAtStart t k + 16384) ∧
    (∃ (s : State), ∃ (t fid : Nat), ∃ (h : Nat), ∃ (c : Copy), ∃ (f : Frame), s.quiet ∧ t < s.variant.tiles ∧ s.both fid h = some (c, f) ∧ inTransit c f t = true ∧ s.copyInTurn c f = true ∧ f.hm.desc = none ∧ ∃ x, ∃ k, c.place = .link x k ∧ s.obj (O.ISOLATE_THRESHOLD t) = 0) ∧
    (∃ (s : State), ∃ (t k : Nat), s.quiet ∧ t < s.variant.tiles ∧ k < s.variant.colLinks ∧ k < 3 ∧ s.col t k = 3 ∧ s.onLink t k = [] ∧ s.onLink (neighbour t k) k = []) ∧
    (∃ (s : State), ∃ (t k : Nat), s.quiet ∧ t < s.variant.tiles ∧ k < s.variant.colLinks ∧ k < 3 ∧ s.col t k = 2) ∧
    (∃ (s : State), ∃ (now t : Nat), ∃ (k : Nat), s.quiet ∧ t < s.variant.tiles ∧ k < s.variant.colLinks ∧ k < 3 ∧ s.col t k = 2 ∧ tget 0 (s.tile t).linkAt k + 2 * msU ≤ max s.now now) ∧
    (∃ (s : State), ∃ (now t : Nat), ∃ (k : Nat), s.quiet ∧ t < s.variant.tiles ∧ k < s.variant.colLinks ∧ k < 3 ∧ s.col t k = 1 ∧ tget 0 (s.tile t).linkAt k + secU ≤ max s.now now ∧ s.linkReady t k = true) ∧
    (∃ (s : State), ∃ (t k : Nat), s.quiet ∧ t < s.variant.tiles ∧ k < s.variant.colLinks ∧ k < 3 ∧ s.obj (O.ROUTE_MODE t) = 0) := by
  refine ⟨⟨(hold (put (lk up 0 2 6 4) [(colKey 0 0, 3), (colKey (neighbour 0 0) 0, 3), (O.ROUTE 0, 4)]) 4 (fr 0 100) ({ dst := .port 18 3, place := .arrived, path := [] } : Copy)), 5, 0, 4, 0, ({ dst := .port 18 3, place := .arrived, path := [] } : Copy), (fr 0 100), ⟨?_, ?_⟩, ?_, ?_, ?_, ?_, ?_, 0, false, ?_, ?_, ?_, ?_, ?_, ?_⟩,
    ⟨(hold (put (lk up 0 2 6 4) [(colKey 0 0, 3), (colKey (neighbour 0 0) 0, 3), (O.ROUTE 0, 0)]) 4 (fr 0 100) ({ dst := .port 18 3, place := .arrived, path := [] } : Copy)), 0, 4, 0, ({ dst := .port 18 3, place := .arrived, path := [] } : Copy), (fr 0 100), ⟨?_, ?_⟩, ?_, ?_, ?_, ?_, ?_, ?_⟩,
    ⟨(hold (put (lk up 0 2 6 4) [(colKey 0 0, 3), (colKey (neighbour 0 0) 0, 3), (O.ROUTE 0, 4)]) 4 (fr 0 100) ({ dst := .port 18 3, place := .arrived, path := [(1, 0), (2, 0), (3, 0)] } : Copy)), 0, 4, 0, ({ dst := .port 18 3, place := .arrived, path := [(1, 0), (2, 0), (3, 0)] } : Copy), (fr 0 100), ⟨?_, ?_⟩, ?_, ?_, ?_, ?_, ?_, 0, ?_, ?_, ?_, ?_⟩,
    ⟨(hold (tl (put (lk up 0 2 6 4) [(colKey 0 0, 3), (colKey (neighbour 0 0) 0, 3), (O.ROUTE 0, 4)]) 0 (fun x => { x with staged := [(0, 262144)] })) 4 (fr 0 100) ({ dst := .port 18 3, place := .arrived, path := [] } : Copy)), 5, 0, 4, 0, ({ dst := .port 18 3, place := .arrived, path := [] } : Copy), (fr 0 100), ⟨?_, ?_⟩, ?_, ?_, ?_, ?_, ?_, 0, false, ?_, ?_, ?_, ?_, ?_, ?_⟩,
    ⟨(hold (put (lk up 0 2 6 4) [(O.ISOLATE_THRESHOLD 0, 0)]) 4 (fr 0 100) ({ dst := .port 18 3, place := .link (neighbour 0 0) 0, path := [(neighbour 0 0, 0)], staged := [(neighbour 0 0, 0)] } : Copy)), 0, 4, 0, ({ dst := .port 18 3, place := .link (neighbour 0 0) 0, path := [(neighbour 0 0, 0)], staged := [(neighbour 0 0, 0)] } : Copy), (fr 0 100), ⟨?_, ?_⟩, ?_, ?_, ?_, ?_, ?_, (neighbour 0 0), 0, ?_, ?_⟩,
    ⟨(put (lk up 0 2 6 4) [(colKey 0 0, 3), (colKey (neighbour 0 0) 0, 3)]), 0, 0, ⟨?_, ?_⟩, ?_, ?_, ?_, ?_, ?_, ?_⟩,
    ⟨(put (lk up 0 2 6 4) [(colKey 0 0, 2), (colKey (neighbour 0 0) 0, 2)]), 0, 0, ⟨?_, ?_⟩, ?_, ?_, ?_, ?_⟩,
    ⟨(put (lk up 0 2 6 4) [(colKey 0 0, 2), (colKey (neighbour 0 0) 0, 2)]), 9000 * secU, 0, 0, ⟨?_, ?_⟩, ?_, ?_, ?_, ?_, ?_⟩,
    ⟨(put (lk up 0 2 6 4) [(colKey 0 0, 1), (colKey (neighbour 0 0) 0, 1)]), 9000 * secU, 0, 0, ⟨?_, ?_⟩, ?_, ?_, ?_, ?_, ?_, ?_⟩,
    ⟨(put up [(O.ROUTE_MODE 0, 0)]), 0, 0, ⟨?_, ?_⟩, ?_, ?_, ?_, ?_⟩⟩ <;> decide +kernel

/-- States and operands that meet the hypotheses of `Obligations.EtchStaging`. -/
theorem hold_EtchStaging :
    (∃ (s : State), ∃ (now : Nat), ∃ (r : Requester), s.quiet ∧ s.accepts now r O.ETCH_CTL [1] = true) ∧
    (∃ (s : State), ∃ (now : Nat), ∃ (r : Requester), s.quiet ∧ s.accepts now r O.ETCH_CTL [3] = true) ∧
    (∃ (s : State), ∃ (now : Nat), ∃ (r : Requester), s.quiet ∧ ∃ t, ∃ (data : Bytes), ∃ (e : Etch), t < s.variant.tiles ∧ s.stages now r (O.EM_OP t) data = true ∧ s.etch = some e ∧ (s.askedAt now r).etchForm (O.EM_OP t) (leNat data) = 0 ∧ ((s.askedAt now r).emCheck t data).1 = 0 ∧ e.ems.length < 131072) ∧
    (∃ (s : State), ∃ (now : Nat), ∃ (r : Requester), s.quiet ∧ ∃ t, ∃ (data : Bytes), ∃ (e : Etch), t < s.variant.tiles ∧ s.stages now r (O.TC_OP t) data = true ∧ s.etch = some e ∧ (s.askedAt now r).etchForm (O.TC_OP t) (leNat data) = 0 ∧ e.tcs.length < 65536) ∧
    (∃ (s : State), ∃ (now : Nat), ∃ (r : Requester), s.quiet ∧ ∃ idx, ∃ sub, ∃ (data : Bytes), ∃ (e : Etch), idx < 65536 ∧ sub < 256 ∧ s.stages now r (256 * idx + sub) data = true ∧ s.etch = some e ∧ 256 * idx + sub ≠ O.EM_OP (emTile idx) ∧ 256 * idx + sub ≠ O.TC_OP (emTile idx) ∧ (s.askedAt now r).etchForm (256 * idx + sub) (leNat data) = 0 ∧ (s.askedAt now r).etchObjCheck ((s.askedAt now r).stage (256 * idx + sub) data).2 (256 * idx + sub) (leNat data) = 0 ∧ e.sets.length < 1024) ∧
    (∃ (s : State), ∃ (now : Nat), ∃ (r : Requester), s.quiet ∧ ∃ t, ∃ data, t < s.variant.tiles ∧ s.accepts now r (O.EM_PROBE t) data = true) ∧
    (∃ (s : State), ∃ (now : Nat), ∃ (r : Requester), s.quiet ∧ ∃ t, ∃ data, t < s.variant.tiles ∧ s.accepts now r (O.TC_PROBE t) data = true) ∧
    (∃ (s : State), ∃ (now : Nat), s.quiet ∧ ∃ (e : Etch), s.obj O.ETCH_STATE = 1 ∧ s.etch = some e ∧ e.lastAt + s.obj O.ETCH_IDLE * msU ≤ max s.now now) := by
  refine ⟨⟨up, 5, m0, ⟨?_, ?_⟩, ?_⟩,
    ⟨({ (put up [(O.ETCH_STATE, 1), (O.ETCH_OWNER, 0)]) with etch := some { owner := m0, lastAt := 0 } } : State), 5, m0, ⟨?_, ?_⟩, ?_⟩,
    ⟨({ (put up [(O.ETCH_STATE, 1), (O.ETCH_OWNER, 0)]) with etch := some { owner := m0, lastAt := 0 } } : State), 5, m0, ⟨?_, ?_⟩, 0, ([1] ++ List.replicate 83 0 : Bytes), ({ owner := m0, lastAt := 0 } : Etch), ?_, ?_, ?_, ?_, ?_, ?_⟩,
    ⟨({ (put up [(O.ETCH_STATE, 1), (O.ETCH_OWNER, 0)]) with etch := some { owner := m0, lastAt := 0 } } : State), 5, m0, ⟨?_, ?_⟩, 0, ([1, 1] ++ List.replicate 118 0 : Bytes), ({ owner := m0, lastAt := 0 } : Etch), ?_, ?_, ?_, ?_, ?_⟩,
    ⟨({ (put up [(O.ETCH_STATE, 1), (O.ETCH_OWNER, 0)]) with etch := some { owner := m0, lastAt := 0 } } : State), 5, m0, ⟨?_, ?_⟩, (keyIndex O.TPID_EXTRA), (keySub O.TPID_EXTRA), ([1, 0x91] : Bytes), ({ owner := m0, lastAt := 0 } : Etch), ?_, ?_, ?_, ?_, ?_, ?_, ?_, ?_, ?_⟩,
    ⟨up, 5, m0, ⟨?_, ?_⟩, 0, (List.replicate 68 0), ?_, ?_⟩,
    ⟨up, 5, m0, ⟨?_, ?_⟩, 0, (List.replicate 128 0), ?_, ?_⟩,
    ⟨({ (put up [(O.ETCH_STATE, 1), (O.ETCH_OWNER, 0)]) with etch := some { owner := m0, lastAt := 0 } } : State), 9000 * secU, ⟨?_, ?_⟩, ({ owner := m0, lastAt := 0 } : Etch), ?_, ?_, ?_⟩⟩ <;> decide +kernel

/-- States and operands that meet the hypotheses of `Obligations.EtchSwitching`. -/
theorem hold_EtchSwitching :
    (∃ (s : State), ∃ (now : Nat), ∃ (e : Etch), s.quiet ∧ s.etch = some e ∧ ∃ r, ∃ k, s.accepts now r O.ETCH_CTL [2] = true ∧ ¬(e.ems = [] ∧ e.tcs = [] ∧ e.sets = []) ∧ (∀ j, j < 4 → s.pairOk (.slot j) = true) ∧ [0, 1, 2, 3].find? (fun j => s.slotState j == 0) = some k) ∧
    (∃ (s : State), ∃ (e : Etch), s.quiet ∧ s.etch = some e ∧ ∃ t, t < s.variant.tiles ∧ s.obj O.ETCH_STATE = 2 ∧ e.left.contains t = true) ∧
    (∃ (s : State), ∃ (now : Nat), ∃ (e : Etch), s.quiet ∧ s.etch = some e ∧ ∃ i, e.switchAt = some i ∧ i ≤ (s.at now).L ∧ e.slot < 4 ∧ s.currentSlot < 4 ∧ e.slot ≠ s.currentSlot) ∧
    (∃ (s : State), ∃ (e : Etch), s.quiet ∧ s.etch = some e ∧ ∃ k, k < 4 ∧ (∀ j, j < 4 → s.pairOk (.slot j) = true) ∧ s.slotState k = 3 ∧ s.slotQuiet k = true) ∧
    (∃ (s : State), ∃ (now : Nat), ∃ (e : Etch), s.quiet ∧ s.etch = some e ∧ ∃ k, k < 4 ∧ s.slotState k = 3 ∧ (tget (0, false) s.drainAt k).2 = false ∧ (tget (0, false) s.drainAt k).1 + s.obj O.ETCH_STUCK_LIMIT * msU < max s.now now) := by
  refine ⟨⟨({ (put up [(O.ETCH_STATE, 1), (O.ETCH_OWNER, 0)]) with etch := some ({ owner := m0, lastAt := 0, ems := [(0, ([1] ++ List.replicate 83 0 : Bytes))], order := [(0, true)], slot := 1 } : Etch) } : State), 5, ({ owner := m0, lastAt := 0, ems := [(0, ([1] ++ List.replicate 83 0 : Bytes))], order := [(0, true)], slot := 1 } : Etch), ⟨?_, ?_⟩, ?_, m0, 1, ?_, ?_, ?_, ?_⟩,
    ⟨({ (put up [(O.ETCH_STATE, 2), (O.SLOT_STATE 0, 2), (O.SLOT_STATE 1, 1), (O.SLOT_GEN 1, 1)]) with etch := some ({ owner := m0, lastAt := 0, ems := [(0, ([1] ++ List.replicate 83 0 : Bytes))], order := [(0, true)], slot := 1, left := [0] } : Etch) } : State), ({ owner := m0, lastAt := 0, ems := [(0, ([1] ++ List.replicate 83 0 : Bytes))], order := [(0, true)], slot := 1, left := [0] } : Etch), ⟨?_, ?_⟩, ?_, 0, ?_, ?_, ?_⟩,
    ⟨({ (put up [(O.ETCH_STATE, 2), (O.SLOT_STATE 0, 2), (O.SLOT_STATE 1, 1), (O.SLOT_GEN 1, 1)]) with etch := some ({ owner := m0, lastAt := 0, ems := [(0, ([1] ++ List.replicate 83 0 : Bytes))], order := [(0, true)], slot := 1, switchAt := some 3 } : Etch) } : State), 5, ({ owner := m0, lastAt := 0, ems := [(0, ([1] ++ List.replicate 83 0 : Bytes))], order := [(0, true)], slot := 1, switchAt := some 3 } : Etch), ⟨?_, ?_⟩, ?_, 3, ?_, ?_, ?_, ?_, ?_⟩,
    ⟨({ (put up [(O.SLOT_STATE 0, 2), (O.SLOT_STATE 1, 3)]) with etch := some ({ owner := m0, lastAt := 0, ems := [(0, ([1] ++ List.replicate 83 0 : Bytes))], order := [(0, true)], slot := 1 } : Etch) } : State), ({ owner := m0, lastAt := 0, ems := [(0, ([1] ++ List.replicate 83 0 : Bytes))], order := [(0, true)], slot := 1 } : Etch), ⟨?_, ?_⟩, ?_, 1, ?_, ?_, ?_, ?_⟩,
    ⟨({ (put up [(O.SLOT_STATE 0, 2), (O.SLOT_STATE 1, 3)]) with etch := some ({ owner := m0, lastAt := 0, ems := [(0, ([1] ++ List.replicate 83 0 : Bytes))], order := [(0, true)], slot := 1 } : Etch) } : State), 9000 * secU, ({ owner := m0, lastAt := 0, ems := [(0, ([1] ++ List.replicate 83 0 : Bytes))], order := [(0, true)], slot := 1 } : Etch), ⟨?_, ?_⟩, ?_, 1, ?_, ?_, ?_, ?_⟩⟩ <;> decide +kernel

/-- States and operands that meet the hypotheses of `Obligations.Policers`. -/
theorem hold_Policers :
    (∃ (s : State), ∃ (now t : Nat), s.quiet ∧ t < s.variant.tiles ∧ ∃ r, ∃ (data : Bytes), s.accepts now r (O.POL_WRITE t) data = true) ∧
    (∃ (s : State), ∃ (now t : Nat), s.quiet ∧ t < s.variant.tiles ∧ (s.at now).wholeUs = true ∧ tget 0 (s.tile t).refilled 0 ≠ max s.now now + 1) := by
  refine ⟨⟨up, 5, 0, ⟨?_, ?_⟩, ?_, m0, ([3, 0, 1, 0, 0, 0, 0, 0, 9, 0, 0, 0, 0, 0, 0, 0, 0, 8] ++ List.replicate 14 0 : Bytes), ?_⟩,
    ⟨up, 0, 0, ⟨?_, ?_⟩, ?_, ?_, ?_⟩⟩ <;> decide +kernel

/-- States and operands that meet the hypotheses of `Obligations.Admission`. -/
theorem hold_Admission :
    (∃ (s a : State), ∃ (now fid : Nat), ∃ (h p : Nat), ∃ (q : Nat), ∃ (written : List (Nat × Nat × Nat)), ∃ (c : Copy), ∃ (f : Frame), s.quiet ∧ (s.at now).cellsNow written = a ∧ a.quiet ∧ a.both fid h = some (c, f) ∧ c.dst = .port p q ∧ q < 16 ∧ f.hm.desc = none ∧ c.place = .arrived ∧ f.src.tile = tileOf p ∧ a.copyInTurn c f = true ∧ a.portUp p = true ∧ ∃ pool, field (a.obj (O.PD_ON (tileOf p))) 46 39 ≠ 0 ∧ (a.test c.dst).poolFor (a.lossless f) c.colour = some pool ∧ a.hold fid (tileOf p) = {} ∧ a.nextBank (tileOf p) ≠ none ∧ a.launchOf fid h = none ∧ (a.burin p).oper = none) ∧
    (∃ (s a : State), ∃ (now fid : Nat), ∃ (h p : Nat), ∃ (q : Nat), ∃ (written : List (Nat × Nat × Nat)), ∃ (c : Copy), ∃ (f : Frame), s.quiet ∧ (s.at now).cellsNow written = a ∧ a.quiet ∧ a.both fid h = some (c, f) ∧ c.dst = .port p q ∧ q < 16 ∧ f.hm.desc = none ∧ c.place = .arrived ∧ f.src.tile = tileOf p ∧ a.copyInTurn c f = true ∧ a.portUp p = true ∧ field (a.obj (O.PD_ON (tileOf p))) 46 39 ≠ 0 ∧ (a.test c.dst).poolFor (a.lossless f) c.colour = none) ∧
    (∃ (s a : State), ∃ (now fid : Nat), ∃ (h p : Nat), ∃ (q : Nat), ∃ (written : List (Nat × Nat × Nat)), ∃ (c : Copy), ∃ (f : Frame), s.quiet ∧ (s.at now).cellsNow written = a ∧ a.quiet ∧ a.both fid h = some (c, f) ∧ c.dst = .port p q ∧ q < 16 ∧ f.hm.desc = none ∧ c.place = .arrived ∧ f.src.tile = tileOf p ∧ a.copyInTurn c f = true ∧ a.portUp p = true ∧ field (a.obj (O.PD_ON (tileOf p))) 46 39 = 0) ∧
    (∃ (s : State), ∃ (now fid : Nat), ∃ (h p : Nat), ∃ (q : Nat), ∃ (c : Copy), ∃ (f : Frame), s.quiet ∧ s.both fid h = some (c, f) ∧ c.dst = .port p q ∧ q < 16 ∧ f.hm.desc = none ∧ f.lastSeg = true ∧ c.complete = false ∧ (s.hold fid (tileOf p)).users.contains h = true ∧ ((s.at now).growHold fid (tileOf p) (max (c.need f) (s.hold fid (tileOf p)).banks.length)).isSome = true ∧ (s.burin p).oper = none) := by
  refine ⟨⟨(hold (lk up 0 2 6 4) 4 (fr 1 100) ({ dst := .port 0 3, place := .arrived } : Copy)), ((hold (lk up 0 2 6 4) 4 (fr 1 100) ({ dst := .port 0 3, place := .arrived } : Copy)).at 5), 5, 4, 0, 0, 3, ([] : List (Nat × Nat × Nat)), ({ dst := .port 0 3, place := .arrived } : Copy), (fr 1 100), ⟨?_, ?_⟩, rfl, ⟨?_, ?_⟩, ?_, ?_, ?_, ?_, ?_, ?_, ?_, ?_, 0, ?_, ?_, ?_, ?_, ?_, ?_⟩,
    ⟨(put (hold (lk up 0 2 6 4) 4 (fr 1 100) ({ dst := .port 0 3, place := .arrived } : Copy)) [(O.ADMIT_PROFILE_REC 0 0, 0)]), ((put (hold (lk up 0 2 6 4) 4 (fr 1 100) ({ dst := .port 0 3, place := .arrived } : Copy)) [(O.ADMIT_PROFILE_REC 0 0, 0)]).at 5), 5, 4, 0, 0, 3, ([] : List (Nat × Nat × Nat)), ({ dst := .port 0 3, place := .arrived } : Copy), (fr 1 100), ⟨?_, ?_⟩, rfl, ⟨?_, ?_⟩, ?_, ?_, ?_, ?_, ?_, ?_, ?_, ?_, ?_, ?_⟩,
    ⟨(put (hold (lk up 0 2 6 4) 4 (fr 1 100) ({ dst := .port 0 3, place := .arrived } : Copy)) [(O.PD_ON 0, 0)]), ((put (hold (lk up 0 2 6 4) 4 (fr 1 100) ({ dst := .port 0 3, place := .arrived } : Copy)) [(O.PD_ON 0, 0)]).at 5), 5, 4, 0, 0, 3, ([] : List (Nat × Nat × Nat)), ({ dst := .port 0 3, place := .arrived } : Copy), (fr 1 100), ⟨?_, ?_⟩, rfl, ⟨?_, ?_⟩, ?_, ?_, ?_, ?_, ?_, ?_, ?_, ?_, ?_⟩,
    ⟨({ (hold (lk up 0 2 6 4) 4 ({ fr 1 100 with lastSeg := true } : Frame) ({ dst := .port 0 3, place := .queued, cells := 1 } : Copy)) with holds := [(32, { banks := [0], pool := 1, users := [0] })] } : State), 5, 4, 0, 0, 3, ({ dst := .port 0 3, place := .queued, cells := 1 } : Copy), ({ fr 1 100 with lastSeg := true } : Frame), ⟨?_, ?_⟩, ?_, ?_, ?_, ?_, ?_, ?_, ?_, ?_, ?_⟩⟩ <;> decide +kernel

/-- States and operands that meet the hypotheses of `Obligations.BasinUpkeep`. -/
theorem hold_BasinUpkeep :
    (∃ (s : State), ∃ (now t : Nat), s.quiet ∧ t < s.variant.tiles ∧ ∃ r, ∃ data, s.accepts now r (O.GROUPS_EN t) data = true) ∧
    (∃ (s : State), ∃ (t : Nat), s.quiet ∧ t < s.variant.tiles ∧ ∃ g, g < 8 ∧ s.groupUse t g = 0 ∧ bit (s.obj (O.BASIN_PWR t)) g = true) ∧
    (∃ (s : State), ∃ (t : Nat), s.quiet ∧ t < s.variant.tiles ∧ ∃ g, g < 8 ∧ s.groupUse t g = 0 ∧ bit (s.obj (O.BASIN_PWR t)) g = false) ∧
    (∃ (s : State), ∃ (now t : Nat), s.quiet ∧ t < s.variant.tiles ∧ ∃ (written : List (Nat × Nat × Nat)), ∃ (a : State), (s.at now).cellsNow written = a ∧ a.quiet ∧ a.runs t = true ∧ a.L % (a.obj (O.SAMPLE_INTERVAL t) * usU) = 0) ∧
    (∃ (s : State), ∃ (now t : Nat), s.quiet ∧ t < s.variant.tiles ∧ ∃ r, ∃ data, s.accepts now r (O.QSTAT_CLEAR t) data = true ∧ (s.tile t).sampledAt ≠ some (max s.now now) ∧ leNat data = 0xFFFF) ∧
    (∃ (s : State), ∃ (now t : Nat), s.quiet ∧ t < s.variant.tiles ∧ ∃ r, ∃ data, s.accepts now r (O.QSTAT_CLEAR t) data = true ∧ (s.tile t).sampledAt ≠ some (max s.now now) ∧ leNat data ≠ 0xFFFF) := by
  refine ⟨⟨up, 5, 0, ⟨?_, ?_⟩, ?_, m0, [7], ?_⟩,
    ⟨(put up [(O.BASIN_PWR 0, 255)]), 0, ⟨?_, ?_⟩, ?_, 2, ?_, ?_, ?_⟩,
    ⟨(put up [(O.BASIN_PWR 0, 0)]), 0, ⟨?_, ?_⟩, ?_, 2, ?_, ?_, ?_⟩,
    ⟨up, 0, 0, ⟨?_, ?_⟩, ?_, ([] : List (Nat × Nat × Nat)), (up.at 0 : State), rfl, ⟨?_, ?_⟩, ?_, ?_⟩,
    ⟨up, 0, 0, ⟨?_, ?_⟩, ?_, m0, [0xFF, 0xFF], ?_, ?_, ?_⟩,
    ⟨up, 0, 0, ⟨?_, ?_⟩, ?_, m0, [3, 0], ?_, ?_, ?_⟩⟩ <;> decide +kernel

/-- States and operands that meet the hypotheses of `Obligations.Selection`. -/
theorem hold_Selection :
    (∃ (s a : State), ∃ (now p : Nat), s.quiet ∧ p < s.variant.ports ∧ (s.at now).shaperRefill p = a ∧ ∃ q, ∃ fid, ∃ h, a.selectionPoint p = true ∧ q < 16 ∧ s.headOf p q = some (fid, h) ∧ a.sendable p q = true ∧ (∀ x ∈ (s.queue p q).frames, s.launchOf x.1 x.2 = none) ∧ (∀ j, j < 16 → a.sendable p j = true ∨ (s.queue p j).frames = []) ∧ (∀ j, j < 16 → a.sendable p j = true → j < q → precedes (s.queue p q).head.f (s.queue p j).head.f = true) ∧ (∀ j, j < 16 → a.sendable p j = true → q < j → precedes (s.queue p j).head.f (s.queue p q).head.f = false)) ∧
    (∃ (s a : State), ∃ (now p : Nat), s.quiet ∧ p < s.variant.ports ∧ (s.at now).shaperRefill p = a ∧ (∀ j, j < 16 → (s.queue p j).frames = [])) ∧
    (∃ (s a : State), ∃ (now p : Nat), s.quiet ∧ p < s.variant.ports ∧ (s.at now).shaperRefill p = a ∧ (s.at now).L % (100 * nsU) = 0 ∧ (s.burin p).refilledAt ≠ some (max s.now now)) := by
  refine ⟨⟨({ (hold (lk up 0 2 6 4) 4 (fr 1 100) ({ dst := .port 0 3, place := .queued, cells := 1, complete := true } : Copy)) with queues := [(3, { frames := [(4, 0)], head := { f := 5 } })] } : State), ((State.at ({ (hold (lk up 0 2 6 4) 4 (fr 1 100) ({ dst := .port 0 3, place := .queued, cells := 1, complete := true } : Copy)) with queues := [(3, { frames := [(4, 0)], head := { f := 5 } })] } : State) 5).shaperRefill 0), 5, 0, ⟨?_, ?_⟩, ?_, rfl, 3, 4, 0, ?_, ?_, ?_, ?_, ?_, ?_, ?_, ?_⟩,
    ⟨(lk up 0 2 6 4), ((State.at (lk up 0 2 6 4) 5).shaperRefill 0), 5, 0, ⟨?_, ?_⟩, ?_, rfl, ?_⟩,
    ⟨(lk up 0 2 6 4), ((State.at (lk up 0 2 6 4) 0).shaperRefill 0), 0, 0, ⟨?_, ?_⟩, ?_, rfl, ?_, ?_⟩⟩ <;> decide +kernel

/-- States and operands that meet the hypotheses of `Obligations.Transmission`. -/
theorem hold_Transmission :
    (∃ (s : State), ∃ (p : Nat), ∃ (c : Copy), ∃ (f : Frame), s.quiet ∧ p < s.variant.ports ∧ f.hm.desc = none ∧ ∃ (x : Sel), (s.port p).sel = some x ∧ s.both x.fid x.h = some (c, f) ∧ s.link p = 6 ∧ (s.burin p).tx = none ∧ (s.port p).lpi = false ∧ (s.port p).hdWait = false ∧ s.launchOf x.fid x.h = none ∧ s.shedHolds p = false ∧ s.carrier p = false ∧ s.pauseAhead p = false ∧ ∃ remote, (remote = false ∨ (s.mode p).kind ≠ 0) ∧ bit (s.obj (O.PAUSED_NOW p)) (s.prioOf p x.q) = false ∧ s.flag (O.HATCH_ENABLE p) = false ∧ (c.complete = true → c.len f ≤ s.maxLen p f.slot (c.bytes f))) ∧
    (∃ (s : State), ∃ (now p : Nat), ∃ (c : Copy), ∃ (f : Frame), s.quiet ∧ p < s.variant.ports ∧ f.hm.desc = none ∧ ∃ (x : Sel), (s.port p).sel = some x ∧ s.both x.fid x.h = some (c, f) ∧ s.link p = 6 ∧ (s.burin p).tx = none ∧ (s.port p).lpi = false ∧ (s.port p).hdWait = false ∧ s.launchOf x.fid x.h = none ∧ s.shedHolds p = false ∧ s.carrier p = false ∧ s.pauseAhead p = false ∧ ∃ remote, (remote = false ∨ (s.mode p).kind ≠ 0) ∧ (s.at now).paused p (s.prioOf p x.q) = true ∧ (s.burin p).oper = none) ∧
    (∃ (s : State), ∃ (now p : Nat), ∃ (c : Copy), ∃ (f : Frame), s.quiet ∧ p < s.variant.ports ∧ f.hm.desc = none ∧ ∃ (x : Sel), (s.port p).sel = some x ∧ s.both x.fid x.h = some (c, f) ∧ s.link p = 6 ∧ (s.burin p).tx = none ∧ (s.port p).lpi = false ∧ (s.port p).hdWait = false ∧ s.launchOf x.fid x.h = none ∧ s.shedHolds p = false ∧ s.carrier p = false ∧ s.pauseAhead p = false ∧ ∃ remote, (remote = false ∨ (s.mode p).kind ≠ 0) ∧ (s.at now).paused p (s.prioOf p x.q) = false ∧ c.complete = true ∧ s.maxLen p f.slot (c.bytes f) < c.len f) ∧
    (∃ (s : State), ∃ (p : Nat), ∃ (f : Frame), s.quiet ∧ p < s.variant.ports ∧ f.hm.desc = none ∧ (s.mode p).kind = 0) ∧
    (∃ (s : State), ∃ (p : Nat), ∃ (f : Frame), s.quiet ∧ p < s.variant.ports ∧ f.hm.desc = none ∧ ∃ (x : Sel), (s.port p).sel = some x ∧ (s.burin p).tx = none ∧ s.obj (O.ISOLATE_THRESHOLD (tileOf p)) = 0) ∧
    (∃ (s : State), ∃ (p : Nat), ∃ (c : Copy), ∃ (f : Frame), s.quiet ∧ p < s.variant.ports ∧ f.hm.desc = none ∧ ∃ (x : Tx), (s.burin p).tx = some x ∧ s.both x.fid x.h = some (c, f) ∧ (s.port p).hdWait = false ∧ c.complete = true ∧ c.bad = false ∧ c.len f ≤ x.limit) := by
  refine ⟨⟨((hold (lk up 0 2 6 4) 4 ({ fr 1 100 with hm := { tsReq := true, frameId := 9 } } : Frame) ({ dst := .port 0 3, place := .selected, cells := 1, complete := true } : Copy)).modPort 0 (fun x => { x with sel := some (⟨4, 0, 3, { f := 5 }⟩ : Sel) })), 0, ({ dst := .port 0 3, place := .selected, cells := 1, complete := true } : Copy), ({ fr 1 100 with hm := { tsReq := true, frameId := 9 } } : Frame), ⟨?_, ?_⟩, ?_, ?_, (⟨4, 0, 3, { f := 5 }⟩ : Sel), ?_, ?_, ?_, ?_, ?_, ?_, ?_, ?_, ?_, ?_, false, ?_, ?_, ?_, ?_⟩,
    ⟨((put ((hold (lk up 0 2 6 4) 4 (fr 1 100) ({ dst := .port 0 3, place := .selected, cells := 1, complete := true } : Copy)).modPort 0 (fun x => { x with sel := some (⟨4, 0, 3, { f := 5 }⟩ : Sel) })) [(O.PAUSED_NOW 0, 255)]).modPort 0 (fun x => { x with pauseEnd := (List.range 8).map (fun i => (i, 9000)) })), 5, 0, ({ dst := .port 0 3, place := .selected, cells := 1, complete := true } : Copy), (fr 1 100), ⟨?_, ?_⟩, ?_, ?_, (⟨4, 0, 3, { f := 5 }⟩ : Sel), ?_, ?_, ?_, ?_, ?_, ?_, ?_, ?_, ?_, ?_, false, ?_, ?_, ?_⟩,
    ⟨((hold (lk up 0 2 6 4) 4 ({ fr 1 2000 with lastSeg := true } : Frame) ({ dst := .port 0 3, place := .selected, cells := 1, complete := true } : Copy)).modPort 0 (fun x => { x with sel := some (⟨4, 0, 3, { f := 5 }⟩ : Sel) })), 5, 0, ({ dst := .port 0 3, place := .selected, cells := 1, complete := true } : Copy), ({ fr 1 2000 with lastSeg := true } : Frame), ⟨?_, ?_⟩, ?_, ?_, (⟨4, 0, 3, { f := 5 }⟩ : Sel), ?_, ?_, ?_, ?_, ?_, ?_, ?_, ?_, ?_, ?_, false, ?_, ?_, ?_, ?_⟩,
    ⟨((hold (lk up 0 2 6 4) 4 (fr 1 100) ({ dst := .port 0 3, place := .selected, cells := 1, complete := true } : Copy)).modPort 0 (fun x => { x with sel := some (⟨4, 0, 3, { f := 5 }⟩ : Sel) })), 0, (fr 1 100), ⟨?_, ?_⟩, ?_, ?_, ?_⟩,
    ⟨((hold (put (lk up 0 2 6 4) [(O.ISOLATE_THRESHOLD 0, 0)]) 4 (fr 1 100) ({ dst := .port 0 3, place := .selected, cells := 1, complete := true } : Copy)).modPort 0 (fun x => { x with sel := some (⟨4, 0, 3, { f := 5 }⟩ : Sel) })), 0, (fr 1 100), ⟨?_, ?_⟩, ?_, ?_, (⟨4, 0, 3, { f := 5 }⟩ : Sel), ?_, ?_, ?_⟩,
    ⟨({ (hold (lk up 0 2 6 4) 4 (fr 1 100) ({ dst := .port 0 3, place := .sending, cells := 1, complete := true } : Copy)) with burins := [(0, { tx := some (⟨4, 0, 3, 0, 0, List.replicate 100 7, false, {}, 1518, 0⟩ : Tx) })] } : State), 0, ({ dst := .port 0 3, place := .sending, cells := 1, complete := true } : Copy), (fr 1 100), ⟨?_, ?_⟩, ?_, ?_, (⟨4, 0, 3, 0, 0, List.replicate 100 7, false, {}, 1518, 0⟩ : Tx), ?_, ?_, ?_, ?_, ?_, ?_⟩⟩ <;> decide +kernel

/-- States and operands that meet the hypotheses of `Obligations.HatchLists`. -/
theorem hold_HatchLists :
    (∃ (s : State), ∃ (now p : Nat), s.quiet ∧ p < s.variant.ports ∧ ∃ r, s.accepts now r (O.HATCH_ENABLE p) [1] = true ∧ s.flag (O.HATCH_ENABLE p) = false) ∧
    (∃ (s : State), ∃ (now p : Nat), s.quiet ∧ p < s.variant.ports ∧ ∃ r, s.accepts now r (O.HATCH_ENABLE p) [0] = true) ∧
    (∃ (s : State), ∃ (now p : Nat), s.quiet ∧ p < s.variant.ports ∧ ∃ r, s.accepts now r (O.HATCH_COMMIT p) [1] = true ∧ (s.at now).startDue p = none) ∧
    (∃ (s : State), ∃ (now p : Nat), s.quiet ∧ p < s.variant.ports ∧ ∃ (x : PendList), (s.at now).startDue p = some x ∧ s.pairOk (.operBase p) = true ∧ (∀ j, j < 16 → ∀ e ∈ (s.queue p j).frames, ∀ f, s.frame e.1 = some f → f.hm.desc = none)) ∧
    (∃ (s : State), ∃ (p : Nat), s.quiet ∧ p < s.variant.ports ∧ s.pairOk (.operBase p) = true) := by
  refine ⟨⟨(lk up 0 2 6 4), 5, 0, ⟨?_, ?_⟩, ?_, m0, ?_, ?_⟩,
    ⟨(put (lk up 0 2 6 4) [(O.HATCH_ENABLE 0, 1)]), 5, 0, ⟨?_, ?_⟩, ?_, m0, ?_⟩,
    ⟨(put (put (lk up 0 2 6 4) [(O.HATCH_ENABLE 0, 1)]) [(O.ADMIN_CYCLE 0, 1000), (O.ADMIN_LENGTH 0, 1), (O.ADMIN_LIST 0 0, 0xFF + 1000 * 2 ^ 32)]), 5, 0, ⟨?_, ?_⟩, ?_, m0, ?_, ?_⟩,
    ⟨({ (put (lk up 0 2 6 4) [(O.HATCH_ENABLE 0, 1)]) with burins := [(0, { pend := some (⟨0, 1000, 1, [(255, 1000)], [], 0⟩ : PendList) })] } : State), 5, 0, ⟨?_, ?_⟩, ?_, (⟨0, 1000, 1, [(255, 1000)], [], 0⟩ : PendList), ?_, ?_, fun j _ e he => nomatch (show e ∈ ([] : List (Nat × Nat)) from he)⟩,
    ⟨(put (lk up 0 2 6 4) [(O.HATCH_ENABLE 0, 1)]), 0, ⟨?_, ?_⟩, ?_, ?_⟩⟩ <;> decide +kernel

/-- States and operands that meet the hypotheses of `Obligations.TimeDomains`. -/
theorem hold_TimeDomains :
    (∃ (s : State), ∃ (d : Nat), s.quiet ∧ d < 2) ∧
    (∃ (s : State), ∃ (d : Nat), s.quiet ∧ d < 2) ∧
    (∃ (s : State), ∃ (d : Nat), s.quiet ∧ d < 2) ∧
    (∃ (s : State), ∃ (now d : Nat), s.quiet ∧ d < 2 ∧ ∃ r, s.timeOn = true ∧ (s.at now).tickDue d = true ∧ s.pairOk (.steer d) = true ∧ s.timeMember = false ∧ (s.dom d).hold = none ∧ r = tickStep (s.obj (O.SLEW_MAX d)) (s.objS 64 (O.FREQ_ADJ d)) (s.dom d).acc ((s.dom d).phaseNew.getD (s.objS 64 (O.PHASE_LEFT d))) (s.refCorr (s.obj (O.DOM_BASE d)))) ∧
    (∃ (s : State), ∃ (now d : Nat), s.quiet ∧ d < 2 ∧ ∃ r, ∃ data, s.accepts now r (O.PHASE_ADJ d) data = true ∧ (s.domState d ≠ 1 ∨ absI (toS 64 (leNat data)) ≤ s.obj (if d = 0 then O.JUMP_LIMIT_A else O.JUMP_LIMIT_B) * 65536)) ∧
    (∃ (s : State), ∃ (now d : Nat), s.quiet ∧ d < 2 ∧ ∃ r, ∃ data, s.accepts now r (O.PHASE_ADJ d) data = true ∧ s.domState d = 1 ∧ (s.dom d).hold = none ∧ (s.dom d).changes = [] ∧ s.obj (if d = 0 then O.JUMP_LIMIT_A else O.JUMP_LIMIT_B) * 65536 < absI (toS 64 (leNat data))) ∧
    (∃ (s : State), ∃ (now d : Nat), s.quiet ∧ d < 2 ∧ ∃ r, s.accepts now r (O.DOM_SRC d) [1] = true ∧ s.timeMember = false ∧ s.domState d ≠ 1) ∧
    (∃ (s : State), ∃ (now d : Nat), s.quiet ∧ d < 2 ∧ ∃ r, s.accepts now r (O.DOM_SRC d) [2] = true ∧ s.timeMember = false ∧ s.domState d = 1 ∧ (s.dom d).changes = []) ∧
    (∃ (s : State), ∃ (now d : Nat), s.quiet ∧ d < 2 ∧ s.timeOn = true ∧ (s.at now).watchdogDue d = true ∧ (s.dom d).changes = []) ∧
    (∃ (s : State), ∃ (now d : Nat), s.quiet ∧ d < 2 ∧ s.timeOn = true ∧ (s.at now).ppsLossDue d = true ∧ (s.dom d).changes = []) ∧
    (∃ (s : State), ∃ (now d : Nat), s.quiet ∧ d < 2 ∧ s.timeOn = true ∧ (∀ c ∈ (s.dom d).changes, (s.at now).L < c.instant)) ∧
    (∃ (s : State), ∃ (now d : Nat), s.quiet ∧ d < 2 ∧ ∃ (c : StateChange), s.timeOn = true ∧ (s.dom d).changes = [c] ∧ c.instant ≤ (s.at now).L ∧ c.lock = true) ∧
    (∃ (s : State), ∃ (now d : Nat), s.quiet ∧ d < 2 ∧ ∃ (c : StateChange), s.timeOn = true ∧ (s.dom d).changes = [c] ∧ c.instant ≤ (s.at now).L ∧ c.lock = false ∧ s.domState d = 1 ∧ (s.dom (otherDom d)).hold = none) := by
  refine ⟨⟨up, 0, ⟨?_, ?_⟩, ?_⟩,
    ⟨up, 0, ⟨?_, ?_⟩, ?_⟩,
    ⟨up, 0, ⟨?_, ?_⟩, ?_⟩,
    ⟨(put up [(O.FREQ_ADJ 0, 9)]), usU, 0, ⟨?_, ?_⟩, ?_, (tickStep 5000 9 0 0 0), ?_, ?_, ?_, ?_, ?_, ?_⟩,
    ⟨up, 5, 0, ⟨?_, ?_⟩, ?_, m0, (natLe 77 8), ?_, Or.inl (by decide +kernel)⟩,
    ⟨(put up [(O.DOM_STATE 0, 1)]), 5, 0, ⟨?_, ?_⟩, ?_, m0, (natLe (2 ^ 60) 8), ?_, ?_, ?_, ?_, ?_⟩,
    ⟨up, 5, 0, ⟨?_, ?_⟩, ?_, m0, ?_, ?_, ?_⟩,
    ⟨(put up [(O.DOM_STATE 0, 1)]), 5, 0, ⟨?_, ?_⟩, ?_, m0, ?_, ?_, ?_, ?_⟩,
    ⟨(put up [(O.DOM_STATE 0, 1), (O.DOM_WATCHDOG 0, 1)]), secU, 0, ⟨?_, ?_⟩, ?_, ?_, ?_, ?_⟩,
    ⟨(put up [(O.DOM_STATE 0, 1), (O.DOM_PPS_WATCH 0, 1)]), 9 * secU, 0, ⟨?_, ?_⟩, ?_, ?_, ?_, ?_⟩,
    ⟨({ up with domA := { changes := [(⟨true, 3, 65536000⟩ : StateChange)] } } : State), 5, 0, ⟨?_, ?_⟩, ?_, ?_, ?_⟩,
    ⟨({ up with domA := { changes := [(⟨true, 3, 0⟩ : StateChange)] } } : State), 5, 0, ⟨?_, ?_⟩, ?_, (⟨true, 3, 0⟩ : StateChange), ?_, ?_, ?_, ?_⟩,
    ⟨({ (put up [(O.DOM_STATE 0, 1)]) with domA := { changes := [(⟨false, 3, 0⟩ : StateChange)] } } : State), 5, 0, ⟨?_, ?_⟩, ?_, (⟨false, 3, 0⟩ : StateChange), ?_, ?_, ?_, ?_, ?_, ?_⟩⟩ <;> decide +kernel

/-- States and operands that meet the hypotheses of `Obligations.Saddle`. -/
theorem hold_Saddle :
    (∃ (s : State), ∃ (now : Nat), s.quiet ∧ s.timeOn = true ∧ (s.at now).decideDue = true ∧ s.reepoch = none ∧ s.upstream = none ∧ s.timeMember = false ∧ s.pairOk .active = true ∧ s.active < 2 ∧ (s.dom 0).changes = [] ∧ (s.dom 1).changes = [] ∧ (s.at now).wantsSwitch s.active = true) ∧
    (∃ (s : State), ∃ (now : Nat), s.quiet ∧ s.timeOn = true ∧ (s.at now).decideDue = true ∧ s.reepoch = none ∧ s.upstream = none ∧ s.timeMember = false ∧ s.pairOk .active = true ∧ s.active < 2 ∧ (s.dom 0).changes = [] ∧ (s.dom 1).changes = [] ∧ (s.at now).wantsSwitch s.active = false ∧ s.domState s.active = 1) ∧
    (∃ (s : State), ∃ (now : Nat), s.quiet ∧ ∃ r, ∃ data, s.accepts now r O.SADDLE_REQ data = true) ∧
    (∃ (s : State), ∃ (now : Nat), s.quiet ∧ ∃ r, s.accepts now r O.DIFF_CLEAR [1] = true) ∧
    (∃ (s : State), ∃ (now : Nat), s.quiet ∧ ∃ r, ∃ data, s.accepts now r O.REEPOCH_CMD data = true ∧ leNat data ≠ 0) ∧
    (∃ (s : State), ∃ (now : Nat), s.quiet ∧ ∃ r, s.accepts now r O.REEPOCH_CMD [0] = true) ∧
    (∃ (s : State), ∃ (now : Nat), s.quiet ∧ ∃ d, ∃ i, ∃ v, s.timeOn = true ∧ s.reepoch = some (d, i, v) ∧ d < 2 ∧ i ≤ (s.at now).L ∧ (s.dom d).hold = none) := by
  refine ⟨⟨(put up [(O.DOM_STATE 0, 2), (O.DOM_STATE 1, 1)]), 0, ⟨?_, ?_⟩, ?_, ?_, ?_, ?_, ?_, ?_, ?_, ?_, ?_, ?_⟩,
    ⟨(put up [(O.DOM_STATE 0, 1)]), 0, ⟨?_, ?_⟩, ?_, ?_, ?_, ?_, ?_, ?_, ?_, ?_, ?_, ?_, ?_⟩,
    ⟨(put up [(O.DOM_STATE 0, 1)]), 5, ⟨?_, ?_⟩, m0, [1], ?_⟩,
    ⟨up, 5, ⟨?_, ?_⟩, m0, ?_⟩,
    ⟨(put up [(O.REEPOCH_AT, secU), (O.REEPOCH_TIME, 9)]), 5, ⟨?_, ?_⟩, m0, [1], ?_, ?_⟩,
    ⟨(put up [(O.REEPOCH_STATE, 1)]), 5, ⟨?_, ?_⟩, m0, ?_⟩,
    ⟨({ up with reepoch := some (1, 4, 900) } : State), 5, ⟨?_, ?_⟩, 1, 4, 900, ?_, ?_, ?_, ?_, ?_⟩⟩ <;> decide +kernel

/-- States and operands that meet the hypotheses of `Obligations.Replicas`. -/
theorem hold_Replicas :
    (∃ (s : State), ∃ (now rep : Nat), ∃ (d : Nat), s.quiet ∧ hasReplica s.variant rep = true ∧ d < 3 ∧ ∃ t, t < s.variant.tiles ∧ s.pd t 49 = true ∧ (s.at now).wholeUs = true) ∧
    (∃ (s : State), ∃ (rep d : Nat), s.quiet ∧ hasReplica s.variant rep = true ∧ d < 3 ∧ ∃ arrival, ∃ v, ∃ e, (s.replica rep d).running = true ∧ (s.replica rep d).sent = some v ∧ s.pairOk (.replicaActive rep) = true ∧ (s.replica rep d).state = 1 ∧ e = ((v : Int) + (s.replica rep d).moveDelay.delay) - (s.replica rep d).at (arrival / 1024 * 1024) ∧ absI e < 131072) ∧
    (∃ (s : State), ∃ (rep d : Nat), s.quiet ∧ hasReplica s.variant rep = true ∧ d < 3 ∧ ∃ arrival, ∃ v, ∃ e, (s.replica rep d).running = true ∧ (s.replica rep d).sent = some v ∧ s.pairOk (.replicaActive rep) = true ∧ (s.replica rep d).state = 1 ∧ e = ((v : Int) + (s.replica rep d).moveDelay.delay) - (s.replica rep d).at (arrival / 1024 * 1024) ∧ 262144 < absI e ∧ 3 ≤ (s.replica rep d).bad) ∧
    (∃ (s : State), ∃ (now rep : Nat), ∃ (d : Nat), s.quiet ∧ hasReplica s.variant rep = true ∧ d < 3 ∧ ∃ k, (s.replica rep d).running = true ∧ (s.replica rep d).tickAt + usU ≤ (s.at now).L + fastest ∧ k = tickStep 100000 (s.replica rep d).rate (s.replica rep d).acc 0 0 ∧ ((s.replica rep d).seen = true ∨ (s.replica rep d).missed < 3)) ∧
    (∃ (s : State), ∃ (now rep : Nat), ∃ (d : Nat), s.quiet ∧ hasReplica s.variant rep = true ∧ d < 3 ∧ ∃ k, (s.replica rep d).running = true ∧ (s.replica rep d).tickAt + usU ≤ (s.at now).L + fastest ∧ k = tickStep 100000 (s.replica rep d).rate (s.replica rep d).acc 0 0 ∧ (s.replica rep d).seen = false ∧ 3 ≤ (s.replica rep d).missed ∧ (s.replica rep d).state = 1) ∧
    (∃ (s : State), ∃ (now rep : Nat), ∃ (d : Nat), s.quiet ∧ hasReplica s.variant rep = true ∧ d < 3 ∧ (s.replica rep d).running = true ∧ (∀ i, (s.replica rep d).delayAt = some i → i + secU ≤ (s.at now).L)) := by
  refine ⟨⟨({ up with replicas := [(32, { running := true, state := 1 })] } : State), 0, 8, 0, ⟨?_, ?_⟩, ?_, ?_, 0, ?_, ?_, ?_⟩,
    ⟨({ up with replicas := [(32, { running := true, state := 1, sent := some 1024, time := 1000 })] } : State), 8, 0, ⟨?_, ?_⟩, ?_, ?_, 9, 1024, 24, ?_, ?_, ?_, ?_, ?_, ?_⟩,
    ⟨({ up with replicas := [(32, { running := true, state := 1, sent := some 1000000, bad := 3 })] } : State), 8, 0, ⟨?_, ?_⟩, ?_, ?_, 9, 1000000, 1000000, ?_, ?_, ?_, ?_, ?_, ?_, ?_⟩,
    ⟨({ up with replicas := [(32, { running := true, state := 1, rate := 5 })] } : State), usU, 8, 0, ⟨?_, ?_⟩, ?_, ?_, (tickStep 100000 5 0 0 0), ?_, ?_, ?_, ?_⟩,
    ⟨({ up with replicas := [(32, { running := true, state := 1, rate := 5, missed := 3 })] } : State), usU, 8, 0, ⟨?_, ?_⟩, ?_, ?_, (tickStep 100000 5 0 0 0), ?_, ?_, ?_, ?_, ?_, ?_⟩,
    ⟨({ up with replicas := [(32, { running := true, state := 1 })] } : State), 9, 8, 0, ⟨?_, ?_⟩, ?_, ?_, ?_, fun i h => (nomatch (h : none = some i))⟩⟩ <;> decide +kernel

/-- States and operands that meet the hypotheses of `Obligations.TimeSignals`. -/
theorem hold_TimeSignals :
    (∃ (s : State), ∃ (now : Nat), s.quiet ∧ s.timeOn = true ∧ (s.at now).atSecond = true ∧ s.flag O.PPS_OUT_ENABLE = true ∧ s.ppsOut = none) ∧
    (∃ (s : State), ∃ (now : Nat), s.quiet ∧ ∃ i, s.timeOn = true ∧ (s.at now).atSecond = true ∧ s.flag O.PPS_OUT_ENABLE = true ∧ s.ppsOut = some i) ∧
    (∃ (s : State), ∃ (now : Nat), s.quiet ∧ ∃ i, s.ppsOut = some i ∧ max s.now now < i) ∧
    (∃ (s : State), ∃ (now : Nat), s.quiet ∧ ∃ i, s.ppsOut = some i ∧ i ≤ max s.now now) ∧
    (∃ (s : State), ∃ (now : Nat), s.quiet ∧ s.timeOn = true ∧ s.flag O.PPS_IN_ENABLE = true ∧ (∀ e, s.ppsEdge = some e → e + 500 * msU ≤ max s.now now)) ∧
    (∃ (s : State), ∃ (now : Nat), s.quiet ∧ s.timeOn = true ∧ s.flag O.PPS_IN_ENABLE = false ∧ (∀ e, s.ppsEdge = some e → e + 500 * msU ≤ max s.now now)) ∧
    (∃ (s : State), ∃ (now : Nat), s.quiet ∧ ∃ e, s.timeOn = true ∧ s.ppsEdge = some e ∧ max s.now now < e + 500 * msU) ∧
    (∃ (s : State), ∃ (now : Nat), s.quiet ∧ ∃ off, s.timeOn = true ∧ (∀ i, s.refAt = some i → i + msU ≤ max s.now now) ∧ absI off ≤ 50000000) ∧
    (∃ (s : State), ∃ (now : Nat), s.quiet ∧ ∃ edges, ∃ off, s.timeOn = true ∧ (∀ i, s.refAt = some i → i + msU ≤ max s.now now) ∧ (edges = false ∨ 50000000 < absI off) ∧ (s.obj O.REF_STATE ≠ 1 ∨ s.refBad = 0)) ∧
    (∃ (s : State), ∃ (now : Nat), s.quiet ∧ ∃ edges, ∃ off, s.timeOn = true ∧ (∀ i, s.refAt = some i → i + msU ≤ max s.now now) ∧ (edges = false ∨ 50000000 < absI off) ∧ s.obj O.REF_STATE = 1 ∧ 1 ≤ s.refBad) ∧
    (∃ (s : State), ∃ (now : Nat), s.quiet ∧ ∃ r, ∃ p, p < s.variant.ports ∧ s.accepts now r (O.TSQ_FLUSH p) [1] = true) := by
  refine ⟨⟨(put up [(O.PPS_OUT_ENABLE, 1)]), 5, ⟨?_, ?_⟩, ?_, ?_, ?_, ?_⟩,
    ⟨({ (put up [(O.PPS_OUT_ENABLE, 1)]) with ppsOut := some 900 } : State), 5, ⟨?_, ?_⟩, 900, ?_, ?_, ?_, ?_⟩,
    ⟨({ up with ppsOut := some 900 } : State), 5, ⟨?_, ?_⟩, 900, ?_, ?_⟩,
    ⟨({ up with ppsOut := some 900 } : State), 905, ⟨?_, ?_⟩, 900, ?_, ?_⟩,
    ⟨(put up [(O.PPS_IN_ENABLE, 1)]), 5, ⟨?_, ?_⟩, ?_, ?_, fun e h => (nomatch (h : none = some e))⟩,
    ⟨up, 5, ⟨?_, ?_⟩, ?_, ?_, fun e h => (nomatch (h : none = some e))⟩,
    ⟨({ up with ppsEdge := some 3 } : State), 5, ⟨?_, ?_⟩, 3, ?_, ?_, ?_⟩,
    ⟨up, 5, ⟨?_, ?_⟩, 9, ?_, fun i h => (nomatch (h : none = some i)), ?_⟩,
    ⟨up, 5, ⟨?_, ?_⟩, false, 9, ?_, fun i h => (nomatch (h : none = some i)), ?_, ?_⟩,
    ⟨({ (put up [(O.REF_STATE, 1)]) with refBad := 1 } : State), 5, ⟨?_, ?_⟩, true, 60000000, ?_, fun i h => (nomatch (h : none = some i)), ?_, ?_, ?_⟩,
    ⟨(lk up 0 2 6 4), 5, ⟨?_, ?_⟩, m0, 0, ?_, ?_⟩⟩ <;> decide +kernel

/-- States and operands that meet the hypotheses of `Obligations.PathChecks`. -/
theorem hold_PathChecks :
    (∃ (s : State), ∃ (now : Nat), s.quiet ∧ ∃ r, ∃ p, ∃ data, p < s.variant.ports ∧ s.accepts now r (O.PATH_SAMPLE p) data = true ∧ s.obj (O.PATH_STATE p) = 0 ∧ (s.path p).n + 1 ≠ (s.path p).learn) ∧
    (∃ (s : State), ∃ (now : Nat), s.quiet ∧ ∃ r, ∃ p, ∃ data, p < s.variant.ports ∧ s.accepts now r (O.PATH_SAMPLE p) data = true ∧ s.obj (O.PATH_STATE p) = 0 ∧ (s.path p).n + 1 = (s.path p).learn) ∧
    (∃ (s : State), ∃ (now : Nat), s.quiet ∧ ∃ r, ∃ p, ∃ data, ∃ (dev : Int), p < s.variant.ports ∧ s.accepts now r (O.PATH_SAMPLE p) data = true ∧ s.obj (O.PATH_STATE p) ≠ 0 ∧ dev = toS 64 (leNat data) - s.objS 64 (O.PATH_BASE p) ∧ absI dev ≤ s.obj (O.PATH_STEP_NS p) * 65536) ∧
    (∃ (s : State), ∃ (now : Nat), s.quiet ∧ ∃ r, ∃ p, ∃ data, ∃ (dev : Int), p < s.variant.ports ∧ s.accepts now r (O.PATH_SAMPLE p) data = true ∧ s.obj (O.PATH_STATE p) ≠ 0 ∧ dev = toS 64 (leNat data) - s.objS 64 (O.PATH_BASE p) ∧ s.obj (O.PATH_STEP_NS p) * 65536 < absI dev ∧ (s.path p).run + 1 < s.obj (O.PATH_STEP_COUNT p)) ∧
    (∃ (s : State), ∃ (now : Nat), s.quiet ∧ ∃ r, ∃ p, ∃ data, ∃ (dev : Int), p < s.variant.ports ∧ s.accepts now r (O.PATH_SAMPLE p) data = true ∧ s.obj (O.PATH_STATE p) ≠ 0 ∧ dev = toS 64 (leNat data) - s.objS 64 (O.PATH_BASE p) ∧ s.obj (O.PATH_STEP_NS p) * 65536 < absI dev ∧ s.obj (O.PATH_STEP_COUNT p) ≤ (s.path p).run + 1 ∧ s.obj (O.PATH_DOMAIN p) = 0) ∧
    (∃ (s : State), ∃ (now : Nat), s.quiet ∧ ∃ r, ∃ p, ∃ data, ∃ d, ∃ (dev : Int), p < s.variant.ports ∧ d < 2 ∧ s.accepts now r (O.PATH_SAMPLE p) data = true ∧ s.obj (O.PATH_STATE p) ≠ 0 ∧ dev = toS 64 (leNat data) - s.objS 64 (O.PATH_BASE p) ∧ s.obj (O.PATH_STEP_NS p) * 65536 < absI dev ∧ s.obj (O.PATH_STEP_COUNT p) ≤ (s.path p).run + 1 ∧ s.obj (O.PATH_DOMAIN p) = d + 1 ∧ (s.domState d ≠ 1 ∨ (s.dom (otherDom d)).hold = none ∧ (s.dom d).hold.isSome = true)) ∧
    (∃ (s : State), ∃ (now : Nat), s.quiet ∧ ∃ r, ∃ p, ∃ data, ∃ d, ∃ (dev : Int), p < s.variant.ports ∧ d < 2 ∧ s.accepts now r (O.PATH_SAMPLE p) data = true ∧ s.obj (O.PATH_STATE p) ≠ 0 ∧ dev = toS 64 (leNat data) - s.objS 64 (O.PATH_BASE p) ∧ s.obj (O.PATH_STEP_NS p) * 65536 < absI dev ∧ s.obj (O.PATH_STEP_COUNT p) ≤ (s.path p).run + 1 ∧ s.obj (O.PATH_DOMAIN p) = d + 1 ∧ s.domState d = 1 ∧ (s.dom (otherDom d)).hold.isSome = true ∧ (s.dom d).changes = []) ∧
    (∃ (s : State), ∃ (now : Nat), s.quiet ∧ ∃ r, ∃ p, ∃ data, ∃ d, ∃ (dev : Int), p < s.variant.ports ∧ d < 2 ∧ s.accepts now r (O.PATH_SAMPLE p) data = true ∧ s.obj (O.PATH_STATE p) ≠ 0 ∧ dev = toS 64 (leNat data) - s.objS 64 (O.PATH_BASE p) ∧ s.obj (O.PATH_STEP_NS p) * 65536 < absI dev ∧ s.obj (O.PATH_STEP_COUNT p) ≤ (s.path p).run + 1 ∧ s.obj (O.PATH_DOMAIN p) = d + 1 ∧ s.domState d = 1 ∧ (s.dom (otherDom d)).hold = none ∧ (s.dom d).hold = none ∧ s.domState (otherDom d) ≠ 1 ∧ (s.dom d).changes = []) ∧
    (∃ (s : State), ∃ (now : Nat), s.quiet ∧ ∃ r, ∃ p, ∃ data, ∃ d, ∃ (dev : Int), p < s.variant.ports ∧ d < 2 ∧ s.accepts now r (O.PATH_SAMPLE p) data = true ∧ s.obj (O.PATH_STATE p) ≠ 0 ∧ dev = toS 64 (leNat data) - s.objS 64 (O.PATH_BASE p) ∧ s.obj (O.PATH_STEP_NS p) * 65536 < absI dev ∧ s.obj (O.PATH_STEP_COUNT p) ≤ (s.path p).run + 1 ∧ s.obj (O.PATH_DOMAIN p) = d + 1 ∧ s.domState d = 1 ∧ (s.dom (otherDom d)).hold = none ∧ (s.dom d).hold = none ∧ s.domState (otherDom d) = 1) ∧
    (∃ (s : State), ∃ (now : Nat), s.quiet ∧ ∃ d, ∃ (h : Hold), ∃ (dev pred : Int), d < 2 ∧ s.timeOn = true ∧ (s.dom d).hold = some h ∧ h.endAt ≤ max s.now now ∧ dev = (h.time : Int) - (s.dom d).time ∧ pred = (if d = 0 then s.objS 64 O.DIFF_BA - dev else s.objS 64 O.DIFF_BA + dev) ∧ absI (pred - s.objS 64 O.HOLD_D0) ≤ s.obj O.DIFF_STEP_NS * 65536) ∧
    (∃ (s : State), ∃ (now : Nat), s.quiet ∧ ∃ d, ∃ (h : Hold), ∃ (dev pred : Int), d < 2 ∧ s.timeOn = true ∧ (s.dom d).hold = some h ∧ h.endAt ≤ max s.now now ∧ dev = (h.time : Int) - (s.dom d).time ∧ pred = (if d = 0 then s.objS 64 O.DIFF_BA - dev else s.objS 64 O.DIFF_BA + dev) ∧ s.obj O.DIFF_STEP_NS * 65536 < absI (pred - s.objS 64 O.HOLD_D0) ∧ s.domState d = 1 ∧ (s.dom d).changes = []) := by
  refine ⟨⟨(put up []), 5, ⟨?_, ?_⟩, m0, 0, (natLe 77 8), ?_, ?_, ?_, ?_⟩,
    ⟨({ (put up []) with paths := [(0, { n := 15 })] } : State), 5, ⟨?_, ?_⟩, m0, 0, (natLe 77 8), ?_, ?_, ?_, ?_⟩,
    ⟨(put up [(O.PATH_STATE 0, 1), (O.PATH_STEP_NS 0, 1), (O.PATH_STEP_COUNT 0, 2)]), 5, ⟨?_, ?_⟩, m0, 0, (natLe 77 8), (77 : Int), ?_, ?_, ?_, ?_, ?_⟩,
    ⟨(put up [(O.PATH_STATE 0, 1), (O.PATH_STEP_NS 0, 1), (O.PATH_STEP_COUNT 0, 2)]), 5, ⟨?_, ?_⟩, m0, 0, (natLe (2 ^ 40) 8), (2 ^ 40 : Int), ?_, ?_, ?_, ?_, ?_, ?_⟩,
    ⟨({ (put up [(O.PATH_STATE 0, 1), (O.PATH_STEP_NS 0, 1), (O.PATH_STEP_COUNT 0, 2)]) with paths := [(0, { run := 1 })] } : State), 5, ⟨?_, ?_⟩, m0, 0, (natLe (2 ^ 40) 8), (2 ^ 40 : Int), ?_, ?_, ?_, ?_, ?_, ?_, ?_⟩,
    ⟨({ (put up [(O.PATH_STATE 0, 1), (O.PATH_STEP_NS 0, 1), (O.PATH_STEP_COUNT 0, 2), (O.PATH_DOMAIN 0, 1)]) with paths := [(0, { run := 1 })] } : State), 5, ⟨?_, ?_⟩, m0, 0, (natLe (2 ^ 40) 8), 0, (2 ^ 40 : Int), ?_, ?_, ?_, ?_, ?_, ?_, ?_, ?_, Or.inl (by decide +kernel)⟩,
    ⟨({ ({ (put up [(O.PATH_STATE 0, 1), (O.PATH_STEP_NS 0, 1), (O.PATH_STEP_COUNT 0, 2), (O.PATH_DOMAIN 0, 1), (O.DOM_STATE 0, 1)]) with paths := [(0, { run := 1 })] } : State) with domB := { hold := some (⟨7, 0, 0, 0, 0, 5⟩ : Hold) } } : State), 5, ⟨?_, ?_⟩, m0, 0, (natLe (2 ^ 40) 8), 0, (2 ^ 40 : Int), ?_, ?_, ?_, ?_, ?_, ?_, ?_, ?_, ?_, ?_, ?_⟩,
    ⟨({ (put up [(O.PATH_STATE 0, 1), (O.PATH_STEP_NS 0, 1), (O.PATH_STEP_COUNT 0, 2), (O.PATH_DOMAIN 0, 1), (O.DOM_STATE 0, 1)]) with paths := [(0, { run := 1 })] } : State), 5, ⟨?_, ?_⟩, m0, 0, (natLe (2 ^ 40) 8), 0, (2 ^ 40 : Int), ?_, ?_, ?_, ?_, ?_, ?_, ?_, ?_, ?_, ?_, ?_, ?_, ?_⟩,
    ⟨({ (put up [(O.PATH_STATE 0, 1), (O.PATH_STEP_NS 0, 1), (O.PATH_STEP_COUNT 0, 2), (O.PATH_DOMAIN 0, 1), (O.DOM_STATE 0, 1), (O.DOM_STATE 1, 1)]) with paths := [(0, { run := 1 })] } : State), 5, ⟨?_, ?_⟩, m0, 0, (natLe (2 ^ 40) 8), 0, (2 ^ 40 : Int), ?_, ?_, ?_, ?_, ?_, ?_, ?_, ?_, ?_, ?_, ?_, ?_⟩,
    ⟨({ up with domA := { hold := some (⟨7, 0, 0, 0, 0, 5⟩ : Hold) } } : State), 5, ⟨?_, ?_⟩, 0, (⟨7, 0, 0, 0, 0, 5⟩ : Hold), (7 : Int), (-7 : Int), ?_, ?_, ?_, ?_, ?_, ?_, ?_⟩,
    ⟨({ (put up [(O.DOM_STATE 0, 1), (O.HOLD_D0, 2 ^ 50)]) with domA := { hold := some (⟨7, 0, 0, 0, 0, 5⟩ : Hold) } } : State), 5, ⟨?_, ?_⟩, 0, (⟨7, 0, 0, 0, 0, 5⟩ : Hold), (7 : Int), (-7 : Int), ?_, ?_, ?_, ?_, ?_, ?_, ?_, ?_, ?_⟩⟩ <;> decide +kernel

/-- States and operands that meet the hypotheses of `Obligations.CounterUnit`. -/
theorem hold_CounterUnit :
    (∃ (s : State), ∃ (now : Nat), ∃ (r : Requester), s.quiet ∧ ∃ t, ∃ n, ∃ data, t < s.variant.tiles ∧ n < 64 ∧ s.accepts now r (O.EVC_CFG t n) data = true) ∧
    (∃ (s : State), ∃ (now : Nat), s.quiet ∧ ∃ t, t < s.variant.tiles ∧ (s.tile t).evcAt = (s.at now).L / nsU + 1) ∧
    (∃ (s : State), ∃ (now : Nat), s.quiet ∧ ∃ t, t < s.variant.tiles ∧ (s.tile t).evcAt ≠ (s.at now).L / nsU + 1) ∧
    (∃ (s : State), ∃ (now : Nat), ∃ (r : Requester), s.quiet ∧ ∃ t, ∃ (data : Bytes), ∃ n, t < s.variant.tiles ∧ n < 64 ∧ s.accepts now r (O.CNT_PRESET t) data = true ∧ octet (leNat data) 0 = 18 ∧ octets (leNat data) 2 2 = n) ∧
    (∃ (s : State), ∃ (now : Nat), s.quiet ∧ ∃ p, ∃ b, p < s.variant.ports ∧ b = bounds (s.wins p).grids (s.wins p).next ∧ b.2.1 ≤ (s.at now).L ∧ (s.at now).winBusy p b.2.1 = false) ∧
    (∃ (s : State), ∃ (now : Nat), s.quiet ∧ ∃ p, ∃ b, p < s.variant.ports ∧ b = bounds (s.wins p).grids (s.wins p).next ∧ (s.at now).L < b.2.1) ∧
    (∃ (s : State), ∃ (now : Nat), ∃ (r : Requester), s.quiet ∧ ∃ p, ∃ data, p < s.variant.ports ∧ s.accepts now r (O.WIN_LEN p) data = true) ∧
    (∃ (s : State), ∃ (now : Nat), ∃ (r : Requester), s.quiet ∧ ∃ t, ∃ k, t < s.variant.tiles ∧ k < 8 ∧ s.accepts now r (O.PAGE_GRANT t k) [1] = true) ∧
    (∃ (s : State), ∃ (now : Nat), ∃ (r : Requester), s.quiet ∧ ∃ t, ∃ k, t < s.variant.tiles ∧ k < 8 ∧ s.accepts now r (O.PAGE_GRANT t k) [0] = true) := by
  refine ⟨⟨up, 5, m0, ⟨?_, ?_⟩, 0, 3, (List.replicate 16 0), ?_, ?_, ?_⟩,
    ⟨(tl up 0 (fun x => { x with evcAt := 1 })), 5, ⟨?_, ?_⟩, 0, ?_, ?_⟩,
    ⟨up, 5, ⟨?_, ?_⟩, 0, ?_, ?_⟩,
    ⟨up, 5, m0, ⟨?_, ?_⟩, 0, (natLe 18 1 ++ natLe 0 1 ++ natLe 3 2 ++ natLe 77 8 : Bytes), 3, ?_, ?_, ?_, ?_, ?_⟩,
    ⟨(lk up 0 2 6 4), secU, ⟨?_, ?_⟩, 0, (bounds [(0, 1000)] 0), ?_, ?_, ?_, ?_⟩,
    ⟨(lk up 0 2 6 4), 5, ⟨?_, ?_⟩, 0, (bounds [(0, 1000)] 0), ?_, ?_, ?_⟩,
    ⟨(lk up 0 2 6 4), 5, m0, ⟨?_, ?_⟩, 0, [0xE8, 3, 0, 0], ?_, ?_⟩,
    ⟨up, 5, m0, ⟨?_, ?_⟩, 0, 3, ?_, ?_, ?_⟩,
    ⟨up, 5, m0, ⟨?_, ?_⟩, 0, 3, ?_, ?_, ?_⟩⟩ <;> decide +kernel

/-- States and operands that meet the hypotheses of `Obligations.ProofStore`. -/
theorem hold_ProofStore :
    (∃ (s : State), ∃ (now : Nat), s.quiet ∧ (s.at now).up 0 = true ∧ max s.now now < s.psSampleAt + secU) ∧
    (∃ (s : State), ∃ (now : Nat), s.quiet ∧ (s.at now).up 0 = true ∧ s.psSampleAt + secU ≤ max s.now now) ∧
    (∃ (s : State), ∃ (now : Nat), s.quiet ∧ (s.at now).up 0 = true ∧ s.psNow = none ∧ s.psLastAt + 900 * secU ≤ max s.now now) ∧
    (∃ (s : State), ∃ (now : Nat), s.quiet ∧ (s.at now).up 0 = true ∧ max s.now now < s.psLastAt + 900 * secU) ∧
    (∃ (s : State), ∃ (now : Nat), ∃ (r : Requester), s.quiet ∧ s.accepts now r O.PS_CHECKPOINT [1] = true ∧ s.psNow = none ∧ s.psWait = [] ∧ (∀ i, s.psHostAt = some i → i + 900 * secU ≤ max s.now now)) ∧
    (∃ (s : State), ∃ (now : Nat), ∃ (r : Requester), s.quiet ∧ ∃ i, s.accepts now r O.PS_CHECKPOINT [1] = true ∧ ((s.psHostAt = some i ∧ max s.now now < i + 900 * secU) ∨ s.psWait.contains 2 = true)) ∧
    (∃ (s : State), ∃ (now : Nat), s.quiet ∧ ∃ i, (s.at now).up 0 = true ∧ s.psHeld = true ∧ s.psHostAt = some i ∧ i + 900 * secU ≤ max s.now now ∧ s.psNow = none) ∧
    (∃ (s : State), s.quiet ∧ ∃ (x : PsImage), ∃ j, s.psNow = some x ∧ s.psWait = [] ∧ s.nextSlot s.psFrom = some j ∧ (∀ e ∈ s.psSlots, ∀ y, e.2 = some y → y.seq < x.seq)) ∧
    (∃ (s : State), s.quiet ∧ ∃ (x : PsImage), ∃ j, s.psNow = some x ∧ s.psWait = [] ∧ s.nextSlot s.psFrom = some j ∧ (∀ e ∈ s.psSlots, ∀ y, e.2 = some y → y.seq < x.seq)) ∧
    (∃ (s : State), ∃ (now : Nat), ∃ (r : Requester), s.quiet ∧ ∃ data, s.accepts now r O.PS_SEL data = true) := by
  refine ⟨⟨up, 5, ⟨?_, ?_⟩, ?_, ?_⟩,
    ⟨up, secU, ⟨?_, ?_⟩, ?_, ?_⟩,
    ⟨up, 9000 * secU, ⟨?_, ?_⟩, ?_, ?_, ?_⟩,
    ⟨up, 5, ⟨?_, ?_⟩, ?_, ?_⟩,
    ⟨up, 5, m0, ⟨?_, ?_⟩, ?_, ?_, ?_, fun i h => (nomatch (h : none = some i))⟩,
    ⟨({ up with psHostAt := some 4 } : State), 5, m0, ⟨?_, ?_⟩, 4, ?_, ?_⟩,
    ⟨({ up with psHeld := true, psHostAt := some 4 } : State), 9000 * secU, ⟨?_, ?_⟩, 4, ?_, ?_, ?_, ?_, ?_⟩,
    ⟨({ up with psNow := some (⟨1, 1, 0, 7, 0, {}⟩ : PsImage) } : State), ⟨?_, ?_⟩, (⟨1, 1, 0, 7, 0, {}⟩ : PsImage), 0, ?_, ?_, ?_, fun e he => nomatch (show e ∈ ([] : Tbl (Option PsImage)) from he)⟩,
    ⟨({ up with psNow := some (⟨1, 1, 0, 7, 0, {}⟩ : PsImage) } : State), ⟨?_, ?_⟩, (⟨1, 1, 0, 7, 0, {}⟩ : PsImage), 0, ?_, ?_, ?_, fun e he => nomatch (show e ∈ ([] : Tbl (Option PsImage)) from he)⟩,
    ⟨up, 5, m0, ⟨?_, ?_⟩, [0, 0, 0, 0], ?_⟩⟩ <;> decide +kernel

/-- States and operands that meet the hypotheses of `Obligations.Maintenance`. -/
theorem hold_Maintenance :
    (∃ (s : State), ∃ (now t : Nat), s.quiet ∧ t < s.variant.tiles ∧ (s.at now).wholeUs = true ∧ (s.tile t).periodAt ≠ max s.now now + 1) ∧
    (∃ (s : State), ∃ (now t : Nat), s.quiet ∧ t < s.variant.tiles ∧ ((s.at now).wholeUs = false ∨ (s.tile t).periodAt = max s.now now + 1)) ∧
    (∃ (s : State), ∃ (t : Nat), s.quiet ∧ t < s.variant.tiles ∧ s.up t = false) ∧
    (∃ (s : State), ∃ (t : Nat), s.quiet ∧ t < s.variant.tiles ∧ ∃ mem, ∃ res, s.up t = true ∧ scrubRes mem = some res ∧ scrubTurn (s.scrubWords t) (s.tile t).scrubAt ≠ mem) ∧
    (∃ (s : State), ∃ (t : Nat), s.quiet ∧ t < s.variant.tiles ∧ ∃ mem, ∃ loc, ∃ res, s.up t = true ∧ scrubRes mem = some res ∧ scrubTurn (s.scrubWords t) (s.tile t).scrubAt = mem ∧ (mem = 0 → s.scrubs t (loc % 64) = true) ∧ s.budget t 0 res = 0) ∧
    (∃ (s : State), ∃ (t : Nat), s.quiet ∧ t < s.variant.tiles ∧ ∃ mem, ∃ loc, ∃ res, s.up t = true ∧ scrubRes mem = some res ∧ scrubTurn (s.scrubWords t) (s.tile t).scrubAt = mem ∧ (mem = 0 → s.scrubs t (loc % 64) = true) ∧ s.budget t 0 res ≠ 0 ∧ s.budgetLeft t 0 res = 0 ∧ tget false (s.tile t).waited 0 = false) ∧
    (∃ (s : State), ∃ (t : Nat), s.quiet ∧ t < s.variant.tiles ∧ ∃ mem, ∃ loc, ∃ outcome, ∃ res, s.up t = true ∧ scrubRes mem = some res ∧ scrubTurn (s.scrubWords t) (s.tile t).scrubAt = mem ∧ (mem = 0 → s.scrubs t (loc % 64) = true) ∧ s.budgetLeft t 0 res ≠ 0 ∧ outcome = 0) ∧
    (∃ (s : State), ∃ (t : Nat), s.quiet ∧ t < s.variant.tiles ∧ ∃ mem, ∃ loc, s.up t = true ∧ (∀ res, scrubRes mem = some res → scrubTurn (s.scrubWords t) (s.tile t).scrubAt = mem → (mem = 0 → s.scrubs t (loc % 64) = true) ∧ s.budgetLeft t 0 res ≠ 0)) ∧
    (∃ (s : State), ∃ (t : Nat), s.quiet ∧ t < s.variant.tiles ∧ s.up t = true ∧ s.obj (O.ISOLATE_THRESHOLD t) = 0 ∧ ∃ loc, s.budgetLeft t 0 1 ≠ 0 ∧ loc < (s.emOf t).length) ∧
    (∃ (s : State), ∃ (t : Nat), s.quiet ∧ t < s.variant.tiles ∧ s.up t = true ∧ s.obj (O.ISOLATE_THRESHOLD t) = 0 ∧ s.budgetLeft t 0 1 ≠ 0) ∧
    (∃ (s : State), ∃ (t : Nat), s.quiet ∧ t < s.variant.tiles ∧ s.up t = true ∧ s.obj (O.ISOLATE_THRESHOLD t) = 0 ∧ ∃ loc, loc < 16384) ∧
    (∃ (s : State), ∃ (t : Nat), s.quiet ∧ t < s.variant.tiles ∧ s.up t = true ∧ s.runs t = true) := by
  refine ⟨⟨up, 0, 0, ⟨?_, ?_⟩, ?_, ?_, ?_⟩,
    ⟨up, 5, 0, ⟨?_, ?_⟩, ?_, ?_⟩,
    ⟨low, 0, ⟨?_, ?_⟩, ?_, ?_⟩,
    ⟨up, 0, ⟨?_, ?_⟩, ?_, 1, 1, ?_, ?_, ?_⟩,
    ⟨(put up [(O.BUDGET 0 0, 0)]), 0, ⟨?_, ?_⟩, ?_, 0, 4, 0, ?_, ?_, ?_, ?_, ?_⟩,
    ⟨(tl up 0 (fun x => { x with budgetUsed := [(0, 2 ^ 60)] })), 0, ⟨?_, ?_⟩, ?_, 0, 4, 0, ?_, ?_, ?_, ?_, ?_, ?_, ?_⟩,
    ⟨up, 0, ⟨?_, ?_⟩, ?_, 0, 4, 0, 0, ?_, ?_, ?_, ?_, ?_, ?_⟩,
    ⟨up, 0, ⟨?_, ?_⟩, ?_, 3, 4, ?_, fun res h => nomatch (h : none = some res)⟩,
    ⟨({ (put up [(O.ISOLATE_THRESHOLD 0, 0)]) with em := [(0, [{ profile := 0, key := [], action := 5, slots := [0] }])] } : State), 0, ⟨?_, ?_⟩, ?_, ?_, ?_, 0, ?_, ?_⟩,
    ⟨(put up [(O.ISOLATE_THRESHOLD 0, 0)]), 0, ⟨?_, ?_⟩, ?_, ?_, ?_, ?_⟩,
    ⟨(put up [(O.ISOLATE_THRESHOLD 0, 0)]), 0, ⟨?_, ?_⟩, ?_, ?_, ?_, 7, ?_⟩,
    ⟨up, 0, ⟨?_, ?_⟩, ?_, ?_, ?_⟩⟩ <;> decide +kernel

/-- States and operands that meet the hypotheses of `Obligations.Stack`. -/
theorem hold_Stack :
    (∃ (s : State), ∃ (now p : Nat), s.quiet ∧ p < s.variant.ports ∧ s.up 0 = true ∧ s.flag O.STACK_ENABLE = true ∧ (s.helloSent = 0 ∨ s.helloSent - 1 + 50 * usU ≤ max s.now now)) ∧
    (∃ (s : State), ∃ (p : Nat), ∃ (msg : Bytes), s.quiet ∧ p < s.variant.ports ∧ ∃ o, ∃ x, ∃ (rest : List (Nat × Bytes)), s.up 0 = true ∧ s.flag O.STACK_ENABLE = true ∧ (s.port p).rxRecords = (3, msg) :: rest ∧ p ∈ s.spanPorts ∧ msg.length = 32 ∧ byteAt msg 0 = 1 ∧ helloHops msg < 3 ∧ o = helloOrigin msg ∧ x = helloPeer msg ∧ o ≠ s.me ∧ (∀ y, tget none s.peers o = some y → y.serial = x.serial)) ∧
    (∃ (s : State), ∃ (p : Nat), ∃ (msg : Bytes), s.quiet ∧ p < s.variant.ports ∧ ∃ o, ∃ x, ∃ (rest : List (Nat × Bytes)), s.up 0 = true ∧ s.flag O.STACK_ENABLE = true ∧ (s.port p).rxRecords = (3, msg) :: rest ∧ p ∈ s.spanPorts ∧ msg.length = 32 ∧ byteAt msg 0 = 1 ∧ helloHops msg < 3 ∧ o = helloOrigin msg ∧ x = helloPeer msg ∧ o = s.me ∧ x.serial ≠ s.serialBe ∧ s.obj O.STACK_STATE = 1 ∧ (x.role = 1 ∨ x.role = 2)) ∧
    (∃ (s : State), ∃ (now p : Nat), s.quiet ∧ p < s.variant.ports ∧ ∃ m, m < 4 ∧ s.flag O.STACK_ENABLE = true ∧ bit (s.obj O.STACK_VIEW) m = true ∧ m ≠ s.me ∧ (s.at now).heard m = false) ∧
    (∃ (s : State), ∃ (now p : Nat), s.quiet ∧ p < s.variant.ports ∧ s.obj O.STACK_STATE = 1 ∧ s.formingAt + 2 * s.obj O.STACK_DEAD * usU ≤ max s.now now) ∧
    (∃ (s : State), ∃ (now p : Nat), s.quiet ∧ p < s.variant.ports ∧ ∃ r, ∃ data, s.accepts now r O.STACK_HANDOVER data = true) ∧
    (∃ (s : State), ∃ (now p : Nat), s.quiet ∧ p < s.variant.ports ∧ ∃ r, ∃ o, ∃ (x : Peer), s.accepts now r O.STACK_JOIN [1] = true ∧ s.flag O.STACK_ENABLE = true ∧ s.obj O.STACK_STATE = 4 ∧ o < 4 ∧ (s.at now).heard o = true ∧ tget none s.peers o = some x ∧ x.role = 2 ∧ (∀ m y, m ≠ o → tget none s.peers m = some y → y.role ≠ 2) ∧ (s.at now).heard (s.obj O.STACK_MEMBER) = false) ∧
    (∃ (s : State), ∃ (now p : Nat), s.quiet ∧ p < s.variant.ports ∧ ∃ r, s.accepts now r O.STACK_JOIN [1] = true ∧ s.obj O.STACK_STATE ≠ 4 ∧ s.obj O.STACK_STATE ≠ 5) ∧
    (∃ (s : State), ∃ (p : Nat), s.quiet ∧ p < s.variant.ports ∧ ∃ fid, ∃ (hdr : Bytes), ∃ data, ∃ (rest : List (Nat × Bytes)), (s.port p).rxRecords = (1, hdr ++ data) :: rest ∧ p ∈ s.spanPorts ∧ s.fresh fid = true ∧ hdr.length = 32 ∧ s.pipeOn (tileOf p) (pipeOf p) = true ∧ bit (byteAt hdr 1) 1 = false) ∧
    (∃ (s : State), ∃ (p : Nat), s.quiet ∧ p < s.variant.ports ∧ ∃ fid, ∃ (hdr : Bytes), ∃ data, ∃ (rest : List (Nat × Bytes)), (s.port p).rxRecords = (1, hdr ++ data) :: rest ∧ p ∈ s.spanPorts ∧ s.fresh fid = true ∧ hdr.length = 32 ∧ s.pipeOn (tileOf p) (pipeOf p) = true ∧ bit (byteAt hdr 1) 1 = true ∧ byteAt hdr 1 / 64 = s.me ∧ byteAt hdr 3 ≠ 0xFF) ∧
    (∃ (s : State), ∃ (p : Nat), s.quiet ∧ p < s.variant.ports ∧ ∃ fid, ∃ (hdr : Bytes), ∃ data, ∃ (rest : List (Nat × Bytes)), (s.port p).rxRecords = (1, hdr ++ data) :: rest ∧ p ∈ s.spanPorts ∧ s.fresh fid = true ∧ hdr.length = 32 ∧ s.pipeOn (tileOf p) (pipeOf p) = true ∧ bit (byteAt hdr 1) 1 = true ∧ byteAt hdr 1 / 64 ≠ s.me ∧ 2 ≤ field (byteAt hdr 1) 3 2) ∧
    (∃ (s : State), ∃ (now p : Nat), s.quiet ∧ p < s.variant.ports ∧ ∃ fid, ∃ (hdr : Bytes), ∃ data, ∃ (rest : List (Nat × Bytes)), (s.port p).rxRecords = (1, hdr ++ data) :: rest ∧ p ∈ s.spanPorts ∧ s.fresh fid = true ∧ hdr.length = 32 ∧ s.pipeOn (tileOf p) (pipeOf p) = true ∧ bit (byteAt hdr 1) 1 = true ∧ byteAt hdr 1 / 64 ≠ s.me ∧ field (byteAt hdr 1) 3 2 < 2 ∧ (s.at now).stackRoute (byteAt hdr 1 / 64) = 0xFF) ∧
    (∃ (s : State), ∃ (p : Nat), ∃ (msg : Bytes), s.quiet ∧ p < s.variant.ports ∧ ∃ (q : Relayed), ∃ (rest : List (Nat × Bytes)), s.up 0 = true ∧ (s.port p).rxRecords = (4, msg) :: rest ∧ p ∈ s.spanPorts ∧ s.obj O.STACK_STATE = 3 ∧ 0x0E ≤ msg.length ∧ msg.length = 0x0E + leAt msg 0x0A 2 ∧ byteAt msg 0 = 1 ∧ byteAt msg 1 % 16 = 5 ∧ s.relayed = [q] ∧ q.client = byteAt msg 4 % 128 ∧ q.seq = byteAt msg 5) ∧
    (∃ (s : State), ∃ (now p : Nat), s.quiet ∧ p < s.variant.ports ∧ ∃ n, ∃ ago, s.up 0 = true ∧ p ∈ s.spanPorts ∧ s.obj O.STACK_STATE = 3 ∧ n = (s.at now).commasSent p ∧ n ≠ 0 ∧ (s.port p).timeSent ≠ n ∧ ago = max s.now now - ((s.port p).streamAt + n * commaPeriod (s.mode p).lane) ∧ usU ≤ ago ∧ ago ≤ 8 * usU) ∧
    (∃ (s : State), ∃ (now p : Nat), ∃ (msg : Bytes), s.quiet ∧ p < s.variant.ports ∧ ∃ rx, ∃ tx, ∃ a, ∃ b, ∃ (rest : List (Nat × Bytes)), s.up 0 = true ∧ (s.port p).rxRecords = (2, msg) :: rest ∧ s.timeMember = true ∧ p ∈ s.spanPorts ∧ (s.at now).upstreamPort = p ∧ msg.length = 64 ∧ byteAt msg 0 = 1 ∧ (tget [] s.commaRx p).find? (fun c => c.1 == byteAt msg 1 % 8) = some rx ∧ (tget [] s.commaTx p).find? (fun c => c.1 == byteAt msg 2 % 8) = some tx ∧ a = spanError (unitsOf96 (leAt msg 0x10 12)) (unitsOf96 (leAt msg 0x28 12)) rx.2.1 tx.2.1 (s.objS 64 (O.SPAN_ASYM p)) ∧ b = spanError (unitsOf96 (leAt msg 0x1C 12)) (unitsOf96 (leAt msg 0x34 12)) rx.2.2 tx.2.2 (s.objS 64 (O.SPAN_ASYM p)) ∧ s.joinOwed = false ∧ (s.jumps 0 (byteAt msg 4 / 16 % 4) a.1 = true ∨ s.jumps 1 (byteAt msg 5 / 16 % 4) b.1 = true)) ∧
    (∃ (s : State), ∃ (now p : Nat), ∃ (msg : Bytes), s.quiet ∧ p < s.variant.ports ∧ ∃ rx, ∃ tx, ∃ a, ∃ b, ∃ (rest : List (Nat × Bytes)), s.up 0 = true ∧ (s.port p).rxRecords = (2, msg) :: rest ∧ s.timeMember = true ∧ p ∈ s.spanPorts ∧ (s.at now).upstreamPort = p ∧ msg.length = 64 ∧ byteAt msg 0 = 1 ∧ (tget [] s.commaRx p).find? (fun c => c.1 == byteAt msg 1 % 8) = some rx ∧ (tget [] s.commaTx p).find? (fun c => c.1 == byteAt msg 2 % 8) = some tx ∧ a = spanError (unitsOf96 (leAt msg 0x10 12)) (unitsOf96 (leAt msg 0x28 12)) rx.2.1 tx.2.1 (s.objS 64 (O.SPAN_ASYM p)) ∧ b = spanError (unitsOf96 (leAt msg 0x1C 12)) (unitsOf96 (leAt msg 0x34 12)) rx.2.2 tx.2.2 (s.objS 64 (O.SPAN_ASYM p)) ∧ s.joinOwed = true) ∧
    (∃ (s : State), ∃ (now p : Nat), ∃ (msg : Bytes), s.quiet ∧ p < s.variant.ports ∧ ∃ rx, ∃ tx, ∃ a, ∃ b, ∃ (rest : List (Nat × Bytes)), s.up 0 = true ∧ (s.port p).rxRecords = (2, msg) :: rest ∧ s.timeMember = true ∧ p ∈ s.spanPorts ∧ (s.at now).upstreamPort = p ∧ msg.length = 64 ∧ byteAt msg 0 = 1 ∧ (tget [] s.commaRx p).find? (fun c => c.1 == byteAt msg 1 % 8) = some rx ∧ (tget [] s.commaTx p).find? (fun c => c.1 == byteAt msg 2 % 8) = some tx ∧ a = spanError (unitsOf96 (leAt msg 0x10 12)) (unitsOf96 (leAt msg 0x28 12)) rx.2.1 tx.2.1 (s.objS 64 (O.SPAN_ASYM p)) ∧ b = spanError (unitsOf96 (leAt msg 0x1C 12)) (unitsOf96 (leAt msg 0x34 12)) rx.2.2 tx.2.2 (s.objS 64 (O.SPAN_ASYM p)) ∧ s.joinOwed = false ∧ s.jumps 0 (byteAt msg 4 / 16 % 4) a.1 = false ∧ s.jumps 1 (byteAt msg 5 / 16 % 4) b.1 = false) ∧
    (∃ (s : State), ∃ (now p : Nat), s.quiet ∧ p < s.variant.ports ∧ ∃ d, d < 2 ∧ s.timeMember = true ∧ s.upstreamAt + 100 * usU ≤ (s.at now).L ∧ s.domState d = 1 ∧ (s.dom d).changes = []) := by
  refine ⟨⟨(put (lk up 0 20 6 4) [(O.STACK_ENABLE, 1)]), 5, 0, ⟨?_, ?_⟩, ?_, ?_, ?_, ?_⟩,
    ⟨((put (lk up 0 20 6 4) [(O.STACK_ENABLE, 1)]).modPort 0 (fun x => { x with rxRecords := [(3, ([1, 1, 9] ++ List.replicate 29 0 : Bytes))] })), 0, ([1, 1, 9] ++ List.replicate 29 0 : Bytes), ⟨?_, ?_⟩, ?_, 1, (helloPeer ([1, 1, 9] ++ List.replicate 29 0 : Bytes)), ([] : List (Nat × Bytes)), ?_, ?_, ?_, ?_, ?_, ?_, ?_, ?_, ?_, ?_, fun y h => (nomatch (h : none = some y))⟩,
    ⟨((put (lk up 0 20 6 4) [(O.SERIAL, 5), (O.STACK_ENABLE, 1), (O.STACK_STATE, 1)]).modPort 0 (fun x => { x with rxRecords := [(3, ([1, 4] ++ List.replicate 14 0 ++ List.replicate 16 7 : Bytes))] })), 0, ([1, 4] ++ List.replicate 14 0 ++ List.replicate 16 7 : Bytes), ⟨?_, ?_⟩, ?_, 0, (helloPeer ([1, 4] ++ List.replicate 14 0 ++ List.replicate 16 7 : Bytes)), ([] : List (Nat × Bytes)), ?_, ?_, ?_, ?_, ?_, ?_, ?_, ?_, ?_, ?_, ?_, ?_, ?_⟩,
    ⟨(put (put (lk up 0 20 6 4) [(O.STACK_ENABLE, 1)]) [(O.STACK_VIEW, 3)]), 5, 0, ⟨?_, ?_⟩, ?_, 1, ?_, ?_, ?_, ?_, ?_⟩,
    ⟨(put (lk up 0 20 6 4) [(O.SERIAL, 5), (O.STACK_ENABLE, 1), (O.STACK_STATE, 1)]), 9 * secU, 0, ⟨?_, ?_⟩, ?_, ?_, ?_⟩,
    ⟨({ (put up [(O.STACK_STATE, 3), (O.STACK_ENABLE, 1)]) with helloAt := [(1024, 1)] } : State), 5, 0, ⟨?_, ?_⟩, ?_, m0, [1], ?_⟩,
    ⟨({ (put (lk up 0 20 6 4) [(O.STACK_ENABLE, 1), (O.STACK_STATE, 4)]) with helloAt := [(1024, 1)], peers := [(1, some (⟨2, 0, none, 0, 0, 5⟩ : Peer))] } : State), 5, 0, ⟨?_, ?_⟩, ?_, m0, 1, (⟨2, 0, none, 0, 0, 5⟩ : Peer), ?_, ?_, ?_, ?_, ?_, ?_, ?_, fun m y hm h => absurd h (other_peer hm), ?_⟩,
    ⟨(put (lk up 0 20 6 4) [(O.STACK_ENABLE, 1)]), 5, 0, ⟨?_, ?_⟩, ?_, m0, ?_, ?_, ?_⟩,
    ⟨((put (lk up 0 20 6 4) [(O.STACK_ENABLE, 1)]).modPort 0 (fun x => { x with rxRecords := [(1, ([1, 0] ++ List.replicate 30 0 : Bytes) ++ [1, 2])] })), 0, ⟨?_, ?_⟩, ?_, 4, ([1, 0] ++ List.replicate 30 0 : Bytes), [1, 2], ([] : List (Nat × Bytes)), ?_, ?_, ?_, ?_, ?_, ?_⟩,
    ⟨((put (lk up 0 20 6 4) [(O.STACK_ENABLE, 1)]).modPort 0 (fun x => { x with rxRecords := [(1, ([1, 2, 0, 5] ++ List.replicate 28 0 : Bytes) ++ [1, 2])] })), 0, ⟨?_, ?_⟩, ?_, 4, ([1, 2, 0, 5] ++ List.replicate 28 0 : Bytes), [1, 2], ([] : List (Nat × Bytes)), ?_, ?_, ?_, ?_, ?_, ?_, ?_, ?_⟩,
    ⟨((put (lk up 0 20 6 4) [(O.STACK_ENABLE, 1)]).modPort 0 (fun x => { x with rxRecords := [(1, ([1, 74] ++ List.replicate 30 0 : Bytes) ++ [1, 2])] })), 0, ⟨?_, ?_⟩, ?_, 4, ([1, 74] ++ List.replicate 30 0 : Bytes), [1, 2], ([] : List (Nat × Bytes)), ?_, ?_, ?_, ?_, ?_, ?_, ?_, ?_⟩,
    ⟨((put (lk up 0 20 6 4) [(O.STACK_ENABLE, 1)]).modPort 0 (fun x => { x with rxRecords := [(1, ([1, 66] ++ List.replicate 30 0 : Bytes) ++ [1, 2])] })), 5, 0, ⟨?_, ?_⟩, ?_, 4, ([1, 66] ++ List.replicate 30 0 : Bytes), [1, 2], ([] : List (Nat × Bytes)), ?_, ?_, ?_, ?_, ?_, ?_, ?_, ?_, ?_⟩,
    ⟨(({ (put (put (lk up 0 20 6 4) [(O.STACK_ENABLE, 1)]) [(O.STACK_STATE, 3)]) with relayed := [(⟨5, m0, 1, 2, 7, 0, 0⟩ : Relayed)] } : State).modPort 0 (fun x => { x with rxRecords := [(4, ([1, 5, 0, 0, 5, 7] ++ List.replicate 8 0 : Bytes))] })), 0, ([1, 5, 0, 0, 5, 7] ++ List.replicate 8 0 : Bytes), ⟨?_, ?_⟩, ?_, (⟨5, m0, 1, 2, 7, 0, 0⟩ : Relayed), ([] : List (Nat × Bytes)), ?_, ?_, ?_, ?_, ?_, ?_, ?_, ?_, ?_, ?_, ?_⟩,
    ⟨(put (put (lk up 0 20 6 4) [(O.STACK_ENABLE, 1)]) [(O.STACK_STATE, 3)]), (commaPeriod (modeOf 20).lane + 2 * usU), 0, ⟨?_, ?_⟩, ?_, 1, (2 * usU), ?_, ?_, ?_, ?_, ?_, ?_, ?_, ?_, ?_⟩,
    ⟨(({ (put (lk up 0 20 6 4) [(O.STACK_ENABLE, 1), (O.STACK_STATE, 2), (O.STACK_MASTER, 1), (O.STACK_TIME_ROLE, 2)]) with helloAt := [(1024, 1)], commaRx := [(0, [(1, 1000000000, 1000000000)])], commaTx := [(0, [(2, 1000000000, 1000000000)])] } : State).modPort 0 (fun x => { x with rxRecords := [(2, ([1, 1, 2] ++ List.replicate 61 0 : Bytes))] })), 5, 0, ([1, 1, 2] ++ List.replicate 61 0 : Bytes), ⟨?_, ?_⟩, ?_, (1, 1000000000, 1000000000), (2, 1000000000, 1000000000), (-1000000000, 0), (-1000000000, 0), ([] : List (Nat × Bytes)), ?_, ?_, ?_, ?_, ?_, ?_, ?_, ?_, ?_, ?_, ?_, ?_, ?_⟩,
    ⟨(({ (put (lk up 0 20 6 4) [(O.STACK_ENABLE, 1), (O.STACK_STATE, 2), (O.STACK_MASTER, 1), (O.STACK_TIME_ROLE, 2)]) with helloAt := [(1024, 1)], commaRx := [(0, [(1, 1000000000, 1000000000)])], commaTx := [(0, [(2, 1000000000, 1000000000)])], joinOwed := true } : State).modPort 0 (fun x => { x with rxRecords := [(2, ([1, 1, 2] ++ List.replicate 61 0 : Bytes))] })), 5, 0, ([1, 1, 2] ++ List.replicate 61 0 : Bytes), ⟨?_, ?_⟩, ?_, (1, 1000000000, 1000000000), (2, 1000000000, 1000000000), (-1000000000, 0), (-1000000000, 0), ([] : List (Nat × Bytes)), ?_, ?_, ?_, ?_, ?_, ?_, ?_, ?_, ?_, ?_, ?_, ?_⟩,
    ⟨(({ (put (lk up 0 20 6 4) [(O.STACK_ENABLE, 1), (O.STACK_STATE, 2), (O.STACK_MASTER, 1), (O.STACK_TIME_ROLE, 2)]) with helloAt := [(1024, 1)], commaRx := [(0, [(1, 1000, 1000)])], commaTx := [(0, [(2, 1000, 1000)])] } : State).modPort 0 (fun x => { x with rxRecords := [(2, ([1, 1, 2] ++ List.replicate 61 0 : Bytes))] })), 5, 0, ([1, 1, 2] ++ List.replicate 61 0 : Bytes), ⟨?_, ?_⟩, ?_, (1, 1000, 1000), (2, 1000, 1000), (-1000, 0), (-1000, 0), ([] : List (Nat × Bytes)), ?_, ?_, ?_, ?_, ?_, ?_, ?_, ?_, ?_, ?_, ?_, ?_, ?_, ?_⟩,
    ⟨(put up [(O.STACK_TIME_ROLE, 2), (O.DOM_STATE 0, 1), (O.DOM_STATE 1, 1)]), secU, 0, ⟨?_, ?_⟩, ?_, 0, ?_, ?_, ?_, ?_, ?_⟩⟩ <;> decide +kernel

/-! Well-formedness: one term for each check that the check refuses on the package of two tiles. -/

theorem test_wf_tile : (Instr.tileResetRelease 0 2).wellFormed .clm36 = false ∧ (Instr.tileResetRelease 0 1).wellFormed .clm36 = true := by decide
theorem test_wf_port : (Instr.rxdetTimeout 0 36).wellFormed .clm36 = false ∧ (Instr.rxdetTimeout 0 35).wellFormed .clm36 = true := by decide
theorem test_wf_link : (Instr.colLinkUp 0 0 3).wellFormed .clm144 = false ∧ (Instr.colLinkUp 0 0 2).wellFormed .clm144 = true := by decide
theorem test_wf_route : (Instr.nop 0 (.mailbox 2) []).wellFormed .clm36 = false ∧ (Instr.nop 0 (.ibClient 9) []).wellFormed .clm36 = true := by decide
theorem test_wf_replica : (Instr.replicaTick 0 2 0).wellFormed .clm36 = false ∧ (Instr.replicaTick 0 43 0).wellFormed .clm36 = true ∧
    (Instr.replicaTick 0 44 0).wellFormed .clm36 = false ∧ (Instr.replicaTick 0 8 3).wellFormed .clm36 = false := by decide
theorem test_wf_channel : (Instr.afiRdyRise 0 0 2).wellFormed .clm36 = false := by decide
theorem test_wf_ring : (Instr.rxDeliveryStart 0 0 2048).wellFormed .clm36 = false := by decide
theorem test_wf_tag : (Instr.dmaTimeout 0 0 512).wellFormed .clm36 = false := by decide
theorem test_wf_prio : (Instr.pauseRefresh 0 0 8).wellFormed .clm36 = false := by decide
theorem test_wf_port_slot : (Instr.tsqPop 0 0 18 0).wellFormed .clm36 = false := by decide
theorem test_wf_domain_of_power : (Instr.domainPowerOnDone 0 0 54).wellFormed .clm36 = false := by decide
theorem test_wf_slot : (Instr.slotRetire 0 4).wellFormed .clm36 = false := by decide
theorem test_wf_group : (Instr.basinGroupEmpty 0 0 8).wellFormed .clm36 = false := by decide
theorem test_wf_member : (Instr.memberTimeout 0 4).wellFormed .clm36 = false := by decide
theorem test_wf_domain : (Instr.masterTick 0 2).wellFormed .clm36 = false := by decide
theorem test_wf_snap_source : (Instr.cntSnap 0 0 19).wellFormed .clm36 = false := by decide
theorem test_wf_octet : (Instr.read 0 (.mailbox 0) 0x1000 256 []).wellFormed .clm36 = false := by decide
theorem test_wf_half : (Instr.read 0 (.mailbox 0) 65536 1 []).wellFormed .clm36 = false := by decide
theorem test_wf_word : (Instr.rxFrameEnd 0 4 (2 ^ 32) false).wellFormed .clm36 = false := by decide
theorem test_wf_ident : (Instr.zwFragment 0 2048 []).wellFormed .clm36 = false := by decide
theorem test_wf_seq : (Instr.ackReceived 0 0 4096).wellFormed .clm36 = false := by decide
theorem test_wf_window : (Instr.windowWrite 0 0 65536 4 0).wellFormed .clm36 = false := by decide
theorem test_wf_flit : (Instr.afiTxFrame 0 0 0 4 0 [⟨true, true, 0, false, 4, []⟩]).wellFormed .clm36 = false := by decide
theorem test_wf_symbols : (Instr.fecCodeword 0 0 [⟨8, 1⟩] false).wellFormed .clm36 = false := by decide
theorem test_wf_coefficient : (Instr.trainCoeffRequest 0 0 (.inc 3)).wellFormed .clm36 = false := by decide
theorem test_wf_partner : (Instr.partnerDetected 0 0 ⟨256, false, none⟩).wellFormed .clm36 = false := by decide
theorem test_wf_cap : (Instr.capBlock 0 0 ⟨1, 1, 256, true, true, 1, true, true, 0, 0, 0⟩).wellFormed .clm36 = false := by decide
theorem test_wf_engine : (Instr.engineSchedule 0 0 16 0).wellFormed .clm36 = false := by decide
theorem test_wf_queue : (Instr.cqHoldoffEnd 0 0 1024).wellFormed .clm36 = false := by decide
theorem test_wf_memory : (Instr.scrubRead 0 0 10 0 0).wellFormed .clm36 = false ∧ (Instr.scrubRead 0 0 0 0 3).wellFormed .clm36 = false := by decide
theorem test_wf_page : (Instr.pageGrantWrite 0 (.mailbox 0) 0 8 [1]).wellFormed .clm36 = false := by decide
theorem test_wf_event_counter : (Instr.evcCfgWrite 0 (.mailbox 0) 0 64 []).wellFormed .clm36 = false := by decide

/-! Algorithms that the spec names by their standards, on the standards' own vectors. -/

/-- The example of FIPS 197, Appendix C.1. -/
theorem test_aes : aesEnc (List.range 16) [0x00, 0x11, 0x22, 0x33, 0x44, 0x55, 0x66, 0x77, 0x88, 0x99, 0xaa, 0xbb, 0xcc, 0xdd, 0xee, 0xff] =
    [0x69, 0xc4, 0xe0, 0xd8, 0x6a, 0x7b, 0x04, 0x30, 0xd8, 0xcd, 0xb7, 0x80, 0x70, 0xb4, 0xc5, 0x5a] := by decide +kernel

/-- Example 1 of RFC 4493: the empty message. -/
theorem test_cmac : cmac [0x2b, 0x7e, 0x15, 0x16, 0x28, 0xae, 0xd2, 0xa6, 0xab, 0xf7, 0x15, 0x88, 0x09, 0xcf, 0x4f, 0x3c] [] =
    [0xbb, 0x1d, 0x69, 0x29, 0xe9, 0x59, 0x37, 0x28, 0x7f, 0xa3, 0x7d, 0x12, 0x9b, 0x75, 0x67, 0x46] := by decide +kernel

/-- The check value of CRC-32: that of the nine digits. -/
theorem test_crc32 : crc32 [0x31, 0x32, 0x33, 0x34, 0x35, 0x36, 0x37, 0x38, 0x39] = 0xCBF43926 := by decide +kernel

/-! Commands and the queue. -/

/-- No word spells a command. -/
theorem test_no_word : decodeTableWord 32 0 = none := rfl

/-- An empty queue idles. -/
theorem test_idle : step State.reset = .next State.reset := rfl

/-- What meets the hypotheses of `Obligations.CommandsComplete`. -/
theorem hold_CommandsComplete : State.reset.quiet ∧ State.reset.variant.tiles ≤ 8 ∧ low.quiet ∧ low.variant.ports ≤ 36 ∧ State.reset.safe :=
  ⟨⟨by decide, rfl⟩, by decide, ⟨by decide, rfl⟩, by decide, fun _ h => absurd h (by simp [State.reset])⟩

/-- A step from a sound state with a command in its queue. -/
theorem hold_StepKeepsSound : ∃ s u, s.sound ∧ step s = .next u :=
  ⟨{ low with pending := [.pkgPwrOkChange 5 true] }, _, ⟨⟨by decide +kernel, by decide +kernel⟩, by decide +kernel⟩, rfl⟩

end Sys2Proof.Tests
end

section
/-! What a command gives when its effect is known, and what the shared operations on frames, words and event counters leave as it was. -/

namespace Sys2Proof.Machine

/-! Commands. -/

/-- A command whose effect leaves nothing over completes with its effect. -/
theorem does_of_keeps {c : Instr} {now : Nat} {f : State → State} {s : State} {P : State → Prop} (he : exec c s = act now f s) (hq : s.quiet)
    (hk : Keeps (s.at now) (f (s.at now))) (hp : P (f (s.at now))) : Does c s P :=
  ⟨f (s.at now), he.trans (act_keeps rfl hk hq), hp⟩

/-- A command completes in the state that its frame leaves. -/
theorem does_of_framed {c : Instr} {now : Nat} {f : State → State} {s : State} {P : State → Prop} (he : exec c s = act now f s)
    (hp : P ((s.at now).framed f)) : Does c s P := ⟨_, he.trans (act_next now f s), hp⟩

theorem SameObjs.trans {ks : List Nat} {s u v : State} (h : SameObjs ks s u) (k : SameObjs ks u v) : SameObjs ks s v :=
  fun j hj => (k j hj).trans (h j hj)

/-- A state whose objects stand in the same table reads the same. -/
theorem SameObjs.of_eq {ks : List Nat} {s u : State} (hv : u.variant = s.variant) (ho : u.objs = s.objs) : SameObjs ks s u := fun k _ => by
  unfold State.obj
  rw [hv, ho]

theorem sameObjs_setObj {ks : List Nat} (s : State) {k : Nat} (v : Nat) (hk : k ∈ ks) : SameObjs ks s (s.setObj k v) :=
  fun _ hj => State.obj_setObj_ne s v (fun e => hj (e ▸ hk))

theorem State.obj_bump_self (s : State) (k : Nat) : (s.bump k).obj k = (s.obj k + 1) % 2 ^ 64 := State.obj_setObj_self _ _ _

theorem State.obj_bump_ne (s : State) {k j : Nat} (h : j ≠ k) : (s.bump k).obj j = s.obj j := State.obj_setObj_ne s _ h

@[simp] theorem State.at_copies (s : State) (now : Nat) : (s.at now).copies = s.copies := rfl
@[simp] theorem State.at_holds (s : State) (now : Nat) : (s.at now).holds = s.holds := rfl
@[simp] theorem State.at_queues (s : State) (now : Nat) : (s.at now).queues = s.queues := rfl
@[simp] theorem State.at_tiles (s : State) (now : Nat) : (s.at now).tiles = s.tiles := rfl
@[simp] theorem State.at_inflight (s : State) (now : Nat) : (s.at now).inflight = s.inflight := rfl

/-! Event counters (R529). -/

/-- An event counter that counts changes nothing but objects and wrap flags. -/
theorem State.count_part {γ : Type} (p : State → γ) (hp : ∀ a o w, p { a with objs := o, wraps := w } = p a) (s : State) (k n : Nat) :
    p (s.count k n) = p s := by
  unfold State.count
  dsimp only
  split
  · exact hp s _ s.wraps
  · exact hp s _ _

/-- An event source that occurs changes nothing but objects and wrap flags. -/
theorem State.evc_part {γ : Type} (p : State → γ) (hp : ∀ a o w, p { a with objs := o, wraps := w } = p a) (s : State) (t so id n : Nat) :
    p (s.evc t so id n) = p s := by
  unfold State.evc State.each
  refine foldl_keeps p _ (fun a i => ?_) _ s
  dsimp only
  split
  · exact State.count_part p hp a _ _
  · rfl

theorem State.obj_count_ne (s : State) (n : Nat) {k j : Nat} (h : j ≠ k) : (s.count k n).obj j = s.obj j := by
  unfold State.count
  dsimp only
  split
  · exact State.obj_setObj_ne s _ h
  · exact State.obj_setObj_ne s _ h

/-- The objects an event source of a tile may change: the values of the tile's event counters. -/
abbrev evcKeys (t : Nat) : List Nat := (List.range 64).map (O.EVC_VALUE t)

theorem sameObjs_each {ks : List Nat} (l : List Nat) (f : Nat → State → State) (hf : ∀ i ∈ l, ∀ a, SameObjs ks a (f i a)) (s : State) :
    SameObjs ks s (s.each l f) := by
  unfold State.each
  induction l generalizing s with
  | nil => exact fun _ _ => rfl
  | cons i l ih => exact (hf i List.mem_cons_self s).trans (ih (fun j hj => hf j (List.mem_cons_of_mem _ hj)) (f i s))

theorem evc_sameObjs (s : State) (t so id n : Nat) : SameObjs (evcKeys t) s (s.evc t so id n) := by
  refine sameObjs_each _ _ (fun i hi a => ?_) s
  dsimp only
  split
  · exact fun j hj => State.obj_count_ne a n (fun e => hj (e ▸ List.mem_map_of_mem hi))
  · exact fun _ _ => rfl

/-- An object of a lower index than the event counters of a tile is none of their values. -/
theorem not_mem_evcKeys {t k : Nat} (h : k < (0x7010 + t) * 256) : k ∉ evcKeys t := by
  simp only [evcKeys, List.mem_map, not_exists, not_and]
  intro i _ e
  simp only [O.EVC_VALUE] at e
  omega

theorem State.obj_evc (s : State) (t so id n : Nat) {k : Nat} (h : k < (0x7010 + t) * 256) : (s.evc t so id n).obj k = s.obj k :=
  evc_sameObjs s t so id n k (not_mem_evcKeys h)

end Sys2Proof.Machine
end

section
/-! A frame at its pipe (R28, R30, R31, R312, R315): the position of the datapath word, the lane, and the frame's version. -/

namespace Sys2Proof.Machine

theorem State.frame_modFrame_some {s : State} {fid : Nat} {f : Frame} (h : s.frame fid = some f) (g : Frame → Frame) :
    (s.modFrame fid g).frame fid = some (g f) := by simp [State.frame_modFrame, h]

@[simp] theorem State.modFrame_inflight (s : State) (fid : Nat) (g : Frame → Frame) : (s.modFrame fid g).inflight = s.inflight := rfl

/-! Positions of the datapath word. -/

/-- The state after a segment of a frame got a position (R28). -/
def State.seatSegment (s : State) (fid : Nat) (f : Frame) (w : PipeWord) : State :=
  (s.setWord f.src.tile f.src.pipe w).modFrame fid (fun x => { x with wants := false })

/-- The state after a segment of a frame got none. -/
def State.holdSegment (s : State) (fid : Nat) (f : Frame) (w : PipeWord) : State :=
  (s.modFrame fid (fun x => { x with wants := true })).setWord f.src.tile f.src.pipe w

theorem State.position_taken {s : State} {fid : Nat} {f : Frame} {middle : Nat} (h : (s.position fid f middle).1 = true) :
    ∃ w, (s.position fid f middle).2 = s.seatSegment fid f w := by
  unfold State.position at h ⊢
  dsimp only at h ⊢
  split at h
  · rw [if_pos (by assumption)]
    exact ⟨_, rfl⟩
  · split at h <;> cases h

/-- A segment without a position waits; a cycle in which one from the host feed waits counts once (R45). -/
theorem State.position_waits {s : State} {fid : Nat} {f : Frame} {middle : Nat} (h : (s.position fid f middle).1 = false) :
    ∃ w, (s.position fid f middle).2 =
      if f.slotNo.isSome ∨ (s.word f.src.tile f.src.pipe).waited then s.holdSegment fid f w
      else ((s.holdSegment fid f w).bump (O.HOST_FEED_WAIT f.src.tile)).evc f.src.tile 4 f.src.pipe 1 := by
  unfold State.position at h ⊢
  dsimp only at h ⊢
  split at h
  · cases h
  · rw [if_neg (by assumption)]
    by_cases hw : f.slotNo.isSome ∨ (s.word f.src.tile f.src.pipe).waited
    · simp only [if_pos hw]
      exact ⟨_, rfl⟩
    · simp only [if_neg hw]
      exact ⟨_, rfl⟩

theorem State.frame_seatSegment {s : State} {fid : Nat} {f : Frame} (h : s.frame fid = some f) (w : PipeWord) :
    (s.seatSegment fid f w).frame fid = some { f with wants := false } := State.frame_modFrame_some (s := s.setWord _ _ w) h _

theorem State.frame_holdSegment {s : State} {fid : Nat} {f : Frame} (h : s.frame fid = some f) (w : PipeWord) :
    (s.holdSegment fid f w).frame fid = some { f with wants := true } := State.frame_modFrame_some h _

@[simp] theorem State.seatSegment_inflight (s : State) (fid : Nat) (f : Frame) (w : PipeWord) : (s.seatSegment fid f w).inflight = s.inflight := rfl
@[simp] theorem State.seatSegment_copies (s : State) (fid : Nat) (f : Frame) (w : PipeWord) : (s.seatSegment fid f w).copies = s.copies := rfl
@[simp] theorem State.seatSegment_tiles (s : State) (fid : Nat) (f : Frame) (w : PipeWord) : (s.seatSegment fid f w).tiles = s.tiles := rfl
@[simp] theorem State.seatSegment_queues (s : State) (fid : Nat) (f : Frame) (w : PipeWord) : (s.seatSegment fid f w).queues = s.queues := rfl
@[simp] theorem State.obj_seatSegment (s : State) (fid : Nat) (f : Frame) (w : PipeWord) (k : Nat) : (s.seatSegment fid f w).obj k = s.obj k := rfl

@[simp] theorem State.currentSlot_seatSegment (s : State) (fid : Nat) (f : Frame) (w : PipeWord) : (s.seatSegment fid f w).currentSlot = s.currentSlot := rfl

/-- The captures of a tile are those of its replicas, and the masters' in T0 (R459). -/
theorem State.tileCapture_congr {s u : State} (ho : ∀ k, u.obj k = s.obj k) (hr : ∀ i d, u.replica i d = s.replica i d) (hd : ∀ d, u.dom d = s.dom d)
    (hL : u.L = s.L) (hp : u.pairBad = s.pairBad) (t : Nat) : u.tileCapture t = s.tileCapture t := by
  simp only [State.tileCapture, State.timeAt, State.masterNow, State.presented, State.active, State.offsetO, State.objS, State.tagOf, State.tagP,
    State.repLocked, State.domState, ho, hr, hd, hL, hp]
  rfl

theorem State.tileCapture_seatSegment (s : State) (fid : Nat) (f : Frame) (w : PipeWord) (t : Nat) :
    (s.seatSegment fid f w).tileCapture t = s.tileCapture t := by
  apply State.tileCapture_congr
  · exact fun _ => rfl
  · exact fun _ _ => rfl
  · exact fun _ => rfl
  · rfl
  · rfl

@[simp] theorem State.currentSlot_at (s : State) (now : Nat) : (s.at now).currentSlot = s.currentSlot := rfl

theorem Keeps.setWord {s u : State} (h : Keeps s u) (t k : Nat) (w : PipeWord) : Keeps s (u.setWord t k w) := h.trans (of_eq rfl rfl rfl rfl rfl rfl)

theorem Keeps.seatSegment {s u : State} (h : Keeps s u) (fid : Nat) (f : Frame) (w : PipeWord) : Keeps s (u.seatSegment fid f w) :=
  (h.setWord _ _ _).modFrame _ _

theorem Keeps.holdSegment {s u : State} (h : Keeps s u) (fid : Nat) (f : Frame) (w : PipeWord) : Keeps s (u.holdSegment fid f w) :=
  (h.modFrame _ _).setWord _ _ _

/-! Lanes. -/

theorem State.laneAssign_placed {s : State} {fid lane middle : Nat} {f : Frame} (hs : s.etchSwitch = s) (hf : s.frame fid = some f)
    (hl : s.laneFree f lane = true) (hp : (s.position fid f middle).1 = true) :
    s.laneAssign fid lane middle = (s.position fid f middle).2.takeLane fid lane f := by
  simp only [State.laneAssign, hs, hf, hl, hp, Bool.not_true, Bool.false_eq_true, if_false, if_true]

theorem State.laneAssign_waits {s : State} {fid lane middle : Nat} {f : Frame} (hs : s.etchSwitch = s) (hf : s.frame fid = some f)
    (hl : s.laneFree f lane = true) (hp : (s.position fid f middle).1 = false) :
    s.laneAssign fid lane middle = (s.position fid f middle).2 := by
  simp only [State.laneAssign, hs, hf, hl, hp, Bool.not_true, Bool.false_eq_true, if_false]

/-- A frame that may be assigned a lane is not bad. -/
theorem State.not_bad_of_laneFree {s : State} {f : Frame} {lane : Nat} (h : s.laneFree f lane = true) : f.bad = false := by
  simp only [State.laneFree, State.needsLane, Bool.and_eq_true, Bool.not_eq_true'] at h
  obtain ⟨⟨⟨⟨⟨⟨-, hb⟩, -⟩, -⟩, -⟩, -⟩, -⟩ := h
  exact hb

/-- The lane's start in the word, and the event of a start in the pipe (R529). -/
def State.startIn (s : State) (t p lane : Nat) : State :=
  (s.setWord t p { s.word t p with starts := (s.word t p).starts ++ [lane] }).evc t 3 p 1

/-- The start in a pipe changes words, event counters and wrap flags alone. -/
theorem State.startIn_part {γ : Type} (p : State → γ) (hp : ∀ a o w, p { a with objs := o, wraps := w } = p a)
    (hw : ∀ a t k w, p (a.setWord t k w) = p a) (s : State) (t k lane : Nat) : p (s.startIn t k lane) = p s := by
  unfold State.startIn
  exact (State.evc_part p hp _ _ _ _ _).trans (hw s t k _)

theorem startIn_sameObjs (s : State) (t p lane : Nat) : SameObjs (evcKeys t) s (s.startIn t p lane) :=
  fun k hk => (evc_sameObjs _ _ _ _ _ k hk).trans rfl

theorem State.frame_startIn (s : State) (t p lane fid : Nat) : (s.startIn t p lane).frame fid = s.frame fid :=
  State.startIn_part (fun a => a.frame fid) (fun _ _ _ => rfl) (fun _ _ _ _ => rfl) _ _ _ _

@[simp] theorem State.startIn_inflight (s : State) (t p lane : Nat) : (s.startIn t p lane).inflight = s.inflight :=
  State.startIn_part (fun a => a.inflight) (fun _ _ _ => rfl) (fun _ _ _ _ => rfl) _ _ _ _

@[simp] theorem State.startIn_copies (s : State) (t p lane : Nat) : (s.startIn t p lane).copies = s.copies :=
  State.startIn_part (fun a => a.copies) (fun _ _ _ => rfl) (fun _ _ _ _ => rfl) _ _ _ _

@[simp] theorem State.startIn_tiles (s : State) (t p lane : Nat) : (s.startIn t p lane).tiles = s.tiles :=
  State.startIn_part (fun a => a.tiles) (fun _ _ _ => rfl) (fun _ _ _ _ => rfl) _ _ _ _

@[simp] theorem State.startIn_queues (s : State) (t p lane : Nat) : (s.startIn t p lane).queues = s.queues :=
  State.startIn_part (fun a => a.queues) (fun _ _ _ => rfl) (fun _ _ _ _ => rfl) _ _ _ _

theorem Keeps.startIn {s u : State} (h : Keeps s u) (t p lane : Nat) : Keeps s (u.startIn t p lane) := by
  unfold State.startIn
  exact (h.setWord _ _ _).evc _ _ _ _

/-- On a later pass a frame takes its lane and keeps its version. -/
theorem State.takeLane_again {s : State} {fid lane : Nat} {f : Frame} (hp : f.pass ≠ 0) :
    s.takeLane fid lane f = (s.startIn f.src.tile f.src.pipe lane).modFrame fid (fun x => { x with laned := true, lane := some lane }) := by
  simp only [State.takeLane, hp, State.startIn, ne_eq, not_false_eq_true, if_true]

/-- A frame that takes its lane on pass 0: its slot, its count in flight, and the captures of one that the host feeds (R25, R30, R315). -/
def Frame.enter (x : Frame) (lane k : Nat) (cap : Capture) : Frame :=
  { x with laned := true, lane := some lane, slot := k, flying := true, cap := if x.src.host then cap else x.cap }

/-- A frame enters its pipe, and counts in flight under its slot (R315). -/
def State.fly (s : State) (fid t lane k : Nat) (cap : Capture) : State :=
  let a := s.modFrame fid (fun x => x.enter lane k cap)
  { a with inflight := tmod 0 a.inflight (4 * t + k) (· + 1) }

@[simp] theorem State.fly_copies (s : State) (fid t lane k : Nat) (cap : Capture) : (s.fly fid t lane k cap).copies = s.copies := rfl
@[simp] theorem State.fly_tiles (s : State) (fid t lane k : Nat) (cap : Capture) : (s.fly fid t lane k cap).tiles = s.tiles := rfl
@[simp] theorem State.fly_queues (s : State) (fid t lane k : Nat) (cap : Capture) : (s.fly fid t lane k cap).queues = s.queues := rfl
@[simp] theorem State.obj_fly (s : State) (fid t lane k : Nat) (cap : Capture) (j : Nat) : (s.fly fid t lane k cap).obj j = s.obj j := rfl

theorem State.frame_fly {s : State} {fid : Nat} {f : Frame} (h : s.frame fid = some f) (t lane k : Nat) (cap : Capture) :
    (s.fly fid t lane k cap).frame fid = some (f.enter lane k cap) := State.frame_modFrame_some h _

theorem State.flying_fly (s : State) (fid t lane k : Nat) (cap : Capture) : (s.fly fid t lane k cap).flying t k = s.flying t k + 1 := by
  simp [State.flying, State.fly]

theorem Keeps.fly {s u : State} (h : Keeps s u) (fid t lane k : Nat) (cap : Capture) : Keeps s (u.fly fid t lane k cap) :=
  h.trans (of_eq rfl rfl rfl rfl rfl rfl)

/-- On pass 0 a frame takes its lane under the version that is current, and counts in flight under it. -/
theorem State.takeLane_first {s : State} {fid lane : Nat} {f : Frame} (hp : f.pass = 0) (hc : s.pairOk (.current f.src.tile f.src.pipe) = true) :
    s.takeLane fid lane f = (s.startIn f.src.tile f.src.pipe lane).fly fid f.src.tile lane s.currentSlot (s.tileCapture f.src.tile) := by
  simp only [State.takeLane, State.fly, Frame.enter, State.startIn, hp, hc, ne_eq, not_true_eq_false, Bool.not_true, Bool.false_eq_true, if_false]

/-! Credits. -/

/-- While a frame is in its pipe as far as it was, no flit of it gives its credit back (R64). -/
theorem State.afiFreed_same {s s0 : State} {fid : Nat} {f g : Frame} (hf : s0.frame fid = some f) (hg : s.frame fid = some g)
    (hl : g.lastSeg = f.lastSeg) (hb : g.bad = false) (hp : g.pass = f.pass) : s.afiFreed s0 fid = s := by
  unfold State.afiFreed
  rw [hf]
  dsimp only
  split
  · rw [hg]
    simp only [hl, hb, hp, Bool.or_false, Bool.or_not_self, if_true]
  · rfl

/-- A command that is a step of a pipe completes in what the step leaves, where the frame stays as far in its pipe as it was. -/
theorem does_piped {c : Instr} {s u : State} {now fid : Nat} {f g : Frame} {step : State → State} {P : State → Prop}
    (he : exec c s = act now (fun a => a.piped fid step) s) (hq : s.quiet) (hf : s.frame fid = some f) (hu : step (s.at now) = u)
    (hk : Keeps (s.at now) u) (hg : u.frame fid = some g) (hl : g.lastSeg = f.lastSeg) (hb : g.bad = false) (hp : g.pass = f.pass) (hP : P u) :
    Does c s P := by
  have hs : (s.at now).piped fid step = u := by
    rw [State.piped, hu]
    exact State.afiFreed_same (s0 := s.at now) hf hg hl hb hp
  refine does_of_keeps he hq ?_ ?_
  · exact hs ▸ hk
  · exact hs ▸ hP

/-! FRAME_LANE_ASSIGN. -/

section
variable {s : State} {now fid lane middle : Nat} {f : Frame} (hq : s.quiet) (hf : s.frame fid = some f) (hs : (s.at now).etchSwitch = s.at now)
  (hl : (s.at now).laneFree f lane = true)
include hq hf hs hl

/-- On pass 0 a frame with a position takes its lane and the version that is current (R30, R312, R315). -/
theorem frameLaneAssign_first (hpass : f.pass = 0) (hpos : ((s.at now).position fid f middle).1 = true)
    (hpair : s.pairOk (.current f.src.tile f.src.pipe) = true) :
    Does (.frameLaneAssign now fid lane middle) s (fun u => u.flying f.src.tile s.currentSlot = s.flying f.src.tile s.currentSlot + 1 ∧
      (∃ g, u.frame fid = some g ∧ g.laned = true ∧ g.lane = some lane ∧ g.wants = false ∧ g.flying = true ∧ g.slot = s.currentSlot ∧ g.data = f.data ∧
        g.resolved = f.resolved ∧ (f.src.host = false → g.cap = f.cap) ∧ (f.src.host = true → g.cap = (s.at now).tileCapture f.src.tile)) ∧
      SameObjs (evcKeys f.src.tile) s u ∧ u.copies = s.copies ∧ u.tiles = s.tiles ∧ u.queues = s.queues) := by
  have hb : f.bad = false := State.not_bad_of_laneFree hl
  obtain ⟨w, hw⟩ := State.position_taken hpos
  have hu : (s.at now).laneAssign fid lane middle =
      (((s.at now).seatSegment fid f w).startIn f.src.tile f.src.pipe lane).fly fid f.src.tile lane s.currentSlot ((s.at now).tileCapture f.src.tile) := by
    rw [State.laneAssign_placed hs hf hl hpos, hw, State.takeLane_first hpass (by exact hpair), State.currentSlot_seatSegment, State.tileCapture_seatSegment,
      State.currentSlot_at]
  have hg := State.frame_fly ((State.frame_startIn ((s.at now).seatSegment fid f w) f.src.tile f.src.pipe lane fid).trans
    (State.frame_seatSegment hf w)) f.src.tile lane s.currentSlot ((s.at now).tileCapture f.src.tile)
  refine does_piped (step := fun b => b.laneAssign fid lane middle) rfl hq hf hu
    ((((Keeps.refl _).seatSegment _ _ _).startIn _ _ _).fly _ _ _ _ _) hg rfl hb rfl
    ⟨?_, ⟨_, hg, rfl, rfl, rfl, rfl, rfl, rfl, rfl, fun h => ?_, fun h => ?_⟩, fun k hk => ?_, ?_, ?_, ?_⟩
  · rw [State.flying_fly]
    simp [State.flying]
  · exact if_neg (by simp [h])
  · exact if_pos h
  · simpa using startIn_sameObjs ((s.at now).seatSegment fid f w) _ _ lane k hk
  · simp
  · simp
  · simp

/-- On a later pass a frame with a position takes its lane and keeps its version (R30, R314). -/
theorem frameLaneAssign_again (hpass : f.pass ≠ 0) (hpos : ((s.at now).position fid f middle).1 = true) :
    Does (.frameLaneAssign now fid lane middle) s (fun u => u.frame fid = some { f with laned := true, lane := some lane, wants := false } ∧
      u.inflight = s.inflight ∧ SameObjs (evcKeys f.src.tile) s u ∧ u.copies = s.copies ∧ u.tiles = s.tiles) := by
  have hb : f.bad = false := State.not_bad_of_laneFree hl
  obtain ⟨w, hw⟩ := State.position_taken hpos
  have hu := (State.laneAssign_placed hs hf hl hpos).trans
    ((congrArg (State.takeLane · fid lane f) hw).trans (State.takeLane_again (s := (s.at now).seatSegment fid f w) hpass))
  have hg := (State.frame_startIn ((s.at now).seatSegment fid f w) f.src.tile f.src.pipe lane fid).trans (State.frame_seatSegment hf w)
  have hg' := State.frame_modFrame_some hg (fun x => { x with laned := true, lane := some lane })
  refine does_piped (step := fun b => b.laneAssign fid lane middle) rfl hq hf hu ((((Keeps.refl _).seatSegment _ _ _).startIn _ _ _).modFrame _ _) hg' rfl hb rfl ⟨hg', ?_, fun k hk => ?_, ?_, ?_⟩
  · simp
  · simpa using startIn_sameObjs ((s.at now).seatSegment fid f w) _ _ lane k hk
  · simp
  · simp

/-- A frame without a position waits; a cycle in which one from the host feed waits counts (R28, R31, R45). -/
theorem frameLaneAssign_waits (hpos : ((s.at now).position fid f middle).1 = false) :
    Does (.frameLaneAssign now fid lane middle) s (fun u => u.frame fid = some { f with wants := true } ∧ u.inflight = s.inflight ∧ u.copies = s.copies ∧
      (f.slotNo ≠ none → SameObjs [] s u) ∧
      (f.slotNo = none → ((s.at now).word f.src.tile f.src.pipe).waited = false →
        u.obj (O.HOST_FEED_WAIT f.src.tile) = (s.obj (O.HOST_FEED_WAIT f.src.tile) + 1) % 2 ^ 64)) := by
  have hb : f.bad = false := State.not_bad_of_laneFree hl
  obtain ⟨w, hw⟩ := State.position_waits hpos
  have hu := (State.laneAssign_waits hs hf hl hpos).trans hw
  have hg := State.frame_holdSegment (s := s.at now) hf w
  split at hu
  · rename_i hc
    refine does_piped (step := fun b => b.laneAssign fid lane middle) rfl hq hf hu ((Keeps.refl _).holdSegment _ _ _) hg rfl hb rfl ⟨hg, rfl, rfl, fun _ _ _ => rfl, fun hn hwt => ?_⟩
    simp [hn, hwt] at hc
  · rename_i hc
    have hg' := (State.evc_part (fun a => a.frame fid) (fun _ _ _ => rfl)
      (((s.at now).holdSegment fid f w).bump (O.HOST_FEED_WAIT f.src.tile)) f.src.tile 4 f.src.pipe 1).trans hg
    refine does_piped (step := fun b => b.laneAssign fid lane middle) rfl hq hf hu ((((Keeps.refl _).holdSegment _ _ _).bump _).evc _ _ _ _) hg' rfl hb rfl
      ⟨hg', ?_, ?_, fun hn => ?_, fun _ _ => ?_⟩
    · exact (State.evc_part (fun a => a.inflight) (fun _ _ _ => rfl) _ _ _ _ _).trans rfl
    · exact (State.evc_part (fun a => a.copies) (fun _ _ _ => rfl) _ _ _ _ _).trans rfl
    · exact absurd (Or.inl (Option.isSome_iff_ne_none.mpr hn)) hc
    · rw [evc_sameObjs _ _ _ _ _ _ (not_mem_evcKeys (by simp only [O.HOST_FEED_WAIT]; omega)), State.obj_bump_self]
      rfl

end

end Sys2Proof.Machine
end

section
/-! The lookup of a frame (R267 to R275, R289 to R292): what its parse sets, what its action or its want of a match makes of it. -/

namespace Sys2Proof.Machine

/-! The end of the parse. -/

/-- What the end of a parse sets in a frame, before its action (R267 to R290). -/
def Frame.parsed (x : Frame) (w : Walk) (prio : Nat) : Frame :=
  { x with resolved := true, lane := none, outcome := w.outcome, req := w.req, walk := w, prio := prio, tsSel := 0, matchId := 0, looked := false, recirc := false }

/-- The state in which a frame's action is taken. -/
def State.parseDone (s : State) (fid : Nat) (f : Frame) : State := s.modFrame fid (fun x => x.parsed (s.parseOf f) (s.defaultPrio f (s.parseOf f)))

theorem State.frame_parseDone {s : State} {fid : Nat} {f : Frame} (h : s.frame fid = some f) :
    (s.parseDone fid f).frame fid = some (f.parsed (s.parseOf f) (s.defaultPrio f (s.parseOf f))) := State.frame_modFrame_some h _

@[simp] theorem State.obj_parseDone (s : State) (fid : Nat) (f : Frame) (k : Nat) : (s.parseDone fid f).obj k = s.obj k := rfl

theorem Keeps.parseDone {s u : State} (h : Keeps s u) (fid : Nat) (f : Frame) : Keeps s (u.parseDone fid f) := h.modFrame _ _

/-- A frame that has not ended and whose last segment is still to come is neither done with its version nor gone (R315). -/
theorem State.landIfDone_open {s : State} {fid : Nat} {g : Frame} (hg : s.frame fid = some g) (hl : g.lastSeg = false) : s.landIfDone fid = s := by
  simp [State.landIfDone, hg, hl]

theorem State.tidy_open {s : State} {fid : Nat} {g : Frame} (hg : s.frame fid = some g) (he : g.ended = false) : s.tidy fid = s := by
  simp [State.tidy, hg, he]

/-- The lookup of a well-formed frame that still arrives is its action, taken once the parse is done. -/
theorem State.lookupResolve_open {s u : State} {fid : Nat} {f g : Frame} (hf : s.frame fid = some f) (hlaned : f.laned = true) (hres : f.resolved = false)
    (hbad : f.bad = false) (hlast : f.lastSeg = false) (hend : f.ended = false) (hout : (s.parseOf f).outcome = 0)
    (hturn : s.inTurn f (fun g => g.laned && !g.resolved && !g.bad) = true) (hu : (s.parseDone fid f).resolveAct fid f (s.parseOf f) = u)
    (hg : u.frame fid = some g) (hgl : g.lastSeg = false) (hge : g.ended = false) : s.lookupResolve fid = u := by
  simp only [State.parseDone, Frame.parsed, hout] at hu
  unfold State.lookupResolve
  rw [hf]
  simp only [hlaned, hres, hbad, hturn, hlast, hend, Bool.not_true, Bool.false_eq_true, or_self, if_false, hout, not_true_eq_false, ne_eq, and_false, hu,
    hg, State.landIfDone_open hg hgl, State.tidy_open hg hge]

/-! Copies and fates. -/

theorem State.copy_addCopy (s : State) (fid h : Nat) (c : Copy) : (s.addCopy fid h c).copy fid h = some c := by
  simp [State.copy, State.addCopy, State.setCopy]

@[simp] theorem State.obj_addCopy (s : State) (fid h : Nat) (c : Copy) (k : Nat) : (s.addCopy fid h c).obj k = s.obj k := rfl
@[simp] theorem State.addCopy_tiles (s : State) (fid h : Nat) (c : Copy) : (s.addCopy fid h c).tiles = s.tiles := rfl
@[simp] theorem State.addCopy_queues (s : State) (fid h : Nat) (c : Copy) : (s.addCopy fid h c).queues = s.queues := rfl
@[simp] theorem State.addCopy_holds (s : State) (fid h : Nat) (c : Copy) : (s.addCopy fid h c).holds = s.holds := rfl

/-- The fate of a frame without a descriptor is not recorded (R501). -/
theorem State.noteFate_of_desc_none {s : State} {fid : Nat} {f : Frame} (hf : s.frame fid = some f) (hd : f.hm.desc = none) (h cause ts tag : Nat) :
    s.noteFate fid h cause ts tag = s := by
  unfold State.noteFate
  rw [hf]
  dsimp only
  rw [hd]
  split
  · contradiction
  · rfl

theorem State.spanDst_port {s : State} {p : Nat} (h : (s.mode p).kind ≠ 2) (q : Nat) : s.spanDst (.port p q) = false := by
  simpa [State.spanDst] using h

/-- A frame's original is made where its destination is open and no span port (R61, R628). -/
theorem State.original_made {s : State} {fid : Nat} {f : Frame} {c : Copy} (hf : s.frame fid = some f) (ho : s.open c.dst = true)
    (hs : s.spanDst c.dst = false) : s.original fid c = s.addCopy fid 0 c := by
  simp [State.original, hf, ho, hs]

/-! Actions. -/

/-- What an action sets in its frame (R289, R290). -/
def Frame.acted (x : Frame) (a prio colour : Nat) : Frame :=
  { x with prio := prio, colour := colour, charge := none, tsSel := a % 4, matchId := octets a 8 2, looked := true, recirc := false }

/-- The ternary rule that decided a frame counts a hit (R287). -/
def State.hitRule (s : State) (f : Frame) (rule : Option Nat) : State :=
  match rule with
  | some n => { s with tcHits := tmod 0 s.tcHits (tcNum f.src.tile f.src.pipe n) (fun v => (v + 1) % 2 ^ 64) }
  | none => s

/-- The state after an action without meter, copies, mirror or recirculation, before the frame goes anywhere. -/
def State.acted (s : State) (fid : Nat) (f : Frame) (w : Walk) (a colour : Nat) (rule : Option Nat) : State :=
  (s.hitRule f rule).modFrame fid (fun x => x.acted a (if bit a 2 then octet a 4 / 16 % 8 else s.defaultPrio f w) colour)

theorem State.hitRule_part {γ : Type} (p : State → γ) (hp : ∀ a h, p { a with tcHits := h } = p a) (s : State) (f : Frame) (rule : Option Nat) :
    p (s.hitRule f rule) = p s := by
  cases rule with
  | none => rfl
  | some n => exact hp s _

/-- An action that forwards to a port, without meter, copies or mirror. -/
theorem State.applyAction_port {s : State} {fid : Nat} {f : Frame} {w : Walk} {a : Nat} {rule : Option Nat} (h4 : bit a 4 = false) (h5 : bit a 5 = false)
    (h63 : bit a 63 = false) (hfwd : octet a 0 / 64 = 1) (hkind : octet a 1 / 64 = 0) :
    s.applyAction fid f w a rule = (s.acted fid f w a f.colour rule).actOriginal fid
      { dst := .port (octets a 2 2) (octet a 4 % 16), place := .arrived, colour := f.colour, matchId := octets a 8 2 } := by
  simp only [State.applyAction, State.colourOf, h4, h5, h63, hfwd, hkind]
  cases rule <;> rfl

/-- An action that does not forward, without copies or mirror. -/
theorem State.applyAction_nowhere {s : State} {fid : Nat} {f : Frame} {w : Walk} {a : Nat} {rule : Option Nat} (h4 : bit a 4 = false) (h5 : bit a 5 = false)
    (hfwd : octet a 0 / 64 ≠ 1) : s.applyAction fid f w a rule = (s.acted fid f w a 0 rule).noteFate fid 0 6 0 0 := by
  have hf : (octet a 0 / 64 == 1) = false := by simpa using hfwd
  simp only [State.applyAction, h4, h5, hf]
  cases rule <;> rfl

theorem State.hitRule_frame (s : State) (f : Frame) (rule : Option Nat) (j : Nat) : (s.hitRule f rule).frame j = s.frame j :=
  State.hitRule_part (fun a => a.frame j) (fun _ _ => rfl) s f rule

theorem State.frame_acted {s : State} {fid : Nat} {g : Frame} (hg : s.frame fid = some g) (f : Frame) (w : Walk) (a colour : Nat) (rule : Option Nat) :
    (s.acted fid f w a colour rule).frame fid = some (g.acted a (if bit a 2 then octet a 4 / 16 % 8 else s.defaultPrio f w) colour) :=
  State.frame_modFrame_some ((State.hitRule_frame s f rule fid).trans hg) _

@[simp] theorem State.obj_acted (s : State) (fid : Nat) (f : Frame) (w : Walk) (a colour : Nat) (rule : Option Nat) (k : Nat) :
    (s.acted fid f w a colour rule).obj k = s.obj k := State.hitRule_part (fun u => u.obj k) (fun _ _ => rfl) s f rule
@[simp] theorem State.acted_copies (s : State) (fid : Nat) (f : Frame) (w : Walk) (a colour : Nat) (rule : Option Nat) :
    (s.acted fid f w a colour rule).copies = s.copies := State.hitRule_part (fun u => u.copies) (fun _ _ => rfl) s f rule
@[simp] theorem State.acted_tiles (s : State) (fid : Nat) (f : Frame) (w : Walk) (a colour : Nat) (rule : Option Nat) :
    (s.acted fid f w a colour rule).tiles = s.tiles := State.hitRule_part (fun u => u.tiles) (fun _ _ => rfl) s f rule
@[simp] theorem State.acted_queues (s : State) (fid : Nat) (f : Frame) (w : Walk) (a colour : Nat) (rule : Option Nat) :
    (s.acted fid f w a colour rule).queues = s.queues := State.hitRule_part (fun u => u.queues) (fun _ _ => rfl) s f rule
@[simp] theorem State.acted_holds (s : State) (fid : Nat) (f : Frame) (w : Walk) (a colour : Nat) (rule : Option Nat) :
    (s.acted fid f w a colour rule).holds = s.holds := State.hitRule_part (fun u => u.holds) (fun _ _ => rfl) s f rule

theorem Keeps.acted {s u : State} (h : Keeps s u) (fid : Nat) (f : Frame) (w : Walk) (a colour : Nat) (rule : Option Nat) :
    Keeps s (u.acted fid f w a colour rule) := by
  refine Keeps.modFrame ?_ _ _
  cases rule with
  | none => exact h
  | some n => exact h.trans (of_eq rfl rfl rfl rfl rfl rfl)

theorem State.actOriginal_port {s : State} {fid p q : Nat} {f : Frame} {c : Copy} (hc : c.dst = .port p q) (hf : s.frame fid = some f)
    (hup : s.portUp p = true) (hkind : (s.mode p).kind ≠ 2) : s.actOriginal fid c = s.addCopy fid 0 c := by
  have hs : s.spanDst c.dst = false := hc ▸ State.spanDst_port hkind q
  have ho : s.open c.dst = true := hc ▸ hup
  simp only [State.actOriginal, hs, Bool.false_and, Bool.false_eq_true, if_false]
  exact State.original_made hf ho hs

theorem State.portUp_acted (s : State) (fid : Nat) (f : Frame) (w : Walk) (a colour : Nat) (rule : Option Nat) (p : Nat) :
    (s.acted fid f w a colour rule).portUp p = s.portUp p := by simp only [State.portUp, State.obj_acted]

theorem State.mode_acted (s : State) (fid : Nat) (f : Frame) (w : Walk) (a colour : Nat) (rule : Option Nat) (p : Nat) :
    (s.acted fid f w a colour rule).mode p = s.mode p := by simp only [State.mode, State.obj_acted]

@[simp] theorem State.parseDone_copies (s : State) (fid : Nat) (f : Frame) : (s.parseDone fid f).copies = s.copies := rfl
@[simp] theorem State.parseDone_tiles (s : State) (fid : Nat) (f : Frame) : (s.parseDone fid f).tiles = s.tiles := rfl
@[simp] theorem State.parseDone_queues (s : State) (fid : Nat) (f : Frame) : (s.parseDone fid f).queues = s.queues := rfl
@[simp] theorem State.parseDone_holds (s : State) (fid : Nat) (f : Frame) : (s.parseDone fid f).holds = s.holds := rfl

theorem State.lookup_parseDone (s : State) (fid : Nat) (f : Frame) (w : Walk) (l2 : Bool) : (s.parseDone fid f).lookup f w l2 = s.lookup f w l2 := by
  rfl

/-! The processor's limiters (R291 to R293). -/

theorem Keeps.setCredit {s u : State} (h : Keeps s u) (t i v : Nat) : Keeps s (u.setCredit t i v) := h.modTile t _ (fun _ => rfl)

theorem Keeps.limiterRefill {s u : State} (h : Keeps s u) (t : Nat) : Keeps s (u.limiterRefill t) := by
  unfold State.limiterRefill State.refillOnce
  exact Keeps.ite h ((h.each _ _ (fun i a ha => (ha.adopt _).setCredit _ _ _)).modTile _ _ (fun _ => rfl))

/-- A refill of the limiters changes tiles and values in force alone. -/
theorem State.limiterRefill_part {γ : Type} (p : State → γ) (hm : ∀ a t f, p (State.modTile a t f) = p a) (ha : ∀ a k, p (State.adopt a k) = p a)
    (s : State) (t : Nat) : p (s.limiterRefill t) = p s := by
  unfold State.limiterRefill State.refillOnce
  split
  · rfl
  · rw [hm]
    unfold State.each
    exact foldl_keeps p _ (fun a i => (hm _ _ _).trans (ha _ _)) _ s

/-- Two states that the limiters of a tile cannot tell apart: the instant, the tiles and the tile's limiter objects are the same. -/
structure LimAlike (t : Nat) (u s : State) : Prop where
  L : u.L = s.L
  now : u.now = s.now
  tiles : u.tiles = s.tiles
  rate : ∀ i, u.obj (limRate t i) = s.obj (limRate t i)
  burst : ∀ i, u.obj (limBurst t i) = s.obj (limBurst t i)

theorem LimAlike.limCredit {t : Nat} {u s : State} (h : LimAlike t u s) (x i : Nat) : u.limCredit x i = s.limCredit x i := by
  simp only [State.limCredit, State.tile, h.tiles]

theorem LimAlike.modTile {t : Nat} {u s : State} (h : LimAlike t u s) (x : Nat) (f : Tile → Tile) : LimAlike t (u.modTile x f) (s.modTile x f) :=
  ⟨h.L, h.now, by simp only [State.modTile, h.tiles], h.rate, h.burst⟩

theorem LimAlike.refillOne {t : Nat} {u s : State} (h : LimAlike t u s) (i : Nat) :
    LimAlike t ((u.adopt (limRate t i)).setCredit t i (min (u.limCredit t i + u.obj (limRate t i)) (u.obj (limBurst t i) * 1000000)))
      ((s.adopt (limRate t i)).setCredit t i (min (s.limCredit t i + s.obj (limRate t i)) (s.obj (limBurst t i) * 1000000))) := by
  rw [h.limCredit, h.rate, h.burst]
  have ha : LimAlike t (u.adopt (limRate t i)) (s.adopt (limRate t i)) := ⟨h.L, h.now, h.tiles, h.rate, h.burst⟩
  exact ha.modTile t _

/-- A refill keeps two states alike. -/
theorem LimAlike.limiterRefill {t : Nat} {u s : State} (h : LimAlike t u s) : LimAlike t (u.limiterRefill t) (s.limiterRefill t) := by
  have hw : (!u.wholeUs || tget 0 (u.tile t).refilled 1 == u.now + 1) = (!s.wholeUs || tget 0 (s.tile t).refilled 1 == s.now + 1) := by
    simp only [State.wholeUs, State.tile, h.L, h.now, h.tiles]
  unfold State.limiterRefill State.refillOnce
  rw [hw]
  split
  · exact h
  · rw [h.now]
    refine LimAlike.modTile ?_ t _
    unfold State.each
    exact List.foldl_rel h (fun i _ _ _ hr => hr.refillOne i)

/-- A frame that finds a credit passes its limiter and takes the credit (R292). -/
theorem State.offerLim_passes {s : State} {t i : Nat} (h : 1000000 ≤ (s.limiterRefill t).limCredit t i) :
    s.offerLim t i = (true, (s.limiterRefill t).setCredit t i ((s.limiterRefill t).limCredit t i - 1000000)) := by
  simp only [State.offerLim, h, if_true]

theorem State.limCredit_setCredit (s : State) (t i v : Nat) : (s.setCredit t i v).limCredit t i = v := by
  simp [State.limCredit, State.setCredit]

/-! Frames without a match (R291). -/

theorem State.unmatched_discarded {s : State} {fid t : Nat} {f : Frame} (hf : s.frame fid = some f) (hd : f.hm.desc = none)
    (hm : s.obj (O.UNMATCHED_MODE t) = 1) : s.unmatched fid t = s.bump (O.UNMATCHED_FRAMES t) := by
  simp only [State.unmatched, hm, if_true]
  exact State.noteFate_of_desc_none (s := s.bump _) hf hd 0 6 0 0

/-- The state after an unmatched frame counted and passed the limiter of unmatched frames. -/
def State.passUnmatched (s : State) (t : Nat) : State :=
  let a := (s.bump (O.UNMATCHED_FRAMES t)).limiterRefill t
  a.setCredit t 1 (a.limCredit t 1 - 1000000)

theorem State.unmatched_passes {s : State} {fid t : Nat} {f : Frame} (hf : s.frame fid = some f) (hm : s.obj (O.UNMATCHED_MODE t) ≠ 1)
    (hc : 1000000 ≤ ((s.bump (O.UNMATCHED_FRAMES t)).limiterRefill t).limCredit t 1) :
    s.unmatched fid t = (s.passUnmatched t).original fid
      { dst := procDst (s.obj (O.PROC_UNMATCHED_DST t)), place := .arrived, kind := 3, colour := f.colour } := by
  simp only [State.unmatched, hm, if_false, State.offerLim_passes hc, if_true, hf, Option.map_some, Option.getD_some]
  rfl

theorem State.obj_limiterRefill (s : State) (t k : Nat) : (s.limiterRefill t).obj k = s.obj k :=
  State.limiterRefill_part (fun a => a.obj k) (fun _ _ _ => rfl) (fun _ _ => rfl) s t

theorem State.frame_passUnmatched (s : State) (t fid : Nat) : (s.passUnmatched t).frame fid = s.frame fid :=
  State.limiterRefill_part (fun a => a.frame fid) (fun _ _ _ => rfl) (fun _ _ => rfl) (s.bump _) t

theorem State.obj_passUnmatched (s : State) (t k : Nat) : (s.passUnmatched t).obj k = (s.bump (O.UNMATCHED_FRAMES t)).obj k :=
  State.obj_limiterRefill (s.bump _) t k

theorem State.limCredit_passUnmatched (s : State) (t : Nat) :
    (s.passUnmatched t).limCredit t 1 = ((s.bump (O.UNMATCHED_FRAMES t)).limiterRefill t).limCredit t 1 - 1000000 := State.limCredit_setCredit _ t 1 _

theorem Keeps.passUnmatched {s u : State} (h : Keeps s u) (t : Nat) : Keeps s (u.passUnmatched t) := ((h.bump _).limiterRefill t).setCredit _ _ _

/-- The count of unmatched frames is no limiter's object. -/
theorem limAlike_parseDone_bump (s : State) (fid t : Nat) (f : Frame) : LimAlike t ((s.parseDone fid f).bump (O.UNMATCHED_FRAMES t)) s where
  L := rfl
  now := rfl
  tiles := rfl
  rate i := State.obj_bump_ne _ (by
    unfold limRate
    simp only [O.UNMATCHED_FRAMES, O.LIM_COPY_RATE, O.LIM_UNMATCHED_RATE, O.LIM_MALFORMED_RATE]
    split
    · omega
    · split <;> omega)
  burst i := State.obj_bump_ne _ (by
    unfold limBurst
    simp only [O.UNMATCHED_FRAMES, O.LIM_COPY_BURST, O.LIM_UNMATCHED_BURST, O.LIM_MALFORMED_BURST]
    split
    · omega
    · split <;> omega)

/-- A processor destination is no port (R291). -/
theorem procDst_ne_port {v : Nat} (h : 65536 ≤ v) (s : State) : s.open (procDst v) = true ∧ s.spanDst (procDst v) = false := by
  have hv : v / 65536 ≠ 0 := by omega
  unfold procDst dstOf
  rw [if_neg hv]
  split
  · exact ⟨rfl, rfl⟩
  · split <;> exact ⟨rfl, rfl⟩

/-! LOOKUP_RESOLVE. -/

section
variable {s : State} {now fid : Nat} {f : Frame} (hq : s.quiet) (hf : s.frame fid = some f) (hlaned : f.laned = true) (hres : f.resolved = false)
  (hbad : f.bad = false) (hlast : f.lastSeg = false) (hend : f.ended = false) (hdesc : f.hm.desc = none) (hout : (s.parseOf f).outcome = 0)
  (hturn : s.inTurn f (fun g => g.laned && !g.resolved && !g.bad) = true)

include hq hf hlaned hres hbad hlast hend hout hturn in
/-- The lookup of a well-formed frame that still arrives completes in what its action leaves. -/
theorem does_lookupResolve {u : State} {g : Frame} {P : State → Prop} (hu : ((s.at now).parseDone fid f).resolveAct fid f (s.parseOf f) = u)
    (hk : Keeps (s.at now) u) (hg : u.frame fid = some g) (hgl : g.lastSeg = f.lastSeg) (hge : g.ended = f.ended) (hgb : g.bad = f.bad)
    (hgp : g.pass = f.pass) (hP : P u) : Does (.lookupResolve now fid) s P :=
  does_piped (step := fun b => b.lookupResolve fid) rfl hq hf
    (State.lookupResolve_open (s := s.at now) hf hlaned hres hbad hlast hend hout hturn hu hg (hgl.trans hlast) (hge.trans hend))
    hk hg hgl (hgb.trans hbad) hgp hP

include hq hf hlaned hres hbad hlast hend hout hturn in
/-- A frame whose sender named its port goes there without a lookup (R61, R261). -/
theorem lookupResolve_named (hdst : f.hm.dstPort ≠ 0xFF) (hup : s.portUp f.hm.dstPort = true) (hkind : (s.mode f.hm.dstPort).kind ≠ 2) :
    Does (.lookupResolve now fid) s (fun u =>
      u.copy fid 0 = some { dst := .port f.hm.dstPort f.hm.queue, place := .arrived, colour := f.colour, matchId := f.matchId } ∧
      (∃ g, u.frame fid = some g ∧ g.resolved = true ∧ g.looked = false) ∧ SameObjs [] s u) := by
  have hp := State.frame_parseDone (s := s.at now) hf
  have hu : ((s.at now).parseDone fid f).resolveAct fid f (s.parseOf f) = ((s.at now).parseDone fid f).addCopy fid 0
      { dst := .port f.hm.dstPort f.hm.queue, place := .arrived, colour := f.colour, matchId := f.matchId } := by
    rw [State.resolveAct, if_pos hdst]
    exact State.original_made hp hup (State.spanDst_port (s := (s.at now).parseDone fid f) hkind _)
  exact does_lookupResolve hq hf hlaned hres hbad hlast hend hout hturn hu (((Keeps.refl _).parseDone _ _).setCopy _ _ _) hp rfl rfl rfl rfl
    ⟨State.copy_addCopy _ _ _ _, ⟨_, hp, rfl, rfl⟩, fun k _ => by simp⟩

section
variable (hdst : f.hm.dstPort = 0xFF)
include hq hf hlaned hres hbad hlast hend hout hturn hdst

omit hq hf hlaned hres hbad hlast hend hturn in
theorem resolveAct_lookup : ((s.at now).parseDone fid f).resolveAct fid f (s.parseOf f) =
    match s.lookup f (s.parseOf f) false with
    | .action a rule => ((s.at now).parseDone fid f).applyAction fid f (s.parseOf f) a rule
    | .unmatched => ((s.at now).parseDone fid f).unmatched fid f.src.tile
    | .lost => ((s.at now).parseDone fid f).noteFate fid 0 6 0 0 := by
  simp only [State.resolveAct, hdst, hout, ne_eq, not_true_eq_false, if_false, if_true, State.lookupAct, State.lookup_parseDone]
  rfl

/-- An action that forwards to a port makes the original there (R289, R290). -/
theorem lookupResolve_forwards {a : Nat} {rule : Option Nat} (ha : s.lookup f (s.parseOf f) false = .action a rule) (h4 : bit a 4 = false)
    (h5 : bit a 5 = false) (h63 : bit a 63 = false) (hfwd : octet a 0 / 64 = 1) (hport : octet a 1 / 64 = 0) (hup : s.portUp (octets a 2 2) = true)
    (hkind : (s.mode (octets a 2 2)).kind ≠ 2) :
    Does (.lookupResolve now fid) s (fun u =>
      u.copy fid 0 = some { dst := .port (octets a 2 2) (octet a 4 % 16), place := .arrived, colour := f.colour, matchId := octets a 8 2 } ∧
      (∃ g, u.frame fid = some g ∧ g.resolved = true ∧ g.looked = true ∧ g.data = f.data ∧ g.matchId = octets a 8 2 ∧ g.tsSel = a % 4 ∧
        g.prio = (if bit a 2 then octet a 4 / 16 % 8 else s.defaultPrio f (s.parseOf f))) ∧
      SameObjs [] s u ∧ u.tiles = s.tiles ∧ u.queues = s.queues ∧ u.holds = s.holds) := by
  have hg := State.frame_acted (State.frame_parseDone (s := s.at now) hf) f (s.parseOf f) a f.colour rule
  have hu := resolveAct_lookup (now := now) (fid := fid) hout hdst
  rw [ha] at hu
  dsimp only at hu
  rw [State.applyAction_port h4 h5 h63 hfwd hport, State.actOriginal_port rfl hg ((State.portUp_acted ..).trans hup)
    (by rw [State.mode_acted]; exact hkind)] at hu
  refine does_lookupResolve hq hf hlaned hres hbad hlast hend hout hturn hu ((((Keeps.refl _).parseDone _ _).acted _ _ _ _ _ _).setCopy _ _ _) hg
    rfl rfl rfl rfl ⟨State.copy_addCopy _ _ _ _, ⟨_, hg, rfl, rfl, rfl, rfl, rfl, rfl⟩, fun k _ => ?_, ?_, ?_, ?_⟩ <;> simp

include hdesc in
/-- An action that does not forward makes no original (R289). -/
theorem lookupResolve_drops {a : Nat} {rule : Option Nat} (ha : s.lookup f (s.parseOf f) false = .action a rule) (h4 : bit a 4 = false)
    (h5 : bit a 5 = false) (hfwd : octet a 0 / 64 ≠ 1) :
    Does (.lookupResolve now fid) s (fun u => u.copies = s.copies ∧ (∃ g, u.frame fid = some g ∧ g.resolved = true ∧ g.looked = true) ∧ SameObjs [] s u ∧
      u.tiles = s.tiles) := by
  have hg := State.frame_acted (State.frame_parseDone (s := s.at now) hf) f (s.parseOf f) a 0 rule
  have hu := resolveAct_lookup (now := now) (fid := fid) hout hdst
  rw [ha] at hu
  dsimp only at hu
  rw [State.applyAction_nowhere h4 h5 hfwd, State.noteFate_of_desc_none hg hdesc] at hu
  refine does_lookupResolve hq hf hlaned hres hbad hlast hend hout hturn hu (((Keeps.refl _).parseDone _ _).acted _ _ _ _ _ _) hg
    rfl rfl rfl rfl ⟨?_, ⟨_, hg, rfl, rfl⟩, fun k _ => ?_, ?_⟩ <;> simp

include hdesc in
/-- In mode 1 a frame without a match is counted and discarded (R291). -/
theorem lookupResolve_unmatched {p : Nat} (hp : f.src = .port p) (ha : s.lookup f (s.parseOf f) false = .unmatched)
    (hm : s.obj (O.UNMATCHED_MODE (tileOf p)) = 1) :
    Does (.lookupResolve now fid) s (fun u => u.obj (O.UNMATCHED_FRAMES (tileOf p)) = (s.obj (O.UNMATCHED_FRAMES (tileOf p)) + 1) % 2 ^ 64 ∧
      u.copies = s.copies ∧ SameObjs [O.UNMATCHED_FRAMES (tileOf p)] s u ∧ u.tiles = s.tiles) := by
  have hg := State.frame_parseDone (s := s.at now) hf
  have hu := resolveAct_lookup (now := now) (fid := fid) hout hdst
  rw [ha] at hu
  dsimp only at hu
  rw [hp, FrameSrc.tile, State.unmatched_discarded hg hdesc (by exact hm)] at hu
  exact does_lookupResolve hq hf hlaned hres hbad hlast hend hout hturn hu (((Keeps.refl _).parseDone _ _).bump _) hg rfl rfl rfl rfl
    ⟨State.obj_bump_self _ _, rfl, sameObjs_setObj _ _ (List.mem_singleton.mpr rfl), rfl⟩

/-- In another mode a frame without a match takes a credit of its limiter and goes to the processor (R291, R292). -/
theorem lookupResolve_toProcessor {p : Nat} (hp : f.src = .port p) (ha : s.lookup f (s.parseOf f) false = .unmatched)
    (hm : s.obj (O.UNMATCHED_MODE (tileOf p)) ≠ 1) (hc : 1000000 ≤ ((s.at now).limiterRefill (tileOf p)).limCredit (tileOf p) 1)
    (hproc : 65536 ≤ s.obj (O.PROC_UNMATCHED_DST (tileOf p))) :
    Does (.lookupResolve now fid) s (fun u => u.obj (O.UNMATCHED_FRAMES (tileOf p)) = (s.obj (O.UNMATCHED_FRAMES (tileOf p)) + 1) % 2 ^ 64 ∧
      u.copy fid 0 = some { dst := procDst (s.obj (O.PROC_UNMATCHED_DST (tileOf p))), place := .arrived, kind := 3, colour := f.colour } ∧
      u.limCredit (tileOf p) 1 = ((s.at now).limiterRefill (tileOf p)).limCredit (tileOf p) 1 - 1000000 ∧ SameObjs [O.UNMATCHED_FRAMES (tileOf p)] s u) := by
  have hcr := (limAlike_parseDone_bump (s.at now) fid (tileOf p) f).limiterRefill.limCredit (tileOf p) 1
  have hg := State.frame_parseDone (s := s.at now) hf
  have hg' := (State.frame_passUnmatched ((s.at now).parseDone fid f) (tileOf p) fid).trans hg
  obtain ⟨hopen, hspan⟩ := procDst_ne_port hproc (((s.at now).parseDone fid f).passUnmatched (tileOf p))
  have hu := resolveAct_lookup (now := now) (fid := fid) hout hdst
  rw [ha] at hu
  dsimp only at hu
  rw [hp, FrameSrc.tile, State.unmatched_passes hg (by exact hm) (hcr.symm ▸ hc), State.original_made hg' (by exact hopen) (by exact hspan)] at hu
  refine does_lookupResolve hq hf hlaned hres hbad hlast hend hout hturn hu ((((Keeps.refl _).parseDone _ _).passUnmatched _).setCopy _ _ _) hg'
    rfl rfl rfl rfl ⟨?_, State.copy_addCopy _ _ _ _, ?_, fun k hk => ?_⟩
  · rw [State.obj_addCopy, State.obj_passUnmatched, State.obj_bump_self]
    rfl
  · exact (State.limCredit_passUnmatched ((s.at now).parseDone fid f) (tileOf p)).trans (congrArg (· - 1000000) hcr)
  · rw [State.obj_addCopy, State.obj_passUnmatched, State.obj_bump_ne _ (List.ne_of_not_mem_cons hk)]
    rfl

end

end

/-- Settles O37: each event of a pipe runs through the shared lemma on positions, lanes or actions that says what it leaves. -/
theorem pipeLookup : Obligations.PipeLookup := by
  unfold Obligations.PipeLookup
  refine ⟨fun s now fid lane middle f hq hf hs hl => ⟨?_, ?_, ?_⟩, fun s now fid p f hq hf hlaned hres hbad hlast hend hdesc hout hturn => ⟨?_, ?_, ?_, ?_⟩⟩
  · exact fun hpass _ hpos hpair => frameLaneAssign_first hq hf hs hl hpass hpos hpair
  · exact fun hpass hpos => frameLaneAssign_again hq hf hs hl hpass hpos
  · exact fun hpos => frameLaneAssign_waits hq hf hs hl hpos
  · refine fun a rule _ hdst ha h4 h5 h63 => ⟨fun hfwd hport hup hkind => ?_, fun hfwd => ?_⟩
    · exact lookupResolve_forwards hq hf hlaned hres hbad hlast hend hout hturn hdst ha h4 h5 h63 hfwd hport hup hkind
    · exact lookupResolve_drops hq hf hlaned hres hbad hlast hend hdesc hout hturn hdst ha h4 h5 hfwd
  · exact fun hp hdst ha hm => lookupResolve_unmatched hq hf hlaned hres hbad hlast hend hdesc hout hturn hdst hp ha hm
  · rintro hp hdst ha hm hc ⟨k, d, hkd, -⟩
    exact lookupResolve_toProcessor hq hf hlaned hres hbad hlast hend hout hturn hdst hp ha hm hc (by omega)
  · exact fun hdst hup hkind => lookupResolve_named hq hf hlaned hres hbad hlast hend hout hturn hdst hup hkind

end Sys2Proof.Machine
end

section
/-! What a discard leaves (R40, R273, R315, R330, R339): whatever is let go with a copy or a frame, the objects below index 0x2000, those of the package, its tiles and the
fabric, read as before, and no tile becomes marked for isolation. -/

namespace Sys2Proof.Machine

/-- A report changes tiles alone (R599). -/
theorem State.raise_part {γ : Type} (p : State → γ) (hp : ∀ a t f, p (State.modTile a t f) = p a) (s : State) (t kind cls src : Nat) :
    p (s.raise t kind cls src) = p s := by
  unfold State.raise State.raiseSev State.addRoot
  dsimp only
  split
  · exact (hp _ _ _).trans (hp _ _ _)
  · exact hp _ _ _

@[simp] theorem State.obj_raise (s : State) (t kind cls src k : Nat) : (s.raise t kind cls src).obj k = s.obj k :=
  State.raise_part (fun a => a.obj k) (fun _ _ _ => rfl) s t kind cls src

/-- `u` comes from `s` by operations on frames, copies, queues and rings: no object below index 0x2000 changes, and no tile is marked. -/
structure Discards (s u : State) : Prop where
  variant : u.variant = s.variant
  unmarked : s.unmarked = true → u.unmarked = true
  low : ∀ k, k < 0x2000 * 256 → u.obj k = s.obj k

namespace Discards

variable {s u v : State}

theorem refl (s : State) : Discards s s := ⟨rfl, id, fun _ _ => rfl⟩

theorem trans (h : Discards s u) (k : Discards u v) : Discards s v :=
  ⟨k.variant.trans h.variant, fun x => k.unmarked (h.unmarked x), fun j hj => (k.low j hj).trans (h.low j hj)⟩

/-- An update of parts other than objects and tiles. -/
theorem of_eq (hv : u.variant = s.variant) (ht : u.tiles = s.tiles) (ho : u.objs = s.objs) : Discards s u :=
  ⟨hv, fun h => (State.unmarked_of_tiles ht).trans h, fun k _ => SameObjs.of_eq (ks := []) hv ho k List.not_mem_nil⟩

theorem ite {p : Prop} [Decidable p] (h : Discards s u) (k : Discards s v) : Discards s (if p then u else v) := by split <;> assumption

theorem setObj (h : Discards s u) {k : Nat} (v : Nat) (hk : 0x2000 * 256 ≤ k) : Discards s (u.setObj k v) :=
  h.trans ⟨rfl, id, fun _ hj => State.obj_setObj_ne u v (by omega)⟩

theorem bump (h : Discards s u) {k : Nat} (hk : 0x2000 * 256 ≤ k) : Discards s (u.bump k) := h.setObj _ hk

theorem modTile (h : Discards s u) (t : Nat) (f : Tile → Tile) (hf : ∀ x, (f x).isolateDue = x.isolateDue) : Discards s (u.modTile t f) :=
  h.trans ⟨rfl, State.unmarked_modTile u t f hf, fun _ _ => rfl⟩

theorem modFrame (h : Discards s u) (fid : Nat) (g : Frame → Frame) : Discards s (u.modFrame fid g) := h.trans (of_eq rfl rfl rfl)
theorem setFrame (h : Discards s u) (fid : Nat) (g : Option Frame) : Discards s (u.setFrame fid g) := h.trans (of_eq rfl rfl rfl)
theorem modCopy (h : Discards s u) (fid i : Nat) (g : Copy → Copy) : Discards s (u.modCopy fid i g) := h.trans (of_eq rfl rfl rfl)
theorem setCopy (h : Discards s u) (fid i : Nat) (g : Option Copy) : Discards s (u.setCopy fid i g) := h.trans (of_eq rfl rfl rfl)
theorem modQueue (h : Discards s u) (p q : Nat) (f : Queue → Queue) : Discards s (u.modQueue p q f) := h.trans (of_eq rfl rfl rfl)
theorem modPort (h : Discards s u) (p : Nat) (f : Port → Port) : Discards s (u.modPort p f) := h.trans (of_eq rfl rfl rfl)
theorem modQstat (h : Discards s u) (k : Nat) (f : QStat → QStat) : Discards s (u.modQstat k f) := h.trans (of_eq rfl rfl rfl)
theorem setHolds (h : Discards s u) (x : Tbl BasinHold) : Discards s { u with holds := x } := h.trans (of_eq rfl rfl rfl)
theorem setBankUsed (h : Discards s u) (x : Tbl Nat) : Discards s { u with bankUsed := x } := h.trans (of_eq rfl rfl rfl)
theorem setPolicer (h : Discards s u) (t n : Nat) (x : Policer) : Discards s (u.setPolicer t n x) := h.trans (of_eq rfl rfl rfl)
theorem raise (h : Discards s u) (t kind cls src : Nat) : Discards s (u.raise t kind cls src) :=
  h.trans ⟨((Keeps.refl u).raise t kind cls src).variant, ((Keeps.refl u).raise t kind cls src).unmarked, fun k _ => State.obj_raise u t kind cls src k⟩

theorem foldl {β : Type} (h : Discards s u) (l : List β) (f : State → β → State) (hf : ∀ a b, Discards a (f a b)) : Discards s (l.foldl f u) := by
  induction l generalizing u with
  | nil => exact h
  | cons i l ih => exact ih (h.trans (hf u i))

end Discards

/-! A copy is let go. -/

section
variable (s : State) (fid h : Nat)

theorem discards_noStart : Discards s (s.noStart fid h) := by
  unfold State.noStart
  split
  · split
    · refine Discards.ite ?_ (Discards.refl s)
      exact ((Discards.refl s).bump (by simp only [O.TSQ_NOSTART]; omega)).setObj _ (by simp only [O.TSQ_LAST_NOSTART]; omega)
    · exact Discards.refl s
  · exact Discards.refl s

theorem discards_noteFate (cause ts tag : Nat) : Discards s (s.noteFate fid h cause ts tag) := by
  unfold State.noteFate
  split
  · split
    · exact Discards.ite (Discards.refl s) (Discards.of_eq rfl rfl rfl)
    · exact Discards.refl s
  · exact Discards.refl s

theorem discards_unstage (t k n : Nat) : Discards s (s.unstage t k n) := (Discards.refl s).modTile t _ (fun _ => rfl)

theorem discards_passLinks (l : List (Nat × Nat)) : Discards s (s.passLinks fid h l) := by
  unfold State.passLinks
  split
  · exact ((Discards.refl s).foldl _ _ (fun a _ => discards_unstage a _ _ _)).modCopy _ _ _
  · exact Discards.refl s

theorem discards_passAll : Discards s (s.passAll fid h) := by
  unfold State.passAll
  split
  · exact discards_passLinks s fid h _
  · exact Discards.refl s

theorem discards_pool (t p : Nat) (f : Nat → Nat) : Discards s (s.pool t p f) := by
  refine (Discards.refl s).setObj _ ?_
  unfold poolKey
  simp only [O.MIN_USED, O.SHARED_USED, O.HEADROOM_USED]
  split
  · omega
  · split <;> omega

theorem discards_showCells (t : Nat) : Discards s (s.showCells t) :=
  ((Discards.refl s).setObj _ (by simp only [O.CELLS_FREE]; omega)).setObj _ (by simp only [O.GROUPS_EMPTY]; omega)

theorem discards_letGo : Discards s (s.letGo fid h) := by
  unfold State.letGo
  split
  · exact Discards.refl s
  · dsimp only
    refine Discards.ite (Discards.refl s) (Discards.ite ?_ ?_)
    · exact Discards.of_eq rfl rfl rfl
    · refine Discards.trans (Discards.trans (Discards.setHolds ?_ _) (discards_pool _ _ _ _)) (discards_showCells _ _)
      exact ((Discards.refl s).modQstat _ _).foldl _ _ (fun a _ => (Discards.refl a).setBankUsed _)

theorem discards_tidy : Discards s (s.tidy fid) := by
  unfold State.tidy
  split
  · exact Discards.refl s
  · exact Discards.ite ((Discards.refl s).setFrame _ _) (Discards.refl s)

theorem discards_dropCopy : Discards s (s.dropCopy fid h) :=
  (((discards_passAll s fid h).trans (discards_letGo _ fid h)).setCopy fid h none).trans (discards_tidy _ fid)

theorem discards_lose (cause : Nat) : Discards s (s.lose fid h cause) :=
  ((discards_noStart s fid h).trans (discards_noteFate _ fid h cause 0 0)).trans (discards_dropCopy _ fid h)

/-! A frame is ended (R273, R330). -/

theorem discards_launchStat (p q i : Nat) : Discards s (s.launchStat p q i) :=
  (Discards.refl s).setObj _ (by simp only [O.LAUNCH_STATS]; omega)

/-- The next head of a queue, and what is discarded before it. -/
theorem discards_headUp (p q n base : Nat) : Discards s (s.headUp p q n base) := by
  induction n generalizing s base with
  | zero => exact Discards.refl s
  | succ n ih =>
    unfold State.headUp
    split
    · exact (Discards.refl s).modQueue _ _ _
    · refine Discards.ite ?_ (Discards.ite ?_ (Discards.ite ?_ ?_))
      · refine Discards.trans ?_ (ih _ _)
        exact ((((Discards.refl s).modQueue _ _ _).trans (discards_lose _ _ _ _)).trans (discards_launchStat _ _ _ _)).raise _ _ _ _
      · refine Discards.trans ?_ (ih _ _)
        exact (((Discards.refl s).modQueue _ _ _).trans (discards_lose _ _ _ _)).bump (by simp only [O.HATCH_OVERSIZE]; omega)
      · exact (Discards.refl s).modQueue _ _ _
      · exact (Discards.refl s).modQueue _ _ _

theorem discards_unqueue (p q : Nat) : Discards s (s.unqueue p q fid h) := by
  have hm := (Discards.refl s).modQueue p q (fun x => { x with frames := x.frames.filter (· != (fid, h)) })
  unfold State.unqueue
  dsimp only
  exact Discards.ite ((hm.trans (discards_headUp _ p q _ _)).modPort _ _) hm

theorem discards_discardCopy (cause : Nat) : Discards s (s.discardCopy fid h cause) := by
  unfold State.discardCopy
  split
  · exact Discards.refl s
  · refine Discards.trans ?_ (discards_lose _ fid h cause)
    split
    · exact discards_unqueue s fid h _ _
    · exact Discards.of_eq rfl rfl rfl
    · exact Discards.of_eq rfl rfl rfl
    · exact (Discards.refl s).modPort _ _
    · exact Discards.refl s

theorem discards_peak : Discards s (s.peak fid h) := by
  unfold State.peak
  split
  · exact Discards.ite ((Discards.refl s).modQstat _ _) (Discards.refl s)
  · exact Discards.refl s

theorem discards_endCopy : Discards s (s.endCopy fid h) := by
  unfold State.endCopy
  split
  · exact Discards.refl s
  · exact Discards.ite ((Discards.refl s).modCopy _ _ _) ((discards_peak s fid h).trans (discards_discardCopy _ fid h 6))

theorem discards_countParse (t outcome : Nat) : Discards s (s.countParse t outcome) := by
  refine (Discards.refl s).bump ?_
  simp only [O.PARSE_OK, O.PARSE_DEPTH, O.PARSE_LENGTH, O.PARSE_BADHDR]
  split
  · omega
  · split
    · omega
    · split <;> omega

theorem discards_countCut : Discards s (s.countCut fid) := by
  unfold State.countCut
  split
  · refine Discards.ite (Discards.refl s) (Discards.ite ?_ (discards_countParse s _ 0))
    exact (discards_countParse s _ 2).bump (by simp only [O.LENGTH_LATE]; omega)
  · exact Discards.refl s

theorem discards_policerRefill (t : Nat) : Discards s (s.policerRefill t) := by
  unfold State.policerRefill State.refillOnce
  refine Discards.ite (Discards.refl s) (Discards.modTile ?_ _ _ (fun _ => rfl))
  exact (Discards.refl s).foldl _ _ (fun a _ => (Discards.refl a).setPolicer _ _ _)

theorem discards_chargeLen (len : Frame → Nat) : Discards s (s.chargeLen fid len) := by
  unfold State.chargeLen
  split
  · split
    · dsimp only
      refine Discards.ite (Discards.setPolicer ?_ _ _ _) ?_ <;> exact (discards_policerRefill s _).modFrame _ _
    · exact Discards.refl s
  · exact Discards.refl s

theorem discards_chargeSoFar : Discards s (s.chargeSoFar fid) := by
  unfold State.chargeSoFar
  split
  · refine Discards.ite (discards_chargeLen s fid _) (Discards.trans ?_ (discards_chargeLen _ fid _))
    exact Discards.of_eq rfl rfl rfl
  · exact Discards.refl s

theorem discards_land : Discards s (s.land fid) := by
  unfold State.land
  split
  · exact Discards.refl s
  · exact Discards.ite (Discards.refl s) (Discards.of_eq rfl rfl rfl)

theorem discards_endFrame : Discards s (s.endFrame fid) := by
  have hc := (discards_countCut s fid).trans (discards_chargeSoFar _ fid)
  have he := hc.foldl (s.copiesOf fid) (fun a h => a.endCopy fid h) (fun a h => discards_endCopy a fid h)
  exact ((he.modFrame fid _).trans (discards_land _ fid)).trans (discards_tidy _ fid)

end

/-! The end of a command after a discard. -/

/-- A completion record changes what left Clemal and the completion queues alone (R502). -/
theorem State.writeRecord_part {γ : Type} (p : State → γ) (hc : ∀ a t n f, p (State.modCq a t n f) = p a) (he : ∀ a o, p (State.emit a o) = p a)
    (s : State) (t n status : Nat) (d : Bytes) : p (s.writeRecord t n status d) = p s := by
  unfold State.writeRecord State.cqMessage
  dsimp only
  split
  · rfl
  · split
    · rw [hc, he, he]
    · split
      · rw [he, hc, hc, he, he]
      · rw [hc, hc, he, he]

theorem State.writeFates_part {γ : Type} (p : State → γ) (hc : ∀ a t n f, p (State.modCq a t n f) = p a) (he : ∀ a o, p (State.emit a o) = p a)
    (hf : ∀ a, p { a with fates := [] } = p a) (s : State) : p s.writeFates = p s := by
  unfold State.writeFates
  exact (foldl_keeps p _ (fun a x => State.writeRecord_part p hc he a _ _ _ _) _ _).trans (hf s)

/-- Where no tile is marked, the end of a command writes the records of fates alone. -/
theorem State.settle_of_unmarked {s : State} (h : s.unmarked = true) : s.settle = s.writeFates := by
  have ht : s.writeFates.tiles = s.tiles := State.writeFates_part (fun a => a.tiles) (fun _ _ _ _ => rfl) (fun _ _ => rfl) (fun _ => rfl) s
  unfold State.settle
  rw [State.each_id s _ _ (fun t _ => State.isolateMarked_of_not s t (State.unmarked_tile h t)), State.unmark_of _ ((State.unmarked_of_tiles ht).trans h)]

theorem State.framed_copy {s : State} {f : State → State} (h : (f s).unmarked = true) (fid i : Nat) : (s.framed f).copy fid i = (f s).copy fid i := by
  unfold State.framed
  rw [State.settle_of_unmarked h]
  exact State.writeFates_part (fun a => a.copy fid i) (fun _ _ _ _ => rfl) (fun _ _ => rfl) (fun _ => rfl) (f s)

theorem State.framed_obj {s : State} {f : State → State} (h : (f s).unmarked = true) (hv : (f s).variant = s.variant) (k : Nat) :
    (s.framed f).obj k = (f s).obj k := by
  have ho : (s.framed f).objs = (f s).objs := by
    unfold State.framed
    rw [State.settle_of_unmarked h]
    exact State.writeFates_part (fun a => a.objs) (fun _ _ _ _ => rfl) (fun _ _ => rfl) (fun _ => rfl) (f s)
  unfold State.obj
  rw [ho, State.framed_variant, hv]

end Sys2Proof.Machine
end

section
/-! A frame between tiles (R36 to R44, R587): the col link it takes, and where it is dropped or fails. -/

namespace Sys2Proof.Machine

theorem tile_lt_eight {v : Variant} {t : Nat} (h : t < v.tiles) : t < 8 := by
  cases v <;> simp only [Variant.tiles] at h <;> omega

theorem State.both_eq_some {s : State} {fid h : Nat} {c : Copy} {f : Frame} : s.both fid h = some (c, f) ↔ s.copy fid h = some c ∧ s.frame fid = some f := by
  unfold State.both
  split <;> simp_all

/-- A change of copies alone. -/
def State.withCopies (s : State) (x : Tbl (Option Copy)) : State := { s with copies := x }

theorem Keeps.withCopies {s u : State} (h : Keeps s u) (x : Tbl (Option Copy)) : Keeps s (u.withCopies x) := h.trans (of_eq rfl rfl rfl rfl rfl rfl)

theorem State.copy_evc (s : State) (t so id n fid h : Nat) : (s.evc t so id n).copy fid h = s.copy fid h :=
  State.evc_part (fun a => a.copy fid h) (fun _ _ _ => rfl) s t so id n

/-! A copy is dropped. -/

theorem State.tidy_copies (s : State) (fid : Nat) : (s.tidy fid).copies = s.copies := by
  unfold State.tidy
  split
  · rfl
  · split <;> rfl

theorem State.copy_lose (s : State) (fid h cause : Nat) : (s.lose fid h cause).copy fid h = none := by
  simp only [State.lose, State.dropCopy, State.copy, State.tidy_copies, State.setCopy, tget_tput_self]

theorem State.copy_fabricDrop (s : State) (fid h key : Nat) : (s.fabricDrop fid h key).copy fid h = none := State.copy_lose _ fid h 6

theorem State.obj_fabricDrop (s : State) (fid h : Nat) {key : Nat} (hk : key < 0x2000 * 256) :
    (s.fabricDrop fid h key).obj key = (s.obj key + 1) % 2 ^ 64 :=
  ((discards_lose _ fid h 6).low key hk).trans (State.obj_bump_self s key)

theorem State.fabricDrop_variant (s : State) (fid h key : Nat) : (s.fabricDrop fid h key).variant = s.variant := (discards_lose (s.bump key) fid h 6).variant

theorem State.fabricDrop_unmarked {s : State} (hm : s.unmarked = true) (fid h key : Nat) : (s.fabricDrop fid h key).unmarked = true :=
  (discards_lose (s.bump key) fid h 6).unmarked hm

/-! A copy goes on. -/

section
variable {s : State} {t fid h k : Nat} {c : Copy} {f : Frame}

theorem State.forward_unreached (hr : s.routeTo t c.dst.tile = 0) : s.forward t fid h c f = s.fabricDrop fid h (O.UNREACH_DROP t) := by
  simp only [State.forward, hr, true_or, if_true]

theorem State.forward_tooFar (hr : s.routeTo t c.dst.tile = k + 1) (hup : s.colUp t k = true) (hp : 3 ≤ c.path.length) :
    s.forward t fid h c f = s.fabricDrop fid h (O.HOP_DROP t) := by
  simp [State.forward, hr, hup, hp]

theorem State.forward_full (hr : s.routeTo t c.dst.tile = k + 1) (hup : s.colUp t k = true) (hp : c.path.length < 3)
    (hfull : 262144 < s.stagedAtStart t k + 16384) :
    s.forward t fid h c f = (s.fabricDrop fid h (stageDropKey t k)).evc t 6 k 1 := by
  simp [State.forward, hr, hup, Nat.not_le.mpr hp, hfull]

theorem State.forward_fits (hr : s.routeTo t c.dst.tile = k + 1) (hup : s.colUp t k = true) (hp : c.path.length < 3)
    (hfits : s.stagedAtStart t k + 16384 ≤ 262144) : s.forward t fid h c f = s.stageOn t k fid h (c.bytes f).length := by
  simp [State.forward, hr, hup, Nat.not_le.mpr hp, Nat.not_lt.mpr hfits]

theorem Keeps.stageOn {s u : State} (hk : Keeps s u) (t k fid h n : Nat) : Keeps s (u.stageOn t k fid h n) :=
  (hk.modCopy _ _ _).modTile t _ (fun _ => rfl)

theorem State.copy_stageOn {s : State} {fid h : Nat} {c : Copy} (hc : s.copy fid h = some c) (t k n : Nat) : (s.stageOn t k fid h n).copy fid h =
    some { c with place := .link t k, path := c.path ++ [(t, k)], staged := c.staged ++ [(t, k)] } := by
  refine (State.copy_modCopy s fid h fid h _).trans ?_
  rw [if_pos rfl, hc]
  rfl

theorem State.stagedBytes_stageOn (s : State) (t k fid h n : Nat) : (s.stageOn t k fid h n).stagedBytes t k = s.stagedBytes t k + n := by
  simp [State.stagedBytes, State.stageOn]

/-- The state in which a copy that reaches a tile is routed on: where the last byte of its frame has left the links behind, those links hold nothing of it (R42). -/
def State.arriving (s : State) (fid h : Nat) (whole : Bool) (f : Frame) : State :=
  if whole || Nat.ble f.segments 1 then s.passAll fid h else s

theorem State.linkFrameIn_forward (hb : s.both fid h = some (c, f)) (ht : inTransit c f t = true) (hturn : s.copyInTurn c f = true) (whole : Bool) :
    s.linkFrameIn t fid h whole false = (s.arriving fid h whole f).forward t fid h c f := by
  unfold State.linkFrameIn
  rw [hb]
  simp only [ht, hturn, Bool.not_true, Bool.false_eq_true, or_self, if_false]
  split <;> rfl

theorem State.linkFrameIn_fails (hb : s.both fid h = some (c, f)) (ht : inTransit c f t = true) (hturn : s.copyInTurn c f = true) (whole : Bool)
    {x : Nat} (hplace : c.place = .link x k) : s.linkFrameIn t fid h whole true = (s.arriving fid h whole f).cellFails fid t 7 k := by
  unfold State.linkFrameIn
  rw [hb]
  simp only [ht, hturn, hplace, Bool.not_true, Bool.false_eq_true, or_self, if_false, if_true]
  rfl

theorem discards_arriving (s : State) (fid h : Nat) (whole : Bool) (f : Frame) : Discards s (s.arriving fid h whole f) := by
  unfold State.arriving
  exact Discards.ite (discards_passAll s fid h) (Discards.refl s)

/-- A frame of which the links behind hold nothing, or whose end has not left them, changes nothing but copies as it arrives, and its own copy not. -/
theorem State.arriving_unstaged (hb : s.both fid h = some (c, f)) {whole : Bool} (hw : (whole = false ∧ 1 < f.segments) ∨ c.staged = []) :
    ∃ x, s.arriving fid h whole f = s.withCopies x ∧ tget none x (copyKey fid h) = some c := by
  obtain ⟨hc, hf⟩ := State.both_eq_some.mp hb
  unfold State.arriving
  split
  · rename_i hpass
    have hs : c.staged = [] := hw.resolve_left (fun ⟨h1, h2⟩ => by simp [h1, Nat.ble_eq] at hpass; omega)
    refine ⟨tmod none s.copies (copyKey fid h) (Option.map (fun x => { x with staged := x.staged.filter (fun e => !(([] : List (Nat × Nat)).contains e)) })), ?_, ?_⟩
    · simp only [State.passAll, State.passLinks, hc, hf, hs]
      rfl
    · have hc' : tget none s.copies (copyKey fid h) = some c := hc
      rw [tget_tmod_self, hc', Option.map_some, hs]
      exact congrArg some (by cases c; simp_all)
  · exact ⟨s.copies, rfl, hc⟩

theorem State.routeTo_arriving (ht : t < 8) (whole : Bool) (d : Nat) : (s.arriving fid h whole f).routeTo t d = s.routeTo t d := by
  simp only [State.routeTo, (discards_arriving s fid h whole f).low (O.ROUTE t) (by simp only [O.ROUTE]; omega)]

theorem State.colUp_arriving (ht : t < 8) (whole : Bool) (k : Nat) : (s.arriving fid h whole f).colUp t k = s.colUp t k := by
  have hk : colKey t k < 0x2000 * 256 := by
    unfold colKey
    simp only [O.COL_C0_STATE, O.COL_C1_STATE, O.COL_C2_STATE]
    split
    · omega
    · split <;> omega
  simp only [State.colUp, State.col, (discards_arriving s fid h whole f).low _ hk]

/-! A cell that fails its CRC (R587, R589). -/

/-- Where the threshold is 0 an integrity fault is counted, and marks no tile (R589). -/
theorem State.integrityFault_unlimited {s : State} {t : Nat} (h0 : s.obj (O.ISOLATE_THRESHOLD t) = 0) :
    s.integrityFault t = ((s.bump (O.INTEGRITY_FAULTS t)).tileLife t 2).modTile t (fun x => { x with
      faults := s.now :: (s.tile t).faults.filter (fun i => s.now ≤ i + s.obj (O.ISOLATE_WINDOW t) * msU) }) := by
  simp only [State.integrityFault, h0, ne_eq, not_true_eq_false, false_and, if_false]

/-- The failure is counted at the tile; with a threshold of 0 it marks no tile. -/
theorem State.cellCrcFail_counts (s : State) {t : Nat} (cls src : Nat) (h0 : s.obj (O.ISOLATE_THRESHOLD t) = 0) :
    (s.cellCrcFail t cls src).obj (O.CELL_CRC_FAIL t) = (s.obj (O.CELL_CRC_FAIL t) + 1) % 2 ^ 64 ∧ Keeps s (s.cellCrcFail t cls src) := by
  have hthr : ((((s.bump (O.CELL_CRC_FAIL t)).life 10 1).raise t 0x12 cls src)).obj (O.ISOLATE_THRESHOLD t) = 0 := by
    rw [State.obj_raise, State.life_read_obj, State.obj_bump_ne _ (by simp only [O.ISOLATE_THRESHOLD, O.CELL_CRC_FAIL]; omega), h0]
  have hne : O.CELL_CRC_FAIL t ≠ O.INTEGRITY_FAULTS t := by simp only [O.CELL_CRC_FAIL, O.INTEGRITY_FAULTS]; omega
  unfold State.cellCrcFail
  rw [State.integrityFault_unlimited hthr]
  refine ⟨?_, (((((Keeps.refl s).bump _).life _ _).raise _ _ _ _).bump _ |>.tileLife _ _).modTile _ _ (fun _ => rfl)⟩
  rw [State.modTile_read_obj, State.tileLife, State.life_read_obj, State.obj_bump_ne _ hne, State.obj_raise, State.life_read_obj, State.obj_bump_self]

end

/-! COL_LINK_FRAME_IN. -/

section
variable {s : State} {now t fid h : Nat} {c : Copy} {f : Frame} (hq : s.quiet) (ht : t < s.variant.tiles) (hb : s.both fid h = some (c, f))
  (htr : inTransit c f t = true) (hturn : s.copyInTurn c f = true)
include ht

/-- The command completes in what its frame makes of its effect, for an effect that marks no tile. -/
theorem does_linkFrameIn {u : State} {whole bad : Bool} {P : State → Prop} (hu : (s.at now).linkFrameIn t fid h whole bad = u) (hm : u.unmarked = true)
    (hv : u.variant = s.variant)
    (hP : ∀ v : State, (∀ i j, v.copy i j = u.copy i j) → (∀ k, v.obj k = u.obj k) → P v) : Does (.colLinkFrameIn now t fid h whole bad) s P := by
  subst hu
  have he : exec (.colLinkFrameIn now t fid h whole bad) s = act now (fun a => a.linkFrameIn t fid h whole bad) s := onTile_fits ht now _
  refine does_of_framed he (hP _ (fun i j => ?_) (fun k => ?_))
  · exact State.framed_copy (f := fun a => a.linkFrameIn t fid h whole bad) hm i j
  · exact State.framed_obj (f := fun a => a.linkFrameIn t fid h whole bad) hm hv k

include hq in
/-- A copy dropped in the fabric is gone, and the drop is counted. -/
theorem does_fabricDrop {whole : Bool} {key : Nat} (hk : key < 0x2000 * 256)
    (hu : (s.at now).linkFrameIn t fid h whole false = ((s.at now).arriving fid h whole f).fabricDrop fid h key) :
    Does (.colLinkFrameIn now t fid h whole false) s (fun u => u.copy fid h = none ∧ u.obj key = (s.obj key + 1) % 2 ^ 64) := by
  have hd := discards_arriving (s.at now) fid h whole f
  refine does_linkFrameIn ht hu (State.fabricDrop_unmarked (hd.unmarked hq.1) _ _ _) ((State.fabricDrop_variant _ _ _ _).trans hd.variant) (fun v hc ho => ⟨?_, ?_⟩)
  · rw [hc, State.copy_fabricDrop]
  · rw [ho, State.obj_fabricDrop _ _ _ hk, hd.low key hk]
    rfl

include hq hb htr hturn

/-- A frame whose tile has no route to its destination is dropped (R38, R39). -/
theorem linkFrameIn_unreached (whole : Bool) (hr : s.routeTo t c.dst.tile = 0) :
    Does (.colLinkFrameIn now t fid h whole false) s (fun u => u.copy fid h = none ∧ u.obj (O.UNREACH_DROP t) = (s.obj (O.UNREACH_DROP t) + 1) % 2 ^ 64) := by
  have ht8 := tile_lt_eight ht
  refine does_fabricDrop (f := f) hq ht (by simp only [O.UNREACH_DROP]; omega) ?_
  rw [State.linkFrameIn_forward (s := s.at now) hb htr hturn]
  exact State.forward_unreached ((State.routeTo_arriving ht8 whole _).trans hr)

/-- A frame that has crossed three col links is dropped (R39). -/
theorem linkFrameIn_tooFar {k : Nat} (whole : Bool) (hr : s.routeTo t c.dst.tile = k + 1) (hup : s.colUp t k = true) (hp : 3 ≤ c.path.length) :
    Does (.colLinkFrameIn now t fid h whole false) s (fun u => u.copy fid h = none ∧ u.obj (O.HOP_DROP t) = (s.obj (O.HOP_DROP t) + 1) % 2 ^ 64) := by
  have ht8 := tile_lt_eight ht
  refine does_fabricDrop (f := f) hq ht (by simp only [O.HOP_DROP]; omega) ?_
  rw [State.linkFrameIn_forward (s := s.at now) hb htr hturn]
  exact State.forward_tooFar ((State.routeTo_arriving ht8 whole _).trans hr) ((State.colUp_arriving ht8 whole k).trans hup) hp

section
variable {k : Nat} {whole : Bool} (hw : (whole = false ∧ 1 < f.segments) ∨ c.staged = []) (hr : s.routeTo t c.dst.tile = k + 1)
  (hup : s.colUp t k = true) (hp : c.path.length < 3)
include hw hr hup hp

/-- A frame for which the staging buffer has no room is dropped (R42). -/
theorem linkFrameIn_full (hfull : 262144 < (s.at now).stagedAtStart t k + 16384) :
    Does (.colLinkFrameIn now t fid h whole false) s (fun u => u.copy fid h = none ∧ u.obj (stageDropKey t k) = (s.obj (stageDropKey t k) + 1) % 2 ^ 64) := by
  have ht8 := tile_lt_eight ht
  have hk : stageDropKey t k < 0x2000 * 256 := by
    unfold stageDropKey
    simp only [O.STAGE_DROP_C0, O.STAGE_DROP_C1, O.STAGE_DROP_C2]
    split
    · omega
    · split <;> omega
  obtain ⟨x, he, -⟩ := State.arriving_unstaged (s := s.at now) hb hw
  have hu : (s.at now).linkFrameIn t fid h whole false = (((s.at now).withCopies x).fabricDrop fid h (stageDropKey t k)).evc t 6 k 1 := by
    rw [State.linkFrameIn_forward (s := s.at now) hb htr hturn, he]
    exact State.forward_full (s := (s.at now).withCopies x) hr hup hp hfull
  refine does_linkFrameIn ht hu ?_ ?_ (fun v hc ho => ⟨?_, ?_⟩)
  · exact ((Keeps.refl _).evc t 6 k 1).unmarked (State.fabricDrop_unmarked (s := (s.at now).withCopies x) hq.1 _ _ _)
  · exact ((Keeps.refl _).evc t 6 k 1).variant.trans (State.fabricDrop_variant _ _ _ _)
  · rw [hc]
    exact (State.copy_evc _ _ _ _ _ _ _).trans (State.copy_fabricDrop _ _ _ _)
  · rw [ho, State.obj_evc _ _ _ _ _ (Nat.lt_of_lt_of_le hk (by omega)), State.obj_fabricDrop _ _ _ hk]
    rfl

/-- A frame with a route, hops left and room in the staging buffer takes its col link (R36, R41, R42). -/
theorem linkFrameIn_goesOn (hfits : (s.at now).stagedAtStart t k + 16384 ≤ 262144) :
    Does (.colLinkFrameIn now t fid h whole false) s (fun u =>
      u.copy fid h = some { c with place := .link t k, path := c.path ++ [(t, k)], staged := c.staged ++ [(t, k)] } ∧
      u.stagedBytes t k = s.stagedBytes t k + (c.bytes f).length ∧ u.frame fid = some f ∧ SameObjs [] s u ∧ u.queues = s.queues) := by
  obtain ⟨x, he, hx⟩ := State.arriving_unstaged (s := s.at now) hb hw
  have hu : (s.at now).linkFrameIn t fid h whole false = ((s.at now).withCopies x).stageOn t k fid h (c.bytes f).length := by
    rw [State.linkFrameIn_forward (s := s.at now) hb htr hturn, he]
    exact State.forward_fits (s := (s.at now).withCopies x) hr hup hp hfits
  have hex : exec (.colLinkFrameIn now t fid h whole false) s = act now (fun a => a.linkFrameIn t fid h whole false) s := onTile_fits ht now _
  have hk : Keeps (s.at now) (((s.at now).withCopies x).stageOn t k fid h (c.bytes f).length) :=
    ((Keeps.refl _).withCopies x).stageOn t k fid h _
  refine does_of_keeps hex hq (hu ▸ hk) ?_
  rw [hu]
  refine ⟨?_, ?_, (State.both_eq_some.mp hb).2, fun _ _ => rfl, rfl⟩
  · exact State.copy_stageOn (s := (s.at now).withCopies x) hx t k _
  · exact State.stagedBytes_stageOn _ t k fid h _

end

/-- A cell that fails its CRC is counted by the tile that it enters (R587). -/
theorem linkFrameIn_cellFails (whole : Bool) {x k : Nat} (hplace : c.place = .link x k) (h0 : s.obj (O.ISOLATE_THRESHOLD t) = 0) :
    Does (.colLinkFrameIn now t fid h whole true) s (fun u => u.obj (O.CELL_CRC_FAIL t) = (s.obj (O.CELL_CRC_FAIL t) + 1) % 2 ^ 64) := by
  have ht8 := tile_lt_eight ht
  have hd := discards_arriving (s.at now) fid h whole f
  obtain ⟨hcount, hkeep⟩ := State.cellCrcFail_counts ((s.at now).arriving fid h whole f) (t := t) 7 k
    ((hd.low _ (by simp only [O.ISOLATE_THRESHOLD]; omega)).trans h0)
  have he := discards_endFrame (((s.at now).arriving fid h whole f).cellCrcFail t 7 k) fid
  have hlow : O.CELL_CRC_FAIL t < 0x2000 * 256 := by simp only [O.CELL_CRC_FAIL]; omega
  refine does_linkFrameIn ht (State.linkFrameIn_fails (s := s.at now) hb htr hturn whole hplace) (he.unmarked (hkeep.unmarked (hd.unmarked hq.1)))
    (he.variant.trans (hkeep.variant.trans hd.variant)) (fun v _ ho => ?_)
  rw [ho]
  exact (he.low _ hlow).trans (hcount.trans (by rw [hd.low _ hlow]; rfl))

end

end Sys2Proof.Machine
end

section
/-! Col links and routes (R38, R40, R641): what a change of a link's state leaves, and the reports of its tiles. -/

namespace Sys2Proof.Machine

theorem neighbour_ne (t k : Nat) : neighbour t k ≠ t := by
  have hk : 0 < 2 ^ k := Nat.two_pow_pos k
  unfold neighbour
  split
  · rename_i hbit
    have h0 : t ≠ 0 := by
      rintro rfl
      simp [bit] at hbit
    omega
  · omega

/-- A tile's neighbours lie among sixteen numbers. -/
theorem neighbour_lt {t k : Nat} (ht : t < 8) (hk : k < 3) : neighbour t k < 16 := by
  have h2 : 2 ^ k ≤ 2 ^ 2 := Nat.pow_le_pow_right (by omega) (by omega)
  unfold neighbour
  generalize 2 ^ k = n at h2
  split <;> omega

/-- The states of the col links of two tiles are different objects. -/
theorem colKey_ne {t x : Nat} (k : Nat) (h : x ≠ t) : colKey x k ≠ colKey t k := by
  unfold colKey
  simp only [O.COL_C0_STATE, O.COL_C1_STATE, O.COL_C2_STATE]
  split
  · omega
  · split <;> omega

/-! What passes through Clemal is no object and no tile. -/

theorem State.traffic_setObj (s : State) (k v : Nat) : (s.setObj k v).traffic = s.traffic := rfl

theorem State.traffic_modTile (s : State) (t : Nat) (f : Tile → Tile) : (s.modTile t f).traffic = s.traffic := rfl

theorem State.traffic_at (s : State) (now : Nat) : (s.at now).traffic = s.traffic := rfl

/-! Changes of state. -/

section
variable (s : State) (t k st : Nat)

/-- A change of a link's state at one of its ends. -/
def State.setEnd (s : State) (x k st : Nat) : State := (s.setObj (colKey x k) st).modTile x (fun y => { y with linkAt := tput 0 y.linkAt k s.now })

theorem State.setCol_eq : s.setCol t k st = (s.setEnd t k st).setEnd (neighbour t k) k st := rfl

theorem State.obj_setCol (j : Nat) : (s.setCol t k st).obj j = if j = colKey (neighbour t k) k then st else if j = colKey t k then st else s.obj j := by
  rw [State.setCol_eq, State.setEnd, State.modTile_read_obj, State.obj_setObj, State.setEnd, State.modTile_read_obj, State.obj_setObj]

theorem State.col_setCol_self : (s.setCol t k st).col t k = st := by
  rw [State.col, State.obj_setCol, if_neg (colKey_ne k (neighbour_ne t k)).symm, if_pos rfl]

theorem State.col_setCol_neighbour : (s.setCol t k st).col (neighbour t k) k = st := by
  rw [State.col, State.obj_setCol, if_pos rfl]

theorem setCol_sameObjs : SameObjs [colKey t k, colKey (neighbour t k) k] s (s.setCol t k st) := by
  intro j hj
  simp only [List.mem_cons, List.not_mem_nil, or_false, not_or] at hj
  rw [State.obj_setCol, if_neg hj.2, if_neg hj.1]

theorem State.traffic_setCol : (s.setCol t k st).traffic = s.traffic := by
  rw [State.setCol_eq, State.setEnd, State.traffic_modTile, State.traffic_setObj, State.setEnd, State.traffic_modTile, State.traffic_setObj]

theorem State.traffic_bump32 (j : Nat) : (s.bump32 j).traffic = s.traffic := State.traffic_setObj s j _

end

/-! Reports. -/

theorem State.traffic_raise (s : State) (t kind cls src : Nat) : (s.raise t kind cls src).traffic = s.traffic :=
  State.raise_part (fun a => a.traffic) State.traffic_modTile s t kind cls src

/-- A report stands last in its tile's aggregator, with its KIND and source (R599). -/
theorem State.reports_raise (s : State) (t kind cls src : Nat) :
    ∃ r : Report, ((s.raise t kind cls src).tile t).reports = (s.tile t).reports ++ [r] ∧ r.kind = kind ∧ r.cls = cls ∧ r.src = src := by
  unfold State.raise State.raiseSev State.addRoot
  dsimp only
  split
  · rw [State.tile_modTile_self, State.tile_modTile_self]
    exact ⟨_, rfl, rfl, rfl, rfl⟩
  · rw [State.tile_modTile_self]
    exact ⟨_, rfl, rfl, rfl, rfl⟩

theorem State.tile_raise_ne (s : State) {t x : Nat} (kind cls src : Nat) (h : x ≠ t) : (s.raise t kind cls src).tile x = s.tile x := by
  unfold State.raise State.raiseSev State.addRoot
  dsimp only
  split
  · rw [State.tile_modTile, if_neg h, State.tile_modTile, if_neg h]
  · rw [State.tile_modTile, if_neg h]

section
variable (s : State) (t k : Nat)

theorem State.obj_linkReport (j : Nat) : (s.linkReport t k).obj j = s.obj j := by simp only [State.linkReport, State.obj_raise]

theorem State.col_linkReport (x j : Nat) : (s.linkReport t k).col x j = s.col x j := State.obj_linkReport s t k _

theorem State.traffic_linkReport : (s.linkReport t k).traffic = s.traffic := by simp only [State.linkReport, State.traffic_raise]

theorem Keeps.linkReport {s u : State} (h : Keeps s u) (t k : Nat) : Keeps s (u.linkReport t k) := (h.raise _ _ _ _).raise _ _ _ _

theorem State.linkReport_tile : ∃ r ∈ ((s.linkReport t k).tile t).reports, r.kind = 0x33 ∧ r.cls = 7 ∧ r.src = k := by
  obtain ⟨r, hr, hkind⟩ := State.reports_raise s t 0x33 7 k
  refine ⟨r, ?_, hkind⟩
  rw [State.linkReport, State.tile_raise_ne _ _ _ _ (neighbour_ne t k).symm, hr]
  exact List.mem_append_right _ List.mem_cons_self

theorem State.linkReport_neighbour : ∃ r ∈ ((s.linkReport t k).tile (neighbour t k)).reports, r.kind = 0x33 ∧ r.cls = 7 ∧ r.src = k := by
  obtain ⟨r, hr, hkind⟩ := State.reports_raise (s.raise t 0x33 7 k) (neighbour t k) 0x33 7 k
  refine ⟨r, ?_, hkind⟩
  rw [State.linkReport, hr]
  exact List.mem_append_right _ List.mem_cons_self

/-- A link that carries nothing loses nothing as it leaves service (R40). -/
theorem State.linkOut_empty (st : Nat) (ht : s.onLink t k = []) (hn : s.onLink (neighbour t k) k = []) : s.linkOut t k st = s.setCol t k st := by
  have ht' : (s.setCol t k st).onLink t k = [] := ht
  have hn' : (s.setCol t k st).onLink (neighbour t k) k = [] := hn
  simp only [State.linkOut, State.flushLink, State.each, List.foldl_cons, List.foldl_nil, ht', hn']

end

/-! The commands of a link (R641). -/

section
variable {s : State} {now t k : Nat} (hq : s.quiet) (ht : t < s.variant.tiles) (hk : k < s.variant.colLinks)
include hq ht hk

theorem does_onLink {c : Instr} {f : State → State} {u : State} {P : State → Prop} (he : exec c s = onLink t k now f s) (hu : f (s.at now) = u)
    (hkeep : Keeps (s.at now) u) (hP : P u) : Does c s P := by
  subst hu
  exact does_of_keeps (he.trans (onLink_fits ht hk now f)) hq hkeep hP

/-- A link in service fails: both ends go DOWN, and both tiles report it (R40, R599, R641). -/
theorem colLinkDown_fails (hup : s.col t k = 3) (hst : s.onLink t k = []) (hsn : s.onLink (neighbour t k) k = []) :
    Does (.colLinkDown now t k) s (fun u => u.col t k = 1 ∧ u.col (neighbour t k) k = 1 ∧ (∃ r ∈ (u.tile t).reports, r.kind = 0x33 ∧ r.cls = 7 ∧ r.src = k) ∧
      (∃ r ∈ (u.tile (neighbour t k)).reports, r.kind = 0x33 ∧ r.cls = 7 ∧ r.src = k) ∧ SameObjs [colKey t k, colKey (neighbour t k) k] s u ∧
      u.traffic = s.traffic) := by
  have hu : (s.at now).linkDownCol t k = ((s.at now).setCol t k 1).linkReport t k := by
    have hup' : (s.at now).colUp t k = true := beq_iff_eq.mpr hup
    rw [State.linkDownCol, if_pos hup', State.linkOut_empty (s.at now) t k 1 hst hsn]
  refine does_onLink hq ht hk rfl hu (((Keeps.refl _).setCol t k 1).linkReport t k)
    ⟨?_, ?_, State.linkReport_tile _ t k, State.linkReport_neighbour _ t k, fun j hj => ?_, ?_⟩
  · rw [State.col_linkReport, State.col_setCol_self]
  · rw [State.col_linkReport, State.col_setCol_neighbour]
  · exact (State.obj_linkReport _ t k j).trans (setCol_sameObjs (s.at now) t k 1 j hj)
  · rw [State.traffic_linkReport, State.traffic_setCol, State.traffic_at]

/-- A change of a link's state is all that a command does to it. -/
theorem does_setCol {c : Instr} {f : State → State} {st : Nat} (he : exec c s = onLink t k now f s) (hu : f (s.at now) = (s.at now).setCol t k st) :
    Does c s (fun u => u.col t k = st ∧ u.col (neighbour t k) k = st ∧ SameObjs [colKey t k, colKey (neighbour t k) k] s u ∧ u.traffic = s.traffic) :=
  does_onLink hq ht hk he hu ((Keeps.refl _).setCol t k st)
    ⟨State.col_setCol_self _ t k st, State.col_setCol_neighbour _ t k st, setCol_sameObjs (s.at now) t k st, State.traffic_setCol _ t k st⟩

/-- Training that takes longer than 2 ms fails, and counts at both tiles. -/
theorem colTrainTimeout_fails (hk3 : k < 3) (hcol : s.col t k = 2) (hlate : tget 0 (s.tile t).linkAt k + 2 * msU ≤ max s.now now) :
    Does (.colTrainTimeout now t k) s (fun u => u.col t k = 1 ∧ u.col (neighbour t k) k = 1 ∧
      u.obj (O.COL_TRAIN_FAILS t) = (s.obj (O.COL_TRAIN_FAILS t) + 1) % 2 ^ 32 ∧
      u.obj (O.COL_TRAIN_FAILS (neighbour t k)) = (s.obj (O.COL_TRAIN_FAILS (neighbour t k)) + 1) % 2 ^ 32 ∧
      (∃ r ∈ (u.tile t).reports, r.kind = 0x33 ∧ r.cls = 7 ∧ r.src = k) ∧ u.traffic = s.traffic) := by
  have ht8 := tile_lt_eight ht
  have hn := neighbour_lt (k := k) ht8 hk3
  have hne := neighbour_ne t k
  have hpassed : (s.at now).linkFor t k (2 * msU) = true := decide_eq_true hlate
  have hu : (s.at now).linkTrainTimeout t k =
      ((((s.at now).setCol t k 1).bump32 (O.COL_TRAIN_FAILS t)).bump32 (O.COL_TRAIN_FAILS (neighbour t k))).linkReport t k := by
    rw [State.linkTrainTimeout, if_pos ⟨hcol, hpassed⟩]
  have hkey : ∀ x j, x < 16 → j < 16 → colKey x k ≠ O.COL_TRAIN_FAILS j := fun x j hx hj => by
    unfold colKey
    simp only [O.COL_C0_STATE, O.COL_C1_STATE, O.COL_C2_STATE, O.COL_TRAIN_FAILS]
    split
    · omega
    · split <;> omega
  have hfails : O.COL_TRAIN_FAILS t ≠ O.COL_TRAIN_FAILS (neighbour t k) := by simp only [O.COL_TRAIN_FAILS]; omega
  have hold : ∀ j, j < 16 → ((s.at now).setCol t k 1).obj (O.COL_TRAIN_FAILS j) = s.obj (O.COL_TRAIN_FAILS j) := fun j hj => by
    rw [State.obj_setCol, if_neg (hkey _ j hn hj).symm, if_neg (hkey t j (by omega) hj).symm, State.at_obj]
  have hcolKept : ∀ x, x < 16 → ((((s.at now).setCol t k 1).bump32 (O.COL_TRAIN_FAILS t)).bump32 (O.COL_TRAIN_FAILS (neighbour t k))).col x k =
      ((s.at now).setCol t k 1).col x k := fun x hx => by
    rw [State.col, State.bump32, State.obj_setObj_ne _ _ (hkey x _ hx hn), State.bump32, State.obj_setObj_ne _ _ (hkey x t hx (by omega)), State.col]
  refine does_onLink hq ht hk rfl hu (((((Keeps.refl _).setCol t k 1).bump32 _).bump32 _).linkReport t k)
    ⟨?_, ?_, ?_, ?_, State.linkReport_tile _ t k, ?_⟩
  · rw [State.col_linkReport, hcolKept t (by omega), State.col_setCol_self]
  · rw [State.col_linkReport, hcolKept _ hn, State.col_setCol_neighbour]
  · rw [State.obj_linkReport, State.bump32, State.obj_setObj_ne _ _ hfails, State.bump32, State.obj_setObj_self, hold t (by omega)]
  · rw [State.obj_linkReport, State.bump32, State.obj_setObj_self, State.bump32, State.obj_setObj_ne _ _ hfails.symm, hold _ hn]
  · rw [State.traffic_linkReport, State.traffic_bump32, State.traffic_bump32, State.traffic_setCol, State.traffic_at]

end

/-! The table of AUTO mode (R38): the links decide it, not the clock. -/

section
variable (s : State) (now t : Nat)

theorem State.at_colUp (k : Nat) : (s.at now).colUp t k = s.colUp t k := rfl

theorem State.at_within (n : Nat) : (s.at now).within t n = s.within t n := by
  induction n with
  | zero => rfl
  | succ n ih => rw [State.within, State.within, ih]; rfl

theorem State.at_hopsUp (d : Nat) : (s.at now).hopsUp t d = s.hopsUp t d := by simp only [State.hopsUp, State.at_within]

theorem State.at_autoRoute (d : Nat) : (s.at now).autoRoute t d = s.autoRoute t d := by
  have hvar : (s.at now).variant = s.variant := rfl
  simp only [State.autoRoute, State.at_hopsUp, State.at_colUp, hvar]

theorem State.at_autoTable : (s.at now).autoTable t = s.autoTable t := by simp only [State.autoTable, State.at_autoRoute]

end

/-- In AUTO mode the table is made again from the links, and nothing else changes (R38, R40). -/
theorem routeRecompute_auto {s : State} (now : Nat) {t : Nat} (hq : s.quiet) (ht : t < s.variant.tiles) (hmode : s.obj (O.ROUTE_MODE t) = 0) :
    Does (.routeRecompute now t) s (fun u => u.obj (O.ROUTE t) = s.autoTable t ∧ SameObjs [O.ROUTE t] s u ∧ u.traffic = s.traffic ∧ u.tiles = s.tiles) := by
  have he : exec (.routeRecompute now t) s = act now (fun a => a.routeRecompute t) s := onTile_fits ht now _
  have hmode' : (s.at now).obj (O.ROUTE_MODE t) = 0 := (State.at_obj s now _).trans hmode
  have hu : (s.at now).routeRecompute t = (s.at now).setObj (O.ROUTE t) (s.autoTable t) := by
    rw [State.routeRecompute, if_pos hmode', State.at_autoTable]
  have hkeep : Keeps (s.at now) ((s.at now).routeRecompute t) := by
    rw [hu]
    exact (Keeps.refl _).setObj _ _
  refine does_of_keeps he hq hkeep ?_
  rw [hu]
  refine ⟨?_, ?_, ?_, ?_⟩
  · rw [State.obj_setObj_self]
  · exact sameObjs_setObj (s.at now) (s.autoTable t) List.mem_cons_self
  · rw [State.traffic_setObj, State.traffic_at]
  · rfl

/-- Settles O39: a frame's way over a col link by the branches of `State.forward`, and each event of a link by what its change of state leaves. -/
theorem fabric : Obligations.Fabric := by
  unfold Obligations.Fabric
  refine ⟨fun s now t fid h c f hq ht hb htr hturn _ => ⟨?_, ?_, ?_, ?_, ?_⟩, fun s now t k hq ht hk hk3 => ⟨?_, ?_, ?_, ?_, ?_⟩⟩
  · exact fun k whole _ hw hr hup hp hfits => linkFrameIn_goesOn hq ht hb htr hturn hw hr hup hp hfits
  · exact fun whole hr => linkFrameIn_unreached hq ht hb htr hturn whole hr
  · exact fun k whole _ hr hup hp => linkFrameIn_tooFar hq ht hb htr hturn whole hr hup hp
  · exact fun k whole _ hw hr hup hp hfull => linkFrameIn_full hq ht hb htr hturn hw hr hup hp hfull
  · exact fun whole x k hplace h0 => linkFrameIn_cellFails hq ht hb htr hturn whole hplace h0
  · exact fun hup hst hsn => colLinkDown_fails hq ht hk hup hst hsn
  · exact fun hcol => does_setCol hq ht hk rfl (if_pos (show (s.at now).col t k = 2 from hcol))
  · exact fun hcol hlate => colTrainTimeout_fails hq ht hk hk3 hcol hlate
  · exact fun hcol hlate hready => does_setCol hq ht hk rfl (if_pos ⟨show (s.at now).col t k = 1 from hcol, decide_eq_true hlate, hready⟩)
  · exact fun hmode => routeRecompute_auto now hq ht hmode

end Sys2Proof.Machine
end

section
/-! An operation on the dictionary (R110, R113): one that reaches this package's dictionary does there what its OP says, and the rest of a command adds nothing. -/

namespace Sys2Proof.Machine

/-! The state in which an operation is judged. -/

section
variable (s : State) (now : Nat) (r : Requester)

@[simp] theorem State.askedAt_obj (k : Nat) : (s.askedAt now r).obj k = s.obj k := rfl
@[simp] theorem State.askedAt_tile (t : Nat) : (s.askedAt now r).tile t = s.tile t := rfl
@[simp] theorem State.askedAt_now : (s.askedAt now r).now = max s.now now := rfl
@[simp] theorem State.askedAt_free : (s.askedAt now r).free = s.free := rfl

theorem keeps_askedAt : Keeps (s.at now) (s.askedAt now r) := Keeps.of_eq rfl rfl rfl rfl rfl rfl

end

/-- What a change that a test does not see leaves of the first entry that passes it. -/
theorem find?_map_of_stable {α : Type} {p : α → Bool} {f : α → α} (h : ∀ x, p (f x) = p x) (l : List α) : (l.map f).find? p = (l.find? p).map f := by
  rw [List.find?_map, show p ∘ f = p from funext h]

/-- An operation of a requester opens and ends no group (R126). -/
theorem State.openGroup_askedAt (s : State) (now : Nat) (r sid : Requester) (h : s.openGroup sid = none) : (s.askedAt now r).openGroup sid = none := by
  refine (find?_map_of_stable (fun g => ?_) s.groups).trans (congrArg _ h)
  split <;> rfl

/-- An operation of a requester opens and ends no session (R140). -/
theorem State.sessionOf_askedAt_eq_none {s : State} {now : Nat} {r sid : Requester} : (s.askedAt now r).sessionOf sid = none ↔ s.sessionOf sid = none := by
  have hfind : (s.askedAt now r).sessions.find? (fun x => x.1 == sid) = (s.sessions.find? (fun x => x.1 == sid)).map _ :=
    find?_map_of_stable (fun x => by split <;> rfl) s.sessions
  simp only [State.sessionOf, hfind, Option.map_eq_none_iff]

theorem State.askedAt_sessions_length (s : State) (now : Nat) (r : Requester) : (s.askedAt now r).sessions.length = s.sessions.length := List.length_map _

/-! A response. -/

section
variable (s : State) (r : Requester) (op code : Nat) (d : Bytes)

@[simp] theorem State.respond_obj (k : Nat) : (s.respond r op code d).obj k = s.obj k := rfl
@[simp] theorem State.respond_tile (t : Nat) : (s.respond r op code d).tile t = s.tile t := rfl

end

/-! An operation that arrives. -/

theorem State.sendRelays_of_nil {s : State} (h : s.relayIn = []) : s.sendRelays = s := by rw [State.sendRelays, h, List.foldl_nil]

/-- An operation that reaches the dictionary has a route, meets no relayed operation, and is carried out in the state in which it is judged. -/
theorem State.perform_reaching {s : State} {now : Nat} {a : Ask} (h : s.reaches now a = true) :
    hasRoute s.variant a.who = true ∧ s.relayIn = [] ∧ (s.at now).perform a = ((s.askedAt now a.who).localOp a).sendRelays := by
  simp only [State.reaches, Bool.and_eq_true, Bool.not_eq_true', List.isEmpty_iff] at h
  obtain ⟨⟨⟨⟨⟨⟨⟨⟨⟨hroute, hup⟩, hdropped⟩, hwait⟩, hpair⟩, hop⟩, hlen⟩, hsession⟩, haway⟩, hrelay⟩ := h
  have hlc : (s.at now).lcCheck = s.at now := if_pos hpair
  have hserve : (s.at now).serve a = (s.askedAt now a.who).localOp a := by
    have hstate : ((s.at now).lcCheck.touchGroup a.who).modSession a.who (fun x => { x with lastAt := (s.at now).now }) = s.askedAt now a.who := by
      rw [hlc]
      rfl
    simp only [State.serve, hstate, hop, hlen, hsession, haway, Bool.not_true, Bool.or_self, Bool.false_eq_true, if_false]
  refine ⟨hroute, hrelay, ?_⟩
  rw [← hserve]
  simp only [State.perform, hup, hdropped, hwait, Bool.not_true, Bool.or_self, Bool.false_eq_true, if_false]

section
variable {c : Instr} {s u : State} {now : Nat} {a : Ask} {P : State → Prop} (he : exec c s = asked now a s) (hq : s.quiet) (hr : s.reaches now a = true)
include he hq hr

/-- A command that asks for an operation which reaches the dictionary completes in what the operation leaves. -/
theorem does_asked (hu : (s.askedAt now a.who).localOp a = u) (hk : Keeps (s.askedAt now a.who) u) (hrelay : u.relayIn = s.relayIn) (hP : P u) :
    Does c s P := by
  obtain ⟨hroute, hnone, hdo⟩ := State.perform_reaching hr
  rw [hu, State.sendRelays_of_nil (hrelay.trans hnone)] at hdo
  exact ⟨u, he.trans ((actIf_true hroute now _ s).trans (act_keeps hdo ((keeps_askedAt s now a.who).trans hk) hq)), hP⟩

/-- An operation whose answer is known. -/
theorem does_answer {r : Requester} {op code : Nat} {d : Bytes} {b : State} (hu : (s.askedAt now a.who).localOp a = answer r op (code, d, b))
    (hk : Keeps (s.askedAt now a.who) b) (hrelay : b.relayIn = s.relayIn) (hP : P (b.respond r op code d)) : Does c s P :=
  does_asked he hq hr hu (hk.respond r op code d) hrelay hP

/-- An operation that is answered and changes nothing. -/
theorem does_answered {r : Requester} {op code : Nat} {d : Bytes} (hu : (s.askedAt now a.who).localOp a = (s.askedAt now a.who).respond r op code d) :
    Does c s (fun u => Answered s u r op code d ∧ SameObjs [] s u ∧ u.tiles = s.tiles ∧ u.datapath = s.datapath) :=
  does_asked he hq hr hu ((Keeps.refl _).respond _ _ _ _) rfl ⟨rfl, fun _ _ => rfl, rfl, rfl⟩

end

end Sys2Proof.Machine
end

section
/-! Reads of the dictionary (R110 to R112): READ, READ_RANGE and DESCRIBE, and what they leave as it was. -/

namespace Sys2Proof.Machine

/-! The key of an operation. -/

theorem Ask.key_of_fits {r : Requester} {op idx sub fresh : Nat} {d : Bytes} {auth : Bool} (hi : idx < 65536) (hs : sub < 256) :
    Ask.key ⟨r, op, idx, sub, d, auth, fresh⟩ = 256 * idx + sub := by
  rw [Ask.key, Nat.mod_eq_of_lt hi, Nat.mod_eq_of_lt hs]

/-! The value of an object. -/

/-- A read leaves the state as it was, draws a free value, or brings the time counts of a port up to date (R527). -/
theorem State.readValue_state (s : State) (r : Requester) (row : Row) (key : Nat) :
    (s.readValue r row key).2 = s ∨ (s.readValue r row key).2 = (s.draw 32).2 ∨ ∃ t n, (s.readValue r row key).2 = s.settleSource t n := by
  unfold State.readValue
  dsimp only
  split
  · exact .inl rfl
  split
  · exact .inl rfl
  split
  · exact .inl rfl
  split
  · exact .inl rfl
  split
  · exact .inl rfl
  split
  · split
    · exact .inl rfl
    · exact .inr (.inl rfl)
  split
  · exact .inr (.inr ⟨_, _, rfl⟩)
  · split <;> exact .inl rfl

theorem Keeps.settleSource {s u : State} (h : Keeps s u) (t n : Nat) : Keeps s (u.settleSource t n) := by
  unfold State.settleSource State.accountPort State.accountLpi
  refine Keeps.ite (Keeps.each (Keeps.ite h ((h.pcnt _ _ _).modPort _ _)) _ _ (fun i a ha => ?_)) h
  unfold State.accountPause
  exact Keeps.ite ha ((ha.pcnt _ _ _).modPort _ _)

section
variable {γ : Type} (p : State → γ) (hp : ∀ a i f, p (State.modPort a i f) = p a) (hc : ∀ a o w, p { a with objs := o, wraps := w } = p a)
include hp hc

theorem State.accountPause_part (s : State) (i prio : Nat) : p (s.accountPause i prio) = p s := by
  unfold State.accountPause
  split
  · rfl
  · exact (hp _ _ _).trans (State.count_part p hc _ _ _)

theorem State.accountLpi_part (s : State) (i : Nat) : p (s.accountLpi i) = p s := by
  unfold State.accountLpi
  split
  · rfl
  · exact (hp _ _ _).trans (State.count_part p hc _ _ _)

/-- Time counts change objects, wrap flags and ports alone. -/
theorem State.settleSource_part (s : State) (t n : Nat) : p (s.settleSource t n) = p s := by
  unfold State.settleSource State.accountPort State.each
  split
  · exact (foldl_keeps p _ (fun a i => State.accountPause_part p hp hc a _ i) _ _).trans (State.accountLpi_part p hp hc s _)
  · rfl

end

section
variable (s : State) (r : Requester) (row : Row) (key : Nat)

theorem keeps_readValue : Keeps s (s.readValue r row key).2 := by
  obtain h | h | ⟨t, n, h⟩ := s.readValue_state r row key <;> rw [h]
  · exact Keeps.refl s
  · exact Keeps.of_eq rfl rfl rfl rfl rfl rfl
  · exact (Keeps.refl s).settleSource t n

theorem State.readValue_responses : (s.readValue r row key).2.responses = s.responses := by
  obtain h | h | ⟨t, n, h⟩ := s.readValue_state r row key <;> rw [h]
  · rfl
  · exact State.settleSource_part State.responses (fun _ _ _ => rfl) (fun _ _ _ => rfl) s t n

theorem State.readValue_relayIn : (s.readValue r row key).2.relayIn = s.relayIn := by
  obtain h | h | ⟨t, n, h⟩ := s.readValue_state r row key <;> rw [h]
  · rfl
  · exact State.settleSource_part State.relayIn (fun _ _ _ => rfl) (fun _ _ _ => rfl) s t n

end

/-! READ. -/

section
variable {s : State} {r : Requester} {key : Nat}

theorem State.readOp_refused (h : s.readCheck r key ≠ 0) : s.readOp r key = (s.readCheck r key, [], s) := by
  unfold State.readOp
  split
  · exact absurd (by assumption) h
  · rfl

theorem State.readOp_served {row : Row} (h : s.readCheck r key = 0) (hrow : rowAt s.variant key = some row) :
    s.readOp r key = (0, natLe (s.readValue r row key).1 row.size, (s.readValue r row key).2) := by
  simp only [State.readOp, h, hrow]

end

/-! READ_RANGE. -/

section
variable {s : State} {r : Requester} {idx sub : Nat}

/-- A range of one value. -/
theorem State.rangeOp_one {row : Row} (hs : sub < 256) (h : s.readCheck r (256 * idx + sub) = 0) (hrow : rowAt s.variant (256 * idx + sub) = some row)
    (hsize : row.size ≤ 511) : ∃ t n, s.rangeOp r idx sub [1] =
      (0, [1] ++ natLe (s.readValue r row (256 * idx + sub)).1 row.size, (s.readValue r row (256 * idx + sub)).2.sweep t 5 n) := by
  have hone : s.rangeValues r idx 1 sub 1 = (1, natLe (s.readValue r row (256 * idx + sub)).1 row.size ++ [], (s.readValue r row (256 * idx + sub)).2) := by
    simp only [State.rangeValues, h, hrow, if_neg (show ¬ 255 < sub by omega), if_neg (show ¬ 512 < 1 + row.size by omega)]
  have hcount : byteAt [1] 0 = 1 := rfl
  simp only [State.rangeOp, hcount, hone, List.length_singleton, ne_eq, not_true_eq_false, if_false, Nat.one_ne_zero, List.append_nil]
  exact ⟨_, _, rfl⟩

/-- A range of no value is refused before its tile is asked. -/
theorem State.rangeOp_none : s.rangeOp r idx sub [0] =
    (if s.readCheck r (256 * idx + sub) = 0 ∨ s.readCheck r (256 * idx + sub) = 0x0C then 0x05 else s.readCheck r (256 * idx + sub), [], s) := rfl

end

theorem Keeps.sweep {s u : State} (h : Keeps s u) (t act n : Nat) : Keeps s (u.sweep t act n) := by
  have hwait : Keeps s (u.budgetWait t act) := by
    unfold State.budgetWait
    exact Keeps.ite h ((h.bump _).modTile _ _ (fun _ => rfl))
  unfold State.sweep State.budgetWaits State.setUsed State.spend
  refine Keeps.ite (h.modTile _ _ (fun _ => rfl)) (Keeps.modTile ?_ _ _ (fun _ => rfl))
  exact Keeps.ite h (hwait.add _ _)

/-- A sweep changes objects and tiles alone (R594). -/
theorem State.sweep_part {γ : Type} (p : State → γ) (ho : ∀ a k v, p (State.setObj a k v) = p a) (hm : ∀ a t f, p (State.modTile a t f) = p a)
    (s : State) (t act n : Nat) : p (s.sweep t act n) = p s := by
  have hwait : p (s.budgetWait t act) = p s := by
    unfold State.budgetWait
    split
    · rfl
    · exact (hm _ _ _).trans (ho _ _ _)
  unfold State.sweep State.budgetWaits
  dsimp only
  split
  · exact hm _ _ _
  · refine (hm _ _ _).trans ?_
    split
    · rfl
    · exact (ho _ _ _).trans hwait

/-! DESCRIBE. -/

theorem State.describeOp_served {s : State} {key : Nat} {row : Row} (hrow : rowAt s.variant key = some row) (hup : s.up (ownerTile s.variant key) = true) :
    s.describeOp key = (0, describe s.variant row key, s) := by
  simp only [State.describeOp, hrow, State.ownerCheck, hup, if_true, ne_eq, not_true_eq_false, if_false]

/-! An object without a rule of its own: AFI_STALL_LIMIT (R105). -/

theorem eq_of_lt_eight {t : Nat} (h : t < 8) : t = 0 ∨ t = 1 ∨ t = 2 ∨ t = 3 ∨ t = 4 ∨ t = 5 ∨ t = 6 ∨ t = 7 := by omega

/-- Where AFI_STALL_LIMIT stands: its tile, and the row that its table gives it. -/
theorem stallLimit_row (v : Variant) : ∀ t < v.tiles, unitOf v (O.AFI_STALL_LIMIT t) = t ∧ ownerTile v (O.AFI_STALL_LIMIT t) = t ∧
    (rowAt v (O.AFI_STALL_LIMIT t)).map (fun row => (row.access, row.effect, row.size)) = some (.rw, .imm, 4) := by
  cases v <;> decide

/-- No view of a port, a tile or the package shows AFI_STALL_LIMIT. -/
theorem State.views_stallLimit (s : State) (r : Requester) {t : Nat} (ht : t < s.variant.tiles) :
    (s.portView t (O.AFI_STALL_LIMIT t) <|> s.tileView r t (O.AFI_STALL_LIMIT t) <|> s.packageView r (O.AFI_STALL_LIMIT t)) = none := by
  have hunit := (stallLimit_row s.variant t ht).1
  have ht8 := tile_lt_eight ht
  unfold State.packageView
  rw [hunit]
  rcases eq_of_lt_eight ht8 with rfl | rfl | rfl | rfl | rfl | rfl | rfl | rfl <;> rfl

theorem State.readValue_stallLimit (s : State) (r : Requester) {t : Nat} {row : Row} (ht : t < s.variant.tiles) (heff : row.effect = .imm) :
    s.readValue r row (O.AFI_STALL_LIMIT t) = (s.obj (O.AFI_STALL_LIMIT t), s) := by
  have hunit := (stallLimit_row s.variant t ht).1
  have hview := s.views_stallLimit r ht
  have ht8 := tile_lt_eight ht
  have hspan : s.spanOnly t (O.AFI_STALL_LIMIT t) = false := by
    have hnone : [O.SPARING t, O.MIN_WIDTH t, O.REJOIN t, O.LANES_UP t, O.RETRY_COUNT t, O.SPARE_EVENTS t, O.RETRY_BUF t].contains (O.AFI_STALL_LIMIT t) = false := by
      rcases eq_of_lt_eight ht8 with rfl | rfl | rfl | rfl | rfl | rfl | rfl | rfl <;> rfl
    rw [State.spanOnly, hnone, Bool.and_false]
  have hsub : keySub (O.AFI_STALL_LIMIT t) ≠ 0 := by simp only [keySub, O.AFI_STALL_LIMIT]; omega
  have hsel : isSelection (O.AFI_STALL_LIMIT t) t = false := by rcases eq_of_lt_eight ht8 with rfl | rfl | rfl | rfl | rfl | rfl | rfl | rfl <;> rfl
  have hidx : keyIndex (O.AFI_STALL_LIMIT t) ≠ 0x7100 + t := by simp only [keyIndex, O.AFI_STALL_LIMIT]; omega
  have hprobe : O.AFI_STALL_LIMIT t ≠ O.TC_PROBE t := Nat.ne_of_lt (by simp only [O.AFI_STALL_LIMIT, O.TC_PROBE]; omega)
  have hppm : O.AFI_STALL_LIMIT t ≠ O.CDR_PPM t := Nat.ne_of_lt (by simp only [O.AFI_STALL_LIMIT, O.CDR_PPM]; omega)
  simp only [State.readValue, hunit, hview, hspan, hsub, hsel, hidx, hprobe, hppm, heff, if_false, Bool.false_eq_true, reduceCtorEq]

/-- A requester that may read finds the object in a tile in service. -/
theorem State.readCheck_stallLimit {s : State} {r : Requester} {t : Nat} (ht : t < s.variant.tiles) (hopen : s.openFor r 1 = true) (hup : s.up t = true) :
    s.readCheck r (O.AFI_STALL_LIMIT t) = 0 := by
  obtain ⟨-, howner, hrow⟩ := stallLimit_row s.variant t ht
  obtain ⟨row, hrow, hfields⟩ := Option.map_eq_some_iff.mp hrow
  have hacc : row.access = .rw := congrArg Prod.fst hfields
  simp [State.readCheck, hrow, firstOf, State.lifeCheck, State.accessCheck, State.rightCheck, State.ownerCheck, howner, hup, hopen, hacc]

/-- Settles O18: each operation reaches the lemma on its answer, and what a read leaves is said once of `State.readValue`. -/
theorem dictionaryReads : Obligations.DictionaryReads := by
  unfold Obligations.DictionaryReads
  intro s now r idx sub hq hi hs
  have hkey {op : Nat} {d : Bytes} : Ask.key ⟨r, op, idx, sub, d, false, 0⟩ = 256 * idx + sub := Ask.key_of_fits hi hs
  have hread : (s.askedAt now r).localOp ⟨r, 1, idx, sub, [], false, 0⟩ = answer r 1 ((s.askedAt now r).readOp r (256 * idx + sub)) :=
    congrArg (fun k => answer r 1 ((s.askedAt now r).readOp r k)) hkey
  have hrange (d : Bytes) : (s.askedAt now r).localOp ⟨r, 3, idx, sub, d, false, 0⟩ = answer r 3 ((s.askedAt now r).rangeOp r idx sub d) := by
    refine Eq.trans (b := answer r 3 ((s.askedAt now r).rangeOp r (idx % 65536) (sub % 256) d)) rfl ?_
    rw [Nat.mod_eq_of_lt hi, Nat.mod_eq_of_lt hs]
  have hdescribe : (s.askedAt now r).localOp ⟨r, 4, idx, sub, [], false, 0⟩ = answer r 4 ((s.askedAt now r).describeOp (256 * idx + sub)) :=
    congrArg (fun k => answer r 4 ((s.askedAt now r).describeOp k)) hkey
  refine ⟨fun hr => ?_, fun hr hok row hrow => ?_, fun t ht hk hr hopen hup => ?_, fun hr hbad => ?_, fun hr hok row hrow hsize => ?_, fun hr => ?_,
    fun hr hup row hrow => ?_⟩
  · exact does_answered rfl hq hr rfl
  · rw [State.readOp_served hok hrow] at hread
    exact does_asked rfl hq hr hread ((keeps_readValue _ _ _ _).respond _ _ _ _) (State.readValue_relayIn (s.askedAt now r) r row _)
      (congrArg (· ++ _) (State.readValue_responses (s.askedAt now r) r row _))
  · obtain ⟨row, hrow, hfields⟩ := Option.map_eq_some_iff.mp (stallLimit_row s.variant t ht).2.2
    have heff : row.effect = .imm := congrArg (fun x => x.2.1) hfields
    have hsize : row.size = 4 := congrArg (fun x => x.2.2) hfields
    have hok := State.readCheck_stallLimit (s := s.askedAt now r) ht hopen hup
    rw [hk, State.readOp_served hok hrow, State.readValue_stallLimit (s.askedAt now r) r ht heff, hsize] at hread
    exact does_answered rfl hq hr hread
  · rw [State.readOp_refused hbad] at hread
    exact does_answered rfl hq hr hread
  · obtain ⟨t, n, hone⟩ := State.rangeOp_one hs hok hrow hsize
    have hu := hrange [1]
    rw [hone] at hu
    refine does_asked rfl hq hr hu (((keeps_readValue _ _ _ _).sweep _ _ _).respond _ _ _ _) ?_ (congrArg (· ++ _) ?_)
    · exact (State.sweep_part State.relayIn (fun _ _ _ => rfl) (fun _ _ _ => rfl) _ _ _ _).trans (State.readValue_relayIn (s.askedAt now r) r row _)
    · exact (State.sweep_part State.responses (fun _ _ _ => rfl) (fun _ _ _ => rfl) _ _ _ _).trans (State.readValue_responses (s.askedAt now r) r row _)
  · exact does_answered rfl hq hr (hrange [0])
  · rw [State.describeOp_served (s := s.askedAt now r) hrow hup] at hdescribe
    exact does_answered rfl hq hr hdescribe

end Sys2Proof.Machine
end

section
/-! The key state of a window (R118 to R120), and the key slots (R121). -/

namespace Sys2Proof.Machine

/-! The key state of a tile's window. -/

/-- The key state of a tile's window is set. -/
def State.setWindowKey (s : State) (t : Nat) (k : KeyState) : State := s.modTile t (fun x => { x with key := k })

@[simp] theorem State.key_setWindowKey (s : State) (t : Nat) (k : KeyState) : ((s.setWindowKey t k).tile t).key = k := by simp [State.setWindowKey]

@[simp] theorem State.obj_setWindowKey (s : State) (t : Nat) (k : KeyState) (j : Nat) : (s.setWindowKey t k).obj j = s.obj j := rfl

@[simp] theorem State.tile_bump32 (s : State) (k t : Nat) : (s.bump32 k).tile t = s.tile t := rfl

theorem Keeps.setWindowKey {s u : State} (h : Keeps s u) (t : Nat) (k : KeyState) : Keeps s (u.setWindowKey t k) := h.modTile t _ (fun _ => rfl)

theorem State.obj_bump32_self (s : State) (k : Nat) : (s.bump32 k).obj k = (s.obj k + 1) % 2 ^ 32 := State.obj_setObj_self _ _ _

theorem State.obj_bump32_ne (s : State) {k j : Nat} (h : j ≠ k) : (s.bump32 k).obj j = s.obj j := State.obj_setObj_ne s _ h

section
variable {s : State} {t : Nat} {data : Bytes}

theorem State.keyChallenge_eq : s.keyChallenge t = (0, natLe (Config.freeValue s.free % 2 ^ 128) 16,
    (s.draw 128).2.setWindowKey t { (s.tile t).key with nonce := some (Config.freeValue s.free % 2 ^ 128) }) := rfl

theorem State.keyLock_eq : s.keyLock t = (0, [], s.setWindowKey t { (s.tile t).key with priv := false }) := rfl

section
variable (hslot : byteAt data 0 ≤ 3)
include hslot

theorem State.keyUnlock_locked (hl : (s.tile t).key.locked = true) : s.keyUnlock t data = (0x13, [], s) := by
  simp only [State.keyUnlock, Nat.not_lt.mpr hslot, hl, if_false, if_true]

variable (hl : (s.tile t).key.locked = false)
include hl

theorem State.keyUnlock_good (hg : s.unlockGood t data = true) : s.keyUnlock t data =
    (0, [], (s.setWindowKey t { (s.tile t).key with priv := true, nonce := none, fails := 0, privAt := s.now }).bump32 (O.KEY_USES (byteAt data 0))) := by
  simp only [State.keyUnlock, Nat.not_lt.mpr hslot, hl, hg, Bool.false_eq_true, if_false, if_true, State.setWindowKey]

theorem State.keyUnlock_bad (hg : s.unlockGood t data = false) (hfew : (s.tile t).key.fails < 3) : s.keyUnlock t data =
    (0x12, [], (s.bump O.WK_FAIL).setWindowKey t { (s.tile t).key with nonce := none, fails := (s.tile t).key.fails + 1 }) := by
  simp only [State.keyUnlock, Nat.not_lt.mpr hslot, hl, hg, Bool.false_eq_true, if_false, show (s.tile t).key.fails + 1 < 4 by omega, if_true,
    State.setWindowKey]

theorem State.keyUnlock_locks (hg : s.unlockGood t data = false) (hmany : ¬ (s.tile t).key.fails < 3) : s.keyUnlock t data =
    (0x12, [], ((s.bump O.WK_FAIL).setWindowKey t
      { (s.tile t).key with nonce := none, fails := 0, locked := true, lockAt := s.now }).bump32 O.WK_LOCKOUTS) := by
  simp only [State.keyUnlock, Nat.not_lt.mpr hslot, hl, hg, Bool.false_eq_true, if_false, show ¬ (s.tile t).key.fails + 1 < 4 by omega,
    State.setWindowKey]

end

theorem State.keyIdle_expires (hp : (s.tile t).key.priv = true) (hlate : (s.tile t).key.privAt + s.obj O.WK_IDLE * secU ≤ s.now) :
    s.keyIdle t = s.setWindowKey t { (s.tile t).key with priv := false } := if_pos ⟨hp, decide_eq_true hlate⟩

theorem State.lockoutEnd_ends (hl : (s.tile t).key.locked = true) (hlate : (s.tile t).key.lockAt + 10 * secU ≤ s.now) :
    s.lockoutEnd t = s.setWindowKey t { (s.tile t).key with locked := false } := if_pos ⟨hl, decide_eq_true hlate⟩

end

/-! KEY_UNLOCK (R118, R120). -/

section
variable {s : State} {now t : Nat} {data : Bytes} (hq : s.quiet) (hr : s.reaches now ⟨.mailbox t, 0x21, 0, 0, data, false, 0⟩ = true)
  (hslot : byteAt data 0 ≤ 3) (hl : (s.tile t).key.locked = false)
include hq hr hslot hl

/-- A good proof makes the window privileged, and counts the use of the slot's key. -/
theorem keyUnlock_privileges (hg : s.unlockGood t data = true) :
    Does (.keyUnlock now t data) s (fun u => (u.tile t).key.priv = true ∧ (u.tile t).key.nonce = none ∧ (u.tile t).key.fails = 0 ∧
      (u.tile t).key.privAt = max s.now now ∧ u.obj (O.KEY_USES (byteAt data 0)) = (s.obj (O.KEY_USES (byteAt data 0)) + 1) % 2 ^ 32 ∧
      Answered s u (.mailbox t) 0x21 0 [] ∧ SameObjs [O.KEY_USES (byteAt data 0)] s u ∧ u.datapath = s.datapath) := by
  have hdo := State.keyUnlock_good (s := s.askedAt now (.mailbox t)) hslot hl hg
  refine does_answer rfl hq hr (congrArg (answer (.mailbox t) 0x21) hdo) (((Keeps.refl _).setWindowKey _ _).bump32 _) rfl
    ⟨?_, ?_, ?_, ?_, ?_, rfl, fun k hk => ?_, rfl⟩
  · simp
  · simp
  · simp
  · simp
  · rw [State.respond_obj, State.obj_bump32_self, State.obj_setWindowKey, State.askedAt_obj]
  · rw [State.respond_obj, State.obj_bump32_ne _ (List.ne_of_not_mem_cons hk), State.obj_setWindowKey, State.askedAt_obj]

/-- A bad proof ends the challenge and is counted; the fourth in a row locks the window. -/
theorem keyUnlock_fails (hg : s.unlockGood t data = false) :
    Does (.keyUnlock now t data) s (fun u => (u.tile t).key.priv = (s.tile t).key.priv ∧ (u.tile t).key.nonce = none ∧
      u.obj O.WK_FAIL = (s.obj O.WK_FAIL + 1) % 2 ^ 64 ∧ Answered s u (.mailbox t) 0x21 0x12 [] ∧
      (if (s.tile t).key.fails < 3 then (u.tile t).key.fails = (s.tile t).key.fails + 1 ∧ (u.tile t).key.locked = false
        else (u.tile t).key.locked = true ∧ (u.tile t).key.lockAt = max s.now now ∧ u.obj O.WK_LOCKOUTS = (s.obj O.WK_LOCKOUTS + 1) % 2 ^ 32) ∧
      SameObjs [O.WK_FAIL, O.WK_LOCKOUTS] s u ∧ u.datapath = s.datapath) := by
  have hne : O.WK_FAIL ≠ O.WK_LOCKOUTS := by decide
  by_cases hfew : (s.tile t).key.fails < 3
  · have hdo := State.keyUnlock_bad (s := s.askedAt now (.mailbox t)) hslot hl hg hfew
    refine does_answer rfl hq hr (congrArg (answer (.mailbox t) 0x21) hdo) (((Keeps.refl _).bump _).setWindowKey _ _) rfl
      ⟨?_, ?_, ?_, rfl, ?_, fun k hk => ?_, rfl⟩
    · simp
    · simp
    · rw [State.respond_obj, State.obj_setWindowKey, State.obj_bump_self, State.askedAt_obj]
    · simp [hfew, hl]
    · rw [State.respond_obj, State.obj_setWindowKey, State.obj_bump_ne _ (List.ne_of_not_mem_cons hk), State.askedAt_obj]
  · have hdo := State.keyUnlock_locks (s := s.askedAt now (.mailbox t)) hslot hl hg hfew
    refine does_answer rfl hq hr (congrArg (answer (.mailbox t) 0x21) hdo) ((((Keeps.refl _).bump _).setWindowKey _ _).bump32 _) rfl
      ⟨?_, ?_, ?_, rfl, ?_, fun k hk => ?_, rfl⟩
    · simp
    · simp
    · rw [State.respond_obj, State.obj_bump32_ne _ hne, State.obj_setWindowKey, State.obj_bump_self, State.askedAt_obj]
    · simp [hfew, State.obj_bump32_self, State.obj_bump_ne _ hne.symm]
    · rw [State.respond_obj, State.obj_bump32_ne _ (List.ne_of_not_mem_cons (List.not_mem_of_not_mem_cons hk)), State.obj_setWindowKey,
        State.obj_bump_ne _ (List.ne_of_not_mem_cons hk), State.askedAt_obj]

end

/-! An accepted write (R113, R125, R130). -/

theorem writeAsk_key {r : Requester} {key : Nat} {data : Bytes} (h : key < 2 ^ 24) : (writeAsk r key data).key = key := by
  simp only [writeAsk, Ask.key, keyIndex, keySub]
  omega

/-- A write that is accepted reaches the dictionary, meets no conflict, and takes its effect there. -/
theorem State.writeOp_accepted {s : State} {now : Nat} {r : Requester} {key : Nat} {data : Bytes} (h : s.accepts now r key data = true) :
    s.reaches now (writeAsk r key data) = true ∧
    ((s.askedAt now r).conflict ((s.askedAt now r).rawSet r key data) r key data).1 = 0 ∧
    (key ≠ O.ETCH_CTL → (s.askedAt now r).writeOp r key data = (((s.askedAt now r).applyWrite r key data).wrote r key).respond r 2 0 []) := by
  simp only [State.accepts, State.passes, Bool.and_eq_true, Bool.not_eq_true', beq_iff_eq] at h
  obtain ⟨⟨⟨⟨⟨⟨hreach, hopen⟩, helse⟩, hholds⟩, hcheck⟩, hetch⟩, hconflict⟩ := h
  have hfree : (s.askedAt now r).groups.any (fun g => g.holds key) = false := by
    simpa only [List.all_eq_true, List.any_eq_false, Bool.not_eq_true', Bool.not_eq_true] using hholds
  refine ⟨hreach, hconflict, fun hctl => ?_⟩
  simp only [State.writeOp, State.writeNow, hcheck, helse, hetch, hopen, hfree, hconflict, hctl, ne_eq, not_true_eq_false, Bool.false_and, Bool.or_self,
    Bool.false_eq_true, if_false]

/-- What a write of an object without the right PRIV leaves behind it: changed groups (R119, R128). -/
theorem State.wrote_groups {s : State} {r : Requester} {key : Nat} {row : Row} (hrow : rowAt s.variant key = some row) (h : row.access ≠ .priv) :
    ∃ f, s.wrote r key = s.modGroups f := by
  unfold State.wrote
  dsimp only
  rw [hrow]
  split
  · rw [if_neg (by simp_all)]
    exact ⟨_, rfl⟩
  · exact ⟨_, rfl⟩

/-! KEY_WRAPPED (R121). -/

theorem eq_of_lt_four {k : Nat} (h : k < 4) : k = 0 ∨ k = 1 ∨ k = 2 ∨ k = 3 := by omega

theorem keyWrapped_row (v : Variant) : ∀ k < 4, unitOf v (O.KEY_WRAPPED k) = k ∧
    (rowAt v (O.KEY_WRAPPED k)).map (fun row => row.access) = some .wo := by
  cases v <;> decide

/-- A key slot takes a key. -/
def State.setKeySlot (s : State) (k : Nat) (v : Bytes) : State := { s with keys := tput (List.replicate 16 0) s.keys k v }

theorem State.keyOf_setKeySlot (s : State) (k j : Nat) (v : Bytes) : (s.setKeySlot k v).keyOf j = if j = k then v else s.keyOf j := tget_tput _ _ _ _ _

section
variable {s : State} {r : Requester} {k : Nat} {data : Bytes}

theorem State.applyWrite_keyWrapped (hk : k < 4) : s.applyWrite r (O.KEY_WRAPPED k) data = s.loadKey k data := by
  have hunit := (keyWrapped_row s.variant k hk).1
  unfold State.applyWrite State.packageEffect
  rw [hunit]
  rcases eq_of_lt_four hk with rfl | rfl | rfl | rfl <;> rfl

theorem State.rawSet_keyWrapped (hk : k < 4) : s.rawSet r (O.KEY_WRAPPED k) data = s.loadKey k data := by
  have hunit := (keyWrapped_row s.variant k hk).1
  unfold State.rawSet
  rw [hunit]
  rcases eq_of_lt_four hk with rfl | rfl | rfl | rfl <;> rfl

theorem orElse_right {x y : Nat × Nat} (h : (orElse x y).1 = 0) : y.1 = 0 := by
  unfold orElse at h
  split at h
  · exact h
  · contradiction

/-- The conflict of a new key is the last that a write may meet. -/
theorem State.keyConflict_of_conflict {a : State} {key : Nat} (h : (s.conflict a r key data).1 = 0) : (s.keyConflict a key data).1 = 0 := by
  unfold State.conflict at h
  simp only [List.foldl_cons, List.foldl_nil] at h
  exact orElse_right h

theorem State.loadKey_eq {v : Bytes} (h : unwrapKey (s.keyOf 0) data = some v) : s.loadKey k data = s.setKeySlot k v := by
  simp only [State.loadKey, h, State.setKeySlot]

theorem State.keyOf_loadKey_ne {j : Nat} (h : j ≠ k) : (s.loadKey k data).keyOf j = s.keyOf j := by
  unfold State.loadKey
  split
  · exact tget_tput_ne _ _ _ _ h
  · rfl

/-- A wrapped key that meets no conflict unwraps under the key of slot 0. -/
theorem State.unwraps_of_no_conflict (hk : k < 4)
    (h : (s.conflict (s.rawSet r (O.KEY_WRAPPED k) data) r (O.KEY_WRAPPED k) data).1 = 0) : ∃ v, unwrapKey (s.keyOf 0) data = some v := by
  have hunit := (keyWrapped_row s.variant k hk).1
  have hkey : (s.keyConflict (s.rawSet r (O.KEY_WRAPPED k) data) (O.KEY_WRAPPED k) data).1 = 0 := State.keyConflict_of_conflict h
  have hzero : (if k = 0 then s else s.loadKey k data).keyOf 0 = s.keyOf 0 := by
    split
    · rfl
    · exact State.keyOf_loadKey_ne (by omega)
  rw [State.keyConflict, hunit, State.rawSet_keyWrapped hk, hzero] at hkey
  cases hv : unwrapKey (s.keyOf 0) data with
  | some v => exact ⟨v, rfl⟩
  | none => simp [hv] at hkey

end

/-- An accepted write of a wrapped key sets its slot, and no other. -/
theorem keyWrappedWrite_loads {s : State} {now k : Nat} {r : Requester} {data : Bytes} (hq : s.quiet) (hk : k < 4)
    (ha : s.accepts now r (O.KEY_WRAPPED k) data = true) :
    Does (.keyWrappedWrite now r k data) s (fun u => Written s u r ∧ unwrapKey (s.keyOf 0) data = some (u.keyOf k) ∧
      (∀ j, j ≠ k → u.keyOf j = s.keyOf j) ∧ SameObjs [] s u) := by
  obtain ⟨hreach, hconflict, hop⟩ := State.writeOp_accepted ha
  obtain ⟨v, hv⟩ := State.unwraps_of_no_conflict (s := s.askedAt now r) hk hconflict
  obtain ⟨row, hrow, hacc⟩ := Option.map_eq_some_iff.mp (keyWrapped_row s.variant k hk).2
  obtain ⟨f, hf⟩ := State.wrote_groups (s := (s.askedAt now r).setKeySlot k v) (r := r) hrow (by rw [hacc]; decide)
  have hwrite := hop (by simp only [O.KEY_WRAPPED, O.ETCH_CTL]; omega)
  rw [State.applyWrite_keyWrapped hk, State.loadKey_eq hv, hf] at hwrite
  have hask : (writeAsk r (O.KEY_WRAPPED k) data).key = O.KEY_WRAPPED k := writeAsk_key (by simp only [O.KEY_WRAPPED]; omega)
  have hu : (s.askedAt now r).localOp (writeAsk r (O.KEY_WRAPPED k) data) = (((s.askedAt now r).setKeySlot k v).modGroups f).respond r 2 0 [] :=
    (congrArg (fun j => (s.askedAt now r).writeOp r j data) hask).trans hwrite
  have he : exec (.keyWrappedWrite now r k data) s = asked now (writeAsk r (O.KEY_WRAPPED k) data) s :=
    congrArg (fun key => asked now (writeAsk r key data) s) (if_pos (decide_eq_true hk))
  have hslot := State.keyOf_setKeySlot (s.askedAt now r) k
  refine does_asked he hq hreach hu (Keeps.of_eq rfl rfl rfl rfl rfl rfl) rfl ⟨rfl, ?_, fun j hj => ?_, fun _ _ => rfl⟩
  · exact hv.trans (congrArg some ((hslot k v).trans (if_pos rfl)).symm)
  · exact (hslot j v).trans (if_neg hj)

/-- Settles O21: each command of the window's key state by the equation of its operation, and a wrapped key by what an accepted write does. -/
theorem windowKeys : Obligations.WindowKeys := by
  unfold Obligations.WindowKeys
  refine fun s now t data hq ht => ⟨fun hr => ?_, fun hr hslot hl hg => keyUnlock_privileges hq hr hslot hl hg,
    fun hr hslot hl hg => keyUnlock_fails hq hr hslot hl hg, fun hr hslot hl => ?_, fun hr => ?_, fun hp hlate => ?_, fun hl hlate => ?_,
    fun r k hk ha => keyWrappedWrite_loads hq hk ha⟩
  · have hdraw : Keeps (s.askedAt now (.mailbox t)) ((s.askedAt now (.mailbox t)).draw 128).2 := Keeps.of_eq rfl rfl rfl rfl rfl rfl
    refine does_answer rfl hq hr (congrArg (answer (.mailbox t) 0x20) State.keyChallenge_eq) (hdraw.setWindowKey _ _) rfl
      ⟨?_, rfl, rfl, ?_, fun _ _ => rfl, rfl⟩ <;> simp
  · exact does_answered rfl hq hr (congrArg (answer (.mailbox t) 0x21) (State.keyUnlock_locked (s := s.askedAt now (.mailbox t)) hslot hl))
  · refine does_answer rfl hq hr (congrArg (answer (.mailbox t) 0x22) State.keyLock_eq) ((Keeps.refl _).setWindowKey _ _) rfl
      ⟨?_, rfl, fun _ _ => rfl, rfl⟩
    simp
  · have hu := State.keyIdle_expires (s := s.at now) hp hlate
    refine ⟨_, (onTile_fits ht now _).trans (act_keeps hu ((Keeps.refl _).setWindowKey _ _) hq), ?_, rfl, fun _ _ => rfl, rfl⟩
    simp
  · have hu := State.lockoutEnd_ends (s := s.at now) hl hlate
    refine ⟨_, (onTile_fits ht now _).trans (act_keeps hu ((Keeps.refl _).setWindowKey _ _) hq), ?_, rfl, fun _ _ => rfl, rfl⟩
    simp

end Sys2Proof.Machine
end

section
/-! The sessions of clients (R138, R140): the exchange that opens one, its proof, and its end. -/

namespace Sys2Proof.Machine

/-! Parts of the state that name a client. -/

/-- The exchange of a session's client ends. -/
def State.dropChallenge (s : State) (sid : Requester) : State := { s with challenges := s.challenges.filter (fun x => x.1 != sid) }

/-- A session is no longer open. -/
def State.dropSession (s : State) (sid : Requester) : State := { s with sessions := s.sessions.filter (fun x => x.1 != sid) }

/-- A session opens. -/
def State.addSession (s : State) (sid : Requester) (x : Session) : State := { s with sessions := s.sessions ++ [(sid, x)] }

theorem find?_filter_ne {α : Type} (l : List (Requester × α)) (sid : Requester) : (l.filter (fun x => x.1 != sid)).find? (fun x => x.1 == sid) = none := by
  rw [List.find?_eq_none]
  intro x hx
  simpa using (List.mem_filter.mp hx).2

section
variable (s : State) (sid : Requester)

theorem State.challengeOf_dropChallenge : (s.dropChallenge sid).challengeOf sid = none := congrArg (Option.map _) (find?_filter_ne s.challenges sid)

theorem State.sessionOf_dropSession : (s.dropSession sid).sessionOf sid = none := congrArg (Option.map _) (find?_filter_ne s.sessions sid)

end

theorem State.sessionOf_addSession {s : State} {sid : Requester} (h : s.sessionOf sid = none) (x : Session) : (s.addSession sid x).sessionOf sid = some x := by
  have hnone : s.sessions.find? (fun x => x.1 == sid) = none := Option.map_eq_none_iff.mp h
  simp only [State.sessionOf, State.addSession, List.find?_append, hnone, Option.none_or, List.find?_singleton, beq_self_eq_true, if_true, Option.map_some]

/-! The operations on sessions. -/

/-- A client's operations on its session, by OP. -/
theorem State.secureOp_client {s : State} {a : Ask} {sid : Requester} (h : sessionId a.who = some sid) : s.secureOp a =
    if a.op = 0x40 then answer (outside sid) (if (s.sessionOpen sid a.data).1 = 0 then 0x41 else 0x40) (s.sessionOpen sid a.data)
    else if a.op = 0x42 then answer (if (s.sessionProve sid a.auth a.fresh a.data).1 = 0 then sid else outside sid)
      (if (s.sessionProve sid a.auth a.fresh a.data).1 = 0 then 0x43 else 0x42) (s.sessionProve sid a.auth a.fresh a.data)
    else answer a.who 0x44 (s.sessionClose sid) := by
  unfold State.secureOp
  rw [h]
  split
  · next hwho =>
      rw [hwho] at h
      cases h
  · next hsid _ =>
      cases hsid
      rfl
  · next hsid _ => cases hsid

section
variable {s : State} {sid : Requester} {data : Bytes}

theorem State.sessionOpen_opens (hslot : byteAt data 0 ≤ 3) (hrole : bit (s.obj (O.KEY_ROLE (byteAt data 0))) (routeRole sid) = true)
    (hnone : s.sessionOf sid = none) (hroom : s.sessions.length < 4) : s.sessionOpen sid data =
    (0, natLe (Config.freeValue s.free % 2 ^ 64) 8, { (s.draw 64).2 with
      challenges := (sid, ⟨byteAt data 0, slice data 1 8, natLe (Config.freeValue s.free % 2 ^ 64) 8⟩) :: s.challenges.filter (fun x => x.1 != sid) }) := by
  have hleft : ¬ 4 ≤ (s.sessions.filter (fun x => x.1 != sid)).length := by
    have := List.length_filter_le (fun x => x.1 != sid) s.sessions
    omega
  have hend : s.endSession sid = s := by simp only [State.endSession, hnone, Option.isNone_none, if_true]
  simp only [State.sessionOpen, Nat.not_lt.mpr hslot, hrole, hleft, hend, Bool.not_true, Bool.false_eq_true, if_false]
  rfl

section
variable {c : Challenge} {auth : Bool} {fresh : Nat} (hc : s.challengeOf sid = some c)
include hc

theorem State.sessionProve_opens (hdata : data = tag8 (s.sessionKey sid c) (c.nc ++ c.nn)) (hroom : s.sessions.length < 4) :
    s.sessionProve sid true 1 data = (0, natLe (s.obj (O.KEY_ROLE c.slot)) 1,
      ((s.dropChallenge sid).addSession sid ⟨c.slot, s.sessionKey sid c, 1, 0, 0, s.now⟩).bump32 (O.KEY_USES c.slot)) := by
  simp only [State.sessionProve, hc, ← hdata, Bool.not_true, Bool.false_eq_true, ne_eq, not_true_eq_false, or_self, if_false, Nat.not_le.mpr hroom]
  rfl

theorem State.sessionProve_fails (hbad : auth = false ∨ fresh ≠ 1 ∨ data ≠ tag8 (s.sessionKey sid c) (c.nc ++ c.nn)) :
    s.sessionProve sid auth fresh data = (0x12, [], s.dropChallenge sid) := by
  have hif : !auth ∨ fresh ≠ 1 ∨ data ≠ tag8 (s.sessionKey sid c) (c.nc ++ c.nn) := by rwa [Bool.not_eq_true']
  simp only [State.sessionProve, hc, if_pos hif]
  rfl

end

theorem State.etchLeft_of_none (h : s.etch = none) : s.etchLeft sid = s := by rw [State.etchLeft, h]

/-- With no etch open, the end of a session aborts the client's open group alone (R126, R140). -/
theorem State.endSession_of_no_etch (hsome : s.sessionOf sid ≠ none) (hetch : s.etch = none) : s.endSession sid = (s.dropSession sid).groupAbortSelf sid := by
  have hnone : (s.sessionOf sid).isNone = false := by rwa [Option.isNone_eq_false_iff, Option.isSome_iff_ne_none]
  have hkept : ((s.dropSession sid).groupAbortSelf sid).etch = none := by
    unfold State.groupAbortSelf
    split <;> exact hetch
  rw [State.endSession, hnone]
  exact (if_neg Bool.false_ne_true).trans (State.etchLeft_of_none hkept)

theorem State.groupAbortSelf_of_none (h : s.openGroup sid = none) : s.groupAbortSelf sid = s := by
  simp only [State.groupAbortSelf, h, Option.isSome_none, Bool.false_eq_true, if_false]

/-- After an abort the requester has no open group. -/
theorem State.openGroup_groupAbortSelf : (s.groupAbortSelf sid).openGroup sid = none := by
  cases h : s.openGroup sid with
  | none => rw [State.groupAbortSelf_of_none h, h]
  | some g =>
    simp only [State.groupAbortSelf, h, Option.isSome_some, if_true]
    refine List.find?_eq_none.mpr (fun x hx => ?_)
    rw [Bool.not_eq_true, ← Bool.not_eq_true']
    exact (List.mem_filter.mp hx).2

theorem State.obj_groupAbortSelf : (s.groupAbortSelf sid).obj O.GROUP_ABORTS =
    if s.openGroup sid = none then s.obj O.GROUP_ABORTS else (s.obj O.GROUP_ABORTS + 1) % 2 ^ 64 := by
  cases h : s.openGroup sid with
  | none => rw [State.groupAbortSelf_of_none h, if_pos rfl]
  | some g =>
    simp only [State.groupAbortSelf, h, Option.isSome_some, if_true, reduceCtorEq, if_false]
    exact State.obj_bump_self _ _

/-- An abort changes groups and objects alone. -/
theorem State.groupAbortSelf_part {γ : Type} (p : State → γ) (hp : ∀ a g o, p { a with groups := g, objs := o } = p a) : p (s.groupAbortSelf sid) = p s := by
  unfold State.groupAbortSelf
  split
  · exact hp s _ _
  · rfl

theorem groupAbortSelf_sameObjs : SameObjs [O.GROUP_ABORTS] s (s.groupAbortSelf sid) := by
  unfold State.groupAbortSelf
  split
  · exact sameObjs_setObj (s.closeGroup sid) _ List.mem_cons_self
  · exact fun _ _ => rfl

theorem Keeps.groupAbortSelf {u : State} (h : Keeps s u) (sid : Requester) : Keeps s (u.groupAbortSelf sid) := by
  unfold State.groupAbortSelf
  exact Keeps.ite (h.trans (of_eq rfl rfl rfl rfl rfl rfl)) h

end

/-! The commands. -/

section
variable {s : State} {now : Nat} {r sid : Requester} {data : Bytes} (hq : s.quiet) (hid : sessionId r = some sid)
include hq hid

/-- A client that asks for a session gets a node nonce. -/
theorem sessionOpen_exchange (hr : s.reaches now ⟨r, 0x40, 0, 0, data, false, 0⟩ = true) (hslot : byteAt data 0 ≤ 3)
    (hrole : bit (s.obj (O.KEY_ROLE (byteAt data 0))) (routeRole sid) = true) (hnone : s.sessionOf sid = none) (hroom : s.sessions.length < 4) :
    Does (.sessionOpen now r data) s (fun u => Answered s u (outside sid) 0x41 0 (natLe (Config.freeValue s.free % 2 ^ 64) 8) ∧
      u.challengeOf sid = some ⟨byteAt data 0, slice data 1 8, natLe (Config.freeValue s.free % 2 ^ 64) 8⟩ ∧ u.free = s.free + 1 ∧ SameObjs [] s u ∧
      u.tiles = s.tiles ∧ u.datapath = s.datapath) := by
  have hnone' := State.sessionOf_askedAt_eq_none (now := now) (r := r).mpr hnone
  have hroom' : (s.askedAt now r).sessions.length < 4 := (State.askedAt_sessions_length s now r).symm ▸ hroom
  have hu := State.secureOp_client (s := s.askedAt now r) (a := ⟨r, 0x40, 0, 0, data, false, 0⟩) hid
  dsimp only at hu
  rw [if_pos rfl, State.sessionOpen_opens (s := s.askedAt now r) hslot hrole hnone' hroom', if_pos rfl] at hu
  refine does_answer rfl hq hr hu (Keeps.of_eq rfl rfl rfl rfl rfl rfl) rfl ⟨rfl, ?_, rfl, fun _ _ => rfl, rfl, rfl⟩
  simp [State.challengeOf, State.respond]

/-- A proof under the slot's key opens the session. -/
theorem sessionProve_session {c : Challenge} (hr : s.reaches now ⟨r, 0x42, 0, 0, data, true, 1⟩ = true) (hc : s.challengeOf sid = some c)
    (hdata : data = tag8 (s.sessionKey sid c) (c.nc ++ c.nn)) (hnone : s.sessionOf sid = none) (hroom : s.sessions.length < 4) :
    Does (.sessionProve now r true 1 data) s (fun u => Answered s u sid 0x43 0 (natLe (s.obj (O.KEY_ROLE c.slot)) 1) ∧ u.challengeOf sid = none ∧
      u.sessionOf sid = some ⟨c.slot, s.sessionKey sid c, 1, 0, 0, max s.now now⟩ ∧
      u.obj (O.KEY_USES c.slot) = (s.obj (O.KEY_USES c.slot) + 1) % 2 ^ 32 ∧ SameObjs [O.KEY_USES c.slot] s u ∧ u.tiles = s.tiles ∧
      u.datapath = s.datapath) := by
  have hnone' := State.sessionOf_askedAt_eq_none (now := now) (r := r).mpr hnone
  have hroom' : (s.askedAt now r).sessions.length < 4 := (State.askedAt_sessions_length s now r).symm ▸ hroom
  have hu := State.secureOp_client (s := s.askedAt now r) (a := ⟨r, 0x42, 0, 0, data, true, 1⟩) hid
  dsimp only at hu
  rw [if_neg (by decide), if_pos rfl, State.sessionProve_opens (s := s.askedAt now r) hc hdata hroom', if_pos rfl, if_pos rfl] at hu
  refine does_answer rfl hq hr hu (Keeps.of_eq rfl rfl rfl rfl rfl rfl) rfl ⟨rfl, ?_, ?_, ?_, fun k hk => ?_, rfl, rfl⟩
  · exact State.challengeOf_dropChallenge (s.askedAt now r) sid
  · exact State.sessionOf_addSession (s := (s.askedAt now r).dropChallenge sid) hnone' _
  · exact State.obj_bump32_self ((s.askedAt now r).dropChallenge sid) (O.KEY_USES c.slot)
  · exact State.obj_bump32_ne ((s.askedAt now r).dropChallenge sid) (List.ne_of_not_mem_cons hk)

/-- A proof that fails ends the exchange. -/
theorem sessionProve_refused {c : Challenge} {auth : Bool} {fresh : Nat} (hr : s.reaches now ⟨r, 0x42, 0, 0, data, auth, fresh⟩ = true)
    (hc : s.challengeOf sid = some c) (hbad : auth = false ∨ fresh ≠ 1 ∨ data ≠ tag8 (s.sessionKey sid c) (c.nc ++ c.nn)) :
    Does (.sessionProve now r auth fresh data) s (fun u => Answered s u (outside sid) 0x42 0x12 [] ∧ u.challengeOf sid = none ∧ SameObjs [] s u ∧
      u.tiles = s.tiles ∧ u.datapath = s.datapath) := by
  have hu := State.secureOp_client (s := s.askedAt now r) (a := ⟨r, 0x42, 0, 0, data, auth, fresh⟩) hid
  dsimp only at hu
  rw [if_neg (by decide), if_pos rfl, State.sessionProve_fails (s := s.askedAt now r) hc hbad] at hu
  have hcode : (0x12 : Nat) ≠ 0 := by decide
  simp only [hcode, if_false] at hu
  exact does_answer rfl hq hr hu (Keeps.of_eq rfl rfl rfl rfl rfl rfl) rfl
    ⟨rfl, State.challengeOf_dropChallenge (s.askedAt now r) sid, fun _ _ => rfl, rfl, rfl⟩

/-- A close ends the session. -/
theorem sessionClose_ends (hr : s.reaches now ⟨r, 0x44, 0, 0, [], false, 0⟩ = true) (hsome : s.sessionOf sid ≠ none) (hgroup : s.openGroup sid = none)
    (hetch : s.etch = none) :
    Does (.sessionClose now r []) s (fun u => Answered s u r 0x44 0 [] ∧ u.sessionOf sid = none ∧ SameObjs [] s u ∧ u.tiles = s.tiles ∧
      u.datapath = s.datapath) := by
  have hisSome : (s.askedAt now r).sessionOf sid ≠ none := fun h => hsome (State.sessionOf_askedAt_eq_none.mp h)
  have hclose : (s.askedAt now r).sessionClose sid = (0, [], (s.askedAt now r).dropSession sid) := by
    rw [State.sessionClose, if_neg (by simpa using hisSome), State.endSession_of_no_etch hisSome hetch,
      State.groupAbortSelf_of_none (s := (s.askedAt now r).dropSession sid) (State.openGroup_askedAt s now r sid hgroup)]
  have hu := State.secureOp_client (s := s.askedAt now r) (a := ⟨r, 0x44, 0, 0, [], false, 0⟩) hid
  dsimp only at hu
  rw [if_neg (by decide), if_neg (by decide), hclose] at hu
  exact does_answer rfl hq hr hu (Keeps.of_eq rfl rfl rfl rfl rfl rfl) rfl
    ⟨rfl, State.sessionOf_dropSession (s.askedAt now r) sid, fun _ _ => rfl, rfl, rfl⟩

/-- A session without a message for ZW_SESSION_IDLE ends, and its open group with it. -/
theorem zwSessionIdle_ends {x : Session} (hx : s.sessionOf sid = some x) (hlate : x.lastAt + s.obj O.ZW_SESSION_IDLE * secU ≤ max s.now now)
    (hetch : s.etch = none) :
    Does (.zwSessionIdle now r) s (fun u => u.sessionOf sid = none ∧ u.openGroup sid = none ∧
      u.obj O.GROUP_ABORTS = (if s.openGroup sid = none then s.obj O.GROUP_ABORTS else (s.obj O.GROUP_ABORTS + 1) % 2 ^ 64) ∧
      SameObjs [O.GROUP_ABORTS] s u ∧ u.responses = s.responses ∧ u.tiles = s.tiles ∧ u.datapath = s.datapath) := by
  have hx' : (s.at now).sessionOf sid = some x := hx
  have hidle : (s.at now).sessionIdle sid = ((s.at now).dropSession sid).groupAbortSelf sid := by
    rw [State.sessionIdle, hx']
    exact (if_pos (decide_eq_true hlate)).trans (State.endSession_of_no_etch (hx' ▸ Option.some_ne_none x) hetch)
  have hpart {γ : Type} (p : State → γ) (hp : ∀ a g o, p { a with groups := g, objs := o } = p a) :
      p (((s.at now).dropSession sid).groupAbortSelf sid) = p ((s.at now).dropSession sid) := State.groupAbortSelf_part p hp
  have hkeep : Keeps (s.at now) ((s.at now).dropSession sid) := Keeps.of_eq rfl rfl rfl rfl rfl rfl
  refine ⟨_, act_keeps (by rw [hid]; exact hidle) (hkeep.groupAbortSelf sid) hq, ?_, State.openGroup_groupAbortSelf, ?_, ?_, ?_, ?_, ?_⟩
  · exact (hpart (fun a => a.sessionOf sid) (fun _ _ _ => rfl)).trans (State.sessionOf_dropSession (s.at now) sid)
  · exact State.obj_groupAbortSelf (s := (s.at now).dropSession sid)
  · exact groupAbortSelf_sameObjs (s := (s.at now).dropSession sid)
  · exact hpart State.responses (fun _ _ _ => rfl)
  · exact hpart State.tiles (fun _ _ _ => rfl)
  · exact hpart State.datapath (fun _ _ _ => rfl)

end

/-- Settles O22: each command by the equation of its operation, and the end of a session by what it drops and what an abort leaves. -/
theorem sessions : Obligations.Sessions := by
  unfold Obligations.Sessions
  refine fun s now r sid data hq hid => ⟨fun hr hslot hrole hnone hroom => sessionOpen_exchange hq hid hr hslot hrole hnone hroom,
    fun c hr hc hdata hnone hroom => sessionProve_session hq hid hr hc hdata hnone hroom, fun c auth fresh hr hc hbad => sessionProve_refused hq hid hr hc hbad,
    fun hr hsome hgroup hetch => sessionClose_ends hq hid hr hsome hgroup hetch, fun x hx hlate hetch => zwSessionIdle_ends hq hid hx hlate hetch⟩

end Sys2Proof.Machine
end
